-- ==== Sys2Proof/Word.lean ====
section
/-! DEFINITION. The words the part is made of: bytes on the line (R197), wrapping 32-bit counters (0.9 of
00_scope.md), and the bounds of the counts that saturate. -/

namespace Sys2Proof

/-- One byte of a frame (R197). -/
abbrev Byte := BitVec 8

/-- A 32-bit counter, wrapping from 4,294,967,295 to 0 (0.9 of 00_scope.md). -/
abbrev Counter := BitVec 32

/-- The largest value of a 32-bit count that stays there: the generation (R8) and part time (R212). -/
abbrev max32 : Nat := 4294967295

/-- The largest value of an outage accumulator (R189). -/
abbrev max40 : Nat := 1099511627775

end Sys2Proof
end

