-- ==== Sys2Proof/Config.lean ====
section
/-! DEFINITION. Capacities of the part (00_scope.md, "Capacities") and the free values: what the manual leaves
open although the part goes on. A free value is an opaque constant applied to a count of draws, so nothing can be
proved of it beyond what holds for every value. -/

namespace Sys2Proof.Config

/-- Node ids run from 0 to this value (R1). -/
abbrev maxNode : Nat := 4095
/-- Link ids run from 0 to this value (R2). -/
abbrev maxLink : Nat := 6143
/-- Station ids run from 0 to this value (R54). -/
abbrev maxStation : Nat := 511
/-- A service count, and a relight count, runs from 0 to this value (R2, R169). -/
abbrev maxService : Nat := 4095
/-- Slots of the locator table (R24). -/
abbrev locatorEntries : Nat := 512
/-- Tags the tag table holds (R22). -/
abbrev tagSlots : Nat := 64
/-- Slots of the incident table (R82). -/
abbrev incidentSlots : Nat := 256
/-- Call references of one incident (R82). -/
abbrev callRefs : Nat := 16
/-- Isolation slots (R109). -/
abbrev isolationSlots : Nat := 32
/-- Closure members of one isolation (R36). -/
abbrev closureMembers : Nat := 48
/-- Holders of one valve or regulator (R123). -/
abbrev holdersPerLink : Nat := 4
/-- Order records the order table holds (R139). -/
abbrev orderRecords : Nat := 256
/-- Outstanding orders (R139). -/
abbrev outstandingOrders : Nat := 128
/-- Entries of the trace FIFO (R28). -/
abbrev traceFifo : Nat := 8
/-- Outage record slots (R175). -/
abbrev outageSlots : Nat := 64
/-- Frames the inbound queue holds (R200). -/
abbrev inboundFrames : Nat := 16
/-- Replies the reply buffer holds (R201). -/
abbrev replyBuffer : Nat := 8
/-- Entries of the notice queue (R202). -/
abbrev noticeQueue : Nat := 64
/-- Free notice places at which RESYNC is queued (R203). -/
abbrev resyncFree : Nat := 16
/-- The largest payload of a frame (R197). -/
abbrev maxPayload : Nat := 1016

/-- What a recompute reads at a moment that R43 leaves open. -/
inductive Reading where
  /-- Whether a node is a feeding source. -/
  | source (node : Nat)
  /-- A link, from the end at which the flood comes to it. -/
  | link (node link : Nat)
  /-- The ends by which a pipe is fed. -/
  | pipe (link : Nat)
  deriving DecidableEq, Repr

/-- FREE VALUE [8]: at which of the moments that passed while a recompute ran its flood was ready to read one thing (R43:
"as they stand when it reaches each link"). First argument: the draw. -/
opaque readMoment : Nat → Reading → Nat

/-- FREE VALUE [9]: when, among the changes made while a table check ran, it reached an item that reads another
block (R15: "as they stand when it reaches item 6"). -/
opaque checkMoment : Nat → Nat

end Sys2Proof.Config
end

