-- ==== Sys2Proof/Syntax.lean ====
section
/-! DEFINITION. The commands of the part: one constructor for each row of spec/opcode_table.json.

The part has one way in, the serial line. A request row is the owning block's step on the CURRENT REQUEST, the frame
at the head of the inbound queue after REQUEST_DISPATCH has handed it over (R200); its operands are the fields of that
frame's payload, so the constructor carries none (log entry 1). A timer row carries the object whose timer it is; the
link rows carry what the line brings. -/

namespace Sys2Proof

/-- The rate strap pin as power-on finds it (R196). -/
inductive Strap where
  | low
  | high
  deriving DecidableEq, Repr

/-- One byte time on the receive line: a byte, or one whose stop bit was found low (R198). -/
inductive LineByte where
  | byte (b : Byte)
  | framingError
  deriving DecidableEq, Repr

/-- One constructor for each row of spec/opcode_table.json, in the table's order. -/
inductive Instr where
  /-- POWER_ON (R196). -/
  | powerOn (strap : Strap)
  /-- PART_TIME_TICK (R212). -/
  | partTimeTick
  /-- MINUTE_BOUNDARY (R188). -/
  | minuteBoundary
  /-- FRAME_RECEIVED (R198). -/
  | frameReceived (bytes : List LineByte)
  /-- GAP_ABORT (R198). -/
  | gapAbort
  /-- LINE_BREAK (R215). -/
  | lineBreak
  /-- REQUEST_DISPATCH (R200). -/
  | requestDispatch
  /-- UNKNOWN_KIND (R200). -/
  | unknownKind
  /-- TRANSMIT_COMPLETE (R205). -/
  | transmitComplete
  /-- EDIT_BEGIN_LINKS (R9). -/
  | editBeginLinks
  /-- EDIT_BEGIN_FULL (R9). -/
  | editBeginFull
  /-- EDIT_END (R10). -/
  | editEnd
  /-- EDIT_REVOKE (R11). -/
  | editRevoke
  /-- TABLE_BEGIN (R13). -/
  | tableBegin
  /-- TABLE_BLOCK (R14). -/
  | tableBlock
  /-- TABLE_CHECK_COMPLETE (R15). -/
  | tableCheckComplete
  /-- LINK_EDIT_CREATE (R20). -/
  | linkEditCreate
  /-- LINK_EDIT_CHANGE (R20). -/
  | linkEditChange
  /-- LINK_EDIT_REMOVE (R20). -/
  | linkEditRemove
  /-- NODE_EDIT_CREATE (R21). -/
  | nodeEditCreate
  /-- NODE_EDIT_CHANGE (R21). -/
  | nodeEditChange
  /-- NODE_EDIT_REMOVE (R21). -/
  | nodeEditRemove
  /-- TAG_SET (R22). -/
  | tagSet
  /-- TAG_CLEAR (R23). -/
  | tagClear
  /-- LOCATOR_SET (R24). -/
  | locatorSet
  /-- STATION_SET_DEFINE (R57). -/
  | stationSetDefine
  /-- STATION_SET_REMOVE (R57). -/
  | stationSetRemove
  /-- STATION_READ (R72). -/
  | stationRead
  /-- STATION_READ_CLEAR (R72). -/
  | stationReadClear
  /-- TELEMETRY (R59). -/
  | telemetry
  /-- STALENESS_EXPIRY (R71). -/
  | stalenessExpiry (station : Nat)
  /-- CALL (R85). -/
  | call
  /-- INCIDENT_UPDATE (R100). -/
  | incidentUpdate
  /-- INCIDENT_DEADLINE_EXPIRY (R102). -/
  | incidentDeadlineExpiry (incident : Nat)
  /-- ISOLATE (R114). -/
  | isolate
  /-- TRACE_COMPLETION (R40). -/
  | traceCompletion
  /-- RECOMPUTE_COMPLETION (R44). -/
  | recomputeCompletion
  /-- AUTHORISE (R118). -/
  | authorise
  /-- CANCEL (R127). -/
  | cancel
  /-- ACCEPT (R130). -/
  | accept
  /-- ISOLATION_RELEASE (R134). -/
  | isolationRelease
  /-- ISOLATION_READ (R135). -/
  | isolationRead
  /-- VERIFY_TIMER_EXPIRY (R129). -/
  | verifyTimerExpiry (slot : Nat)
  /-- VALVE_REPORT_ACCEPT (R147). -/
  | valveReportAccept
  /-- VALVE_REPORT_OPERATED (R149). -/
  | valveReportOperated
  /-- VALVE_REPORT_CANNOT_OPERATE (R151). -/
  | valveReportCannotOperate
  /-- VALVE_REPORT_FOUND (R152). -/
  | valveReportFound
  /-- ORDER_OVERDUE (R145). -/
  | orderOverdue (order : Nat)
  /-- RESTORE (R156). -/
  | restore
  /-- RAMP_START_TIMER_EXPIRY (R162). -/
  | rampStartTimerExpiry (slot : Nat)
  /-- RAMP_RESUME (R166). -/
  | rampResume
  /-- RECLOSE (R167). -/
  | reclose
  /-- RELIGHT_REPORT (R170). -/
  | relightReport
  /-- CLOSE_OUT (R172). -/
  | closeOut
  /-- OUTAGE_RELEASE (R179). -/
  | outageRelease
  /-- WEIGHTS_SET (R190). -/
  | weightsSet
  /-- LIST (R206). -/
  | list
  /-- STATUS (R208). -/
  | status
  /-- RIGHTS_SET (R210). -/
  | rightsSet
  /-- NOTICE_MASK (R204). -/
  | noticeMask
  /-- TIME_SET (R212). -/
  | timeSet
  /-- SETTINGS_SET (R213). -/
  | settingsSet
  /-- SETTINGS_READ (R213). -/
  | settingsRead
  /-- RESET_OPERATIONS (R214). -/
  | resetOperations
  /-- RESET_LINK (R214). -/
  | resetLink
  /-- LINE_RETURNS_HIGH (R215). -/
  | lineReturnsHigh
  deriving DecidableEq, Repr

end Sys2Proof
end

