-- ==== Sys2Proof/WellFormed.lean ====
section
/-! DEFINITION. The static checks on a command: the operand of a timer row names an object the part can have, and the
bytes of a FRAME_RECEIVED are at least one. The checks are on the command alone; whether its event can occur is the
machine's to say. -/

namespace Sys2Proof

/-- The operand of a command is one the part can have (00_scope.md, 0.7). -/
def Instr.wellFormed : Instr → Bool
  | .frameReceived bytes => !bytes.isEmpty
  | .stalenessExpiry station => station ≤ Config.maxStation
  | .incidentDeadlineExpiry incident => 1 ≤ incident && incident ≤ 65535
  | .verifyTimerExpiry slot => slot < Config.isolationSlots
  | .orderOverdue order => 1 ≤ order && order ≤ 65535
  | .rampStartTimerExpiry slot => slot < Config.isolationSlots
  | .powerOn _ | .partTimeTick | .minuteBoundary | .gapAbort | .lineBreak | .requestDispatch | .unknownKind
  | .transmitComplete | .editBeginLinks | .editBeginFull | .editEnd | .editRevoke | .tableBegin | .tableBlock
  | .tableCheckComplete | .linkEditCreate | .linkEditChange | .linkEditRemove | .nodeEditCreate
  | .nodeEditChange | .nodeEditRemove | .tagSet | .tagClear | .locatorSet | .stationSetDefine
  | .stationSetRemove | .stationRead | .stationReadClear | .telemetry | .call | .incidentUpdate | .isolate
  | .traceCompletion | .recomputeCompletion | .authorise | .cancel | .accept | .isolationRelease
  | .isolationRead | .valveReportAccept | .valveReportOperated | .valveReportCannotOperate
  | .valveReportFound | .restore | .rampResume | .reclose | .relightReport | .closeOut | .outageRelease
  | .weightsSet | .list | .status | .rightsSet | .noticeMask | .timeSet | .settingsSet | .settingsRead
  | .resetOperations | .resetLink | .lineReturnsHigh => true

end Sys2Proof
end

