-- ==== Sys2Proof/Machine/Table.lean ====
section
/-! DEFINITION. Tables: collections of records by key, as lists of pairs with keys strictly rising. Every collection of
the part that a rule reads "in ascending id" is one of these, so equal collections are equal data. -/

namespace Sys2Proof.Machine

/-- A collection of records by key, keys strictly rising (`tableWf`). -/
abbrev Table (α : Type) := List (Nat × α)

/-- The record under a key, if there is one. -/
def tget {α : Type} : Table α → Nat → Option α
  | [], _ => none
  | (k, v) :: t, n => if k = n then some v else tget t n

/-- Write a record under a key, in its place. -/
def tset {α : Type} : Table α → Nat → α → Table α
  | [], n, v => [(n, v)]
  | (k, w) :: t, n, v =>
    if n < k then (n, v) :: (k, w) :: t
    else if n = k then (n, v) :: t
    else (k, w) :: tset t n v

/-- Remove the record under a key. -/
def terase {α : Type} (t : Table α) (n : Nat) : Table α := t.filter fun x => x.1 ≠ n

/-- Change the record under a key, if there is one. -/
def tmod {α : Type} (t : Table α) (n : Nat) (f : α → α) : Table α :=
  t.map fun x => if x.1 = n then (x.1, f x.2) else x

/-- The keys, ascending. -/
def tkeys {α : Type} (t : Table α) : List Nat := t.map (·.1)

/-- There is a record under the key. -/
def thas {α : Type} (t : Table α) (n : Nat) : Bool := (tget t n).isSome

/-- The keys of the records that pass a test, ascending. -/
def tkeysWhere {α : Type} (t : Table α) (p : Nat → α → Bool) : List Nat :=
  (t.filter fun x => p x.1 x.2).map (·.1)

/-- The number of records that pass a test. -/
def tcount {α : Type} (t : Table α) (p : α → Bool) : Nat := t.countP fun x => p x.2

/-- The lowest of the keys 0 to `bound` − 1 that has no record. -/
def lowestFree {α : Type} (t : Table α) (lo bound : Nat) : Option Nat :=
  ((List.range bound).filter fun n => lo ≤ n && !thas t n).head?

/-- The key of the record with the least time, the lowest key where times are shared. -/
def oldestKey : List (Nat × Nat) → Option Nat
  | [] => none
  | (k, t) :: rest =>
    match rest.foldl (fun (best : Nat × Nat) x => if x.2 < best.2 then x else best) (k, t) with
    | (k', _) => some k'

/-- The canonical form of a table: keys strictly rising. -/
abbrev tableWf {α : Type} (t : Table α) : Prop := (tkeys t).Pairwise (· < ·)

end Sys2Proof.Machine
end

