-- ==== Sys2Proof/Machine/State.lean ====
section
/-! DEFINITION. The state of the part: the Control Link and the six blocks it serves (00_scope.md, "Blocks"), each field
with the rule that names it, and the queue of commands that wait. Every value is plain data. -/

namespace Sys2Proof.Machine

/-! ## Named values (the lists of R216) -/

/-- Pressure tier; IP above MP above LP. -/
inductive Tier where | lp | mp | ip
  deriving DecidableEq, Repr

/-- What a link is (R2). -/
inductive LinkKind where | pipe | valve | regulator
  deriving DecidableEq, Repr

/-- Position of a valve or regulator (R5). -/
inductive Position where | opened | closed
  deriving DecidableEq, Repr

/-- Whether a crew can be expected to operate a valve or regulator (R2). -/
inductive Operability where | operable | stuck | unknown
  deriving DecidableEq, Repr

/-- Supply state of a pipe (R3). -/
inductive Supply where | live | dead | isolated | recharging
  deriving DecidableEq, Repr

/-- Network state (R7). -/
inductive NetState where | unloaded | loading | checking | active | checkFailed
  deriving DecidableEq, Repr

/-- Kind of a link tag (R22). -/
inductive TagKind where | doNotOperate | workInProgress
  deriving DecidableEq, Repr

/-- Mode of the edit grant (R9). -/
inductive EditMode where | links | full
  deriving DecidableEq, Repr

/-- Reason of a failed table check (R15). -/
inductive CheckReason where
  | nodesOver | linksOver | endAMissing | endBMissing | endsEqual | tierMismatch | regNotDownward
  | regTierMismatch | noSource | stationNode | locatorTarget
  deriving DecidableEq, Repr

/-- Freshness of a station (R58). -/
inductive Freshness where | never | fresh | suspect | stale
  deriving DecidableEq, Repr

/-- Pressure band (R66). -/
inductive Band where | lowLow | low | normal | high | highHigh
  deriving DecidableEq, Repr

/-- Status of the path a report came over (R59). -/
inductive PathStatus where | ok | degraded | relayLost
  deriving DecidableEq, Repr

/-- Kind of an incident (R82); the first five are also the kinds of a call (R85). -/
inductive IncidentKind where
  | ignition | damage | odourInside | odourOutside | noGas | pressureLoss | pressureFall | overPressure | tierLow
  deriving DecidableEq, Repr

/-- State of an incident (R83). -/
inductive IncidentState where | opened | dispatched | onSite | madeSafe | cleared
  deriving DecidableEq, Repr

/-- State of an isolation (R110). -/
inductive IsoState where
  | planning | waiting | planned | closing | verifying | effective | restoring | relighting | ended | failed | cancelled
  deriving DecidableEq, Repr

/-- Why an isolation changed state (the cause list of R216). -/
inductive IsoCause where
  | requested | plan | conflict | waitOver | retraced | authorised | carried | shareLimit | memberFailed | cancel
  | allClosed | noStation | decayed | accepted | memberOpen | restore | rampDone | reclose | relit | closedOut
  | targetNotPipe | sourceInSection | tooLarge | tooManyValves | unstable | claimed
  deriving DecidableEq, Repr

/-- Why a FAILED isolation failed (R109). -/
inductive FailReason where
  | targetNotPipe | sourceInSection | tooLarge | tooManyValves | unstable | claimed
  deriving DecidableEq, Repr

/-- What verification found (R109). -/
inductive Verification where | none | verified | unverified | passingSuspected
  deriving DecidableEq, Repr

/-- What an order asks for: CLOSE, or OPEN (`reopen`) (R138). -/
inductive OrderAction where | close | reopen
  deriving DecidableEq, Repr

/-- State of an order (R138). -/
inductive OrderState where | issued | accepted | done | failed | withdrawn
  deriving DecidableEq, Repr

/-- Why an order left the order list (R138). -/
inductive FinishCause where
  | operated | cannotOperate | tagged | stuck | positionMet | released | held | ended
  deriving DecidableEq, Repr

/-- Why a ramp stalled (R160). -/
inductive StallCause where | lag | noOpening | blocked
  deriving DecidableEq, Repr

/-- State of an outage record (R175). -/
inductive OutageState where | opened | closed
  deriving DecidableEq, Repr

/-- The notice kinds, in the order of R202. -/
inductive NoticeKind where
  | tableCheck | sectionFed | stationStale | bandChange | falling | tierLow | incidentNew | incidentOverdue
  | incidentState | tableFull | isolationState | passing | orderNew | orderEnd | orderOverdue | restoreBlocked
  | restoreStall | recordDiscarded | resync
  deriving DecidableEq, Repr

/-- The reply status codes (R201, R218). -/
inductive Status where
  | ok | retraced | absorbed | partially | late | held
  | busy | unknownKind | badLength | badValue | badOrigin | badSequence | noRight | notActive | editHeld | claimed
  | sameOrigin | shareLimit | heldByOther | tagged | locked | wrongState | full | duplicate | notFound
  deriving DecidableEq, Repr

/-- The five rights (R210). -/
inductive Right where | call | operate | authorise | edit | supervise
  deriving DecidableEq, Repr

/-- A count per service class (00_scope.md, 0.8). -/
structure Counts where
  p : Nat := 0
  c : Nat := 0
  d : Nat := 0
  deriving DecidableEq, Repr

/-! ## Network Store (01_network_table.md) -/

/-- A node record (R1) and its runtime, the fed flag (R6), clear while the network is not ACTIVE. -/
structure Node where
  tier : Tier
  source : Bool
  inService : Bool
  fed : Bool := false
  deriving DecidableEq, Repr

/-- The fields that belong to a link's kind (R2). -/
inductive LinkBody where
  | pipe (service : Counts) (length : Nat)
  | valve (normal : Position) (operability : Operability)
  | regulator (normal : Position) (operability : Operability)
  deriving DecidableEq, Repr

/-- A link record (R2). -/
structure Link where
  endA : Nat
  endB : Nat
  tier : Tier
  body : LinkBody
  deriving DecidableEq, Repr

/-- Runtime of a pipe (R3). -/
structure PipeRt where
  supply : Supply := .dead
  isNew : Bool := true
  claim : Option Nat := none
  pending : Counts := {}
  owner : Option Nat := none
  fed : Bool := false
  deriving DecidableEq, Repr

/-- Runtime of a valve or regulator (R5); the holder count is the length of `holders`. -/
structure ControlRt where
  position : Position
  holders : List Nat := []
  order : Option Nat := none
  deriving DecidableEq, Repr

/-- A tag (R22). -/
structure Tag where
  link : Nat
  kind : TagKind
  origin : Nat
  time : Nat
  deriving DecidableEq, Repr

/-- A locator entry (R24); the power-on entry is the default. -/
structure LocatorEntry where
  lo : Nat := 16777215
  hi : Nat := 0
  target : Nat := 0
  deriving DecidableEq, Repr

/-- The edit grant while someone holds it (R9). -/
structure Grant where
  holder : Nat
  mode : EditMode
  deriving DecidableEq, Repr

/-- The announced counts and the expected-record index of a load (R13). -/
structure Load where
  nodes : Nat
  links : Nat
  expected : Nat
  deriving DecidableEq, Repr

/-- What a table check reads of other tables: the bound nodes by station id, and the locator (R15). -/
structure CheckView where
  bindings : Table Nat
  locator : Table LocatorEntry
  deriving DecidableEq, Repr

/-- The Network Store. -/
structure NetworkStore where
  state : NetState := .unloaded
  generation : Nat := 0
  grant : Option Grant := none
  load : Option Load := none
  nodes : Table Node := []
  links : Table Link := []
  pipes : Table PipeRt := []
  controls : Table ControlRt := []
  tags : Table Tag := []
  /-- Entries that differ from the power-on entry (R24). -/
  locator : Table LocatorEntry := []
  /-- The MODEL's own [9]: what the running table check could have read, oldest first. -/
  checkViews : List CheckView := []
  deriving DecidableEq, Repr

/-! ## Trace Engine (02_trace_engine.md) -/

/-- An isolation named by slot and serial (0.7 of 00_scope.md). -/
structure IsoRef where
  slot : Nat
  serial : Nat
  deriving DecidableEq, Repr

/-- A link as a flood reads it (R38, R43). -/
structure Edge where
  id : Nat
  kind : LinkKind
  endA : Nat
  endB : Nat
  isOpen : Bool
  deriving DecidableEq, Repr

/-- What a flood can read of the network at one moment: the feeding source nodes and the links (R38). -/
structure FloodView where
  sources : List Nat
  edges : List Edge
  deriving DecidableEq, Repr

/-- The running job (R27). -/
inductive Job where
  /-- An isolation trace: its isolation, start generation, restart count, and the trace limit this run read (R52). -/
  | trace (iso : IsoRef) (start : Nat) (restarts : Nat) (limit : Nat)
  /-- A supply recompute: its start generation, the nodes and pipes created since it began (R44), and the MODEL's own
  record of what its flood could have read, oldest first [8]. -/
  | recompute (start : Nat) (newNodes : List Nat) (newPipes : List Nat) (views : List FloodView)
  deriving DecidableEq, Repr

/-- The Trace Engine. -/
structure TraceEngine where
  running : Option Job := none
  fifo : List IsoRef := []
  deferred : List IsoRef := []
  pendingRecompute : Bool := false
  applied : Nat := 0
  limit : Nat := 256
  deriving DecidableEq, Repr

/-! ## Station Monitor (03_pressure_stations.md) -/

/-- A station record (R54). -/
structure StationRec where
  node : Option Nat
  tier : Tier
  zero : Nat
  num : Nat
  den : Nat
  invert : Bool
  k : Nat
  ll : Int
  l : Int
  h : Int
  hh : Int
  hyst : Int
  alarm : Int
  interval : Nat
  multiple : Nat
  acceptDegraded : Bool
  deriving DecidableEq, Repr

/-- Runtime of a station, with its initial values (R58). -/
structure StationRt where
  freshness : Freshness := .never
  lost : Bool := false
  lastRaw : Nat := 0
  lastConverted : Int := 0
  s16 : Int := 0
  band : Band := .normal
  falling : Bool := false
  /-- Pairs of reported value and sample time, oldest first. -/
  ring : List (Int × Nat) := []
  rate : Int := 0
  accepted : Counter := 0
  lastTime : Option Nat := none
  deadline : Option Nat := none
  deriving DecidableEq, Repr

/-- A defined station slot. -/
structure Station where
  cfg : StationRec
  rt : StationRt := {}
  deriving DecidableEq, Repr

/-- The telemetry counters (R81). -/
structure TelemetryCounters where
  reports : Counter := 0
  short : Counter := 0
  unknown : Counter := 0
  accepted : Counter := 0
  outOfOrder : Counter := 0
  faults : Counter := 0
  clamps : Counter := 0
  degraded : Counter := 0
  deriving DecidableEq, Repr

/-- One value for each tier. -/
structure PerTier (α : Type) where
  lp : α
  mp : α
  ip : α
  deriving DecidableEq, Repr

/-- The Station Monitor. -/
structure StationMonitor where
  stations : Table Station := []
  tierLow : PerTier Bool := ⟨false, false, false⟩
  counters : TelemetryCounters := {}
  threshold : Nat := 5
  dead : PerTier Int := ⟨20, 500, 2000⟩
  deriving DecidableEq, Repr

/-! ## Incident Register (04_calls_and_incidents.md) -/

/-- An incident record (R82); the table's key is its slot. -/
structure Incident where
  id : Nat
  kind : IncidentKind
  grade : Nat
  pipe : Option Nat
  station : Option Nat
  tier : Option Tier
  state : IncidentState
  opened : Nat
  lastCall : Option Nat
  lastState : Nat
  deadline : Nat
  overdue : Bool
  inSection : Bool
  truncated : Bool
  calls : Nat
  refs : List Nat
  iso : Option IsoRef
  deriving DecidableEq, Repr

/-- The Incident Register. -/
structure IncidentRegister where
  table : Table Incident := []
  serial : Nat := 1
  mergeWindow : Nat := 1800
  response1 : Nat := 3600
  response2 : Nat := 7200
  response3 : Nat := 86400
  deriving DecidableEq, Repr

/-! ## Isolation Controller (05_isolations.md, 06_valve_orders.md, 07_restoration_and_relight.md) -/

/-- A closure member with its order-needed flag (R42). -/
structure Member where
  link : Nat
  order : Bool
  deriving DecidableEq, Repr

/-- A plan (R42). -/
structure Plan where
  gen : Nat
  pipes : List Nat
  nodes : List Nat
  closure : List Member
  passed : List Nat
  cutoff : List Nat
  pipeCounts : Counts
  cutoffCounts : Counts
  deriving DecidableEq, Repr

/-- An entry of a to-issue list (R141). -/
structure Issue where
  link : Nat
  action : OrderAction
  deriving DecidableEq, Repr

/-- A stall (R160): its cause, the station or link it names, and when. -/
structure Stall where
  cause : StallCause
  object : Option Nat
  time : Nat
  deriving DecidableEq, Repr

/-- A ramp station (R160). -/
structure RampStation where
  station : Nat
  start : Int
  lags : Nat
  deriving DecidableEq, Repr

/-- A ramp record (R160); `t0` is none while the clock is NOT_STARTED. -/
structure Ramp where
  increment : Int
  interval : Nat
  target : Int
  band : Int
  t0 : Option Nat := none
  startTimer : Option Nat := none
  stall : Option Stall := none
  frozen : Option Nat := none
  openGen : Nat := 0
  stations : List RampStation := []
  complete : Bool := false
  deriving DecidableEq, Repr

/-- An isolation record (R109); the table's key is its slot. `carry` is the pending authoriser while the carry-through
mark is set. `verifyTimer` and `decay` are the verify timer and the running decay test (R78, R129). -/
structure Isolation where
  serial : Nat
  requester : Nat
  authoriser : Option Nat := none
  incident : Option Nat := none
  targets : List Nat
  hold : Bool
  state : IsoState := .planning
  failure : Option FailReason := none
  waitingOn : Option IsoRef := none
  carry : Option Nat := none
  restarts : Nat := 0
  plan : Option Plan := none
  holds : List Nat := []
  toIssue : List Issue := []
  result : Verification := .none
  ramp : Option Ramp := none
  outage : Option Nat := none
  requestTime : Nat
  authTime : Option Nat := none
  effectTime : Option Nat := none
  endTime : Option Nat := none
  verifyTimer : Option Nat := none
  decay : Bool := false
  deriving DecidableEq, Repr

/-- An order record (R138); the table's key is its id. `expiry` is when its overdue timer expires (R145). -/
structure Order where
  iso : IsoRef
  link : Nat
  action : OrderAction
  state : OrderState := .issued
  issued : Nat
  expiry : Nat
  acceptTime : Option Nat := none
  overdue : Bool := false
  finishTime : Option Nat := none
  cause : Option FinishCause := none
  deriving DecidableEq, Repr

/-- The Isolation Controller. -/
structure IsolationController where
  isos : Table Isolation := []
  serial : Nat := 0
  orders : Table Order := []
  orderSerial : Nat := 1
  verifyTime : Nat := 1800
  acceptTime : Nat := 900
  target : PerTier Int := ⟨400, 12000, 45000⟩
  deriving DecidableEq, Repr

/-! ## Outage Ledger (08_outage_ledger.md) -/

/-- Three wrapping counters, one for each class (R175). -/
structure CounterCounts where
  p : Counter := 0
  c : Counter := 0
  d : Counter := 0
  deriving DecidableEq, Repr

/-- An outage record (R175); the table's key is its id. Its pending and owned pipes are read from the pipes it owns
(`recordPending`, `recordOwned`). -/
structure Outage where
  iso : Option IsoRef
  state : OutageState := .opened
  opened : Nat
  closed : Option Nat := none
  peak : Counts := {}
  relights : CounterCounts := {}
  deferred : CounterCounts := {}
  absorbed : Counter := 0
  weighted : Nat := 0
  service : Nat := 0
  deriving DecidableEq, Repr

/-- The Outage Ledger. -/
structure OutageLedger where
  records : Table Outage := []
  weights : Counts := ⟨10, 4, 1⟩
  deriving DecidableEq, Repr

/-- The six blocks behind the Control Link, and the MODEL's count of free values drawn [27]. -/
structure Plant where
  net : NetworkStore := {}
  trace : TraceEngine := {}
  mon : StationMonitor := {}
  reg : IncidentRegister := {}
  ctl : IsolationController := {}
  led : OutageLedger := {}
  draws : Nat := 0
  deriving DecidableEq, Repr

/-! ## Control Link (10_the_control_link.md) -/

/-- The line rate (R196). -/
inductive LineRate where | r115200 | r921600
  deriving DecidableEq, Repr

/-- The receiver (R198); the bytes stored so far, newest first. -/
inductive Receiver where
  | hunting
  | header (got : List Byte)
  | body (len : Nat) (got : List Byte)
  deriving DecidableEq, Repr

/-- A good request frame (R197). -/
structure Frame where
  kind : Nat
  tag : Byte
  origin : Nat
  payload : List Byte
  deriving DecidableEq, Repr

/-- A frame the part sends: a reply, or a notice of kind 0xF0 with tag 0 (R197, R217). -/
structure OutFrame where
  kind : Nat
  tag : Byte
  payload : List Byte
  deriving DecidableEq, Repr

/-- An entry of the notice queue (R202). -/
structure Notice where
  kind : NoticeKind
  object : Nat
  detail : List Byte
  time : Nat
  deriving DecidableEq, Repr

/-- The resync condition while it is set (R203). -/
structure Resync where
  dropped : Nat
  first : Nat
  deriving DecidableEq, Repr

/-- The link counters (R209). -/
structure LinkCounters where
  good : Counter := 0
  crc : Counter := 0
  length : Counter := 0
  gaps : Counter := 0
  badOrigin : Counter := 0
  busy : Counter := 0
  repliesDropped : Counter := 0
  noticesDropped : Counter := 0
  breaks : Counter := 0
  deriving DecidableEq, Repr

/-- A rights set (R210). -/
structure Rights where
  call : Bool
  operate : Bool
  authorise : Bool
  edit : Bool
  supervise : Bool
  deriving DecidableEq, Repr

/-- A refusal record (R211). -/
structure Refusals where
  count : Counter := 0
  last : Option Status := none
  deriving DecidableEq, Repr

/-- The rights sets power-on gives (R210). -/
def powerOnRights : List Rights :=
  ⟨true, true, true, true, true⟩ :: List.replicate 7 ⟨true, true, false, false, false⟩

/-- The Control Link. -/
structure ControlLink where
  rate : LineRate
  receiver : Receiver := .hunting
  /-- The receive line is in a break that has not ended (R215). -/
  lineLow : Bool := false
  inbound : List Frame := []
  /-- The frame at the head of the inbound queue has been handed over and its reply is not yet formed (R200). -/
  handling : Bool := false
  replies : List OutFrame := []
  notices : List Notice := []
  /-- The frame in transmission; none while the transmitter is idle (R205). -/
  sending : Option OutFrame := none
  resync : Option Resync := none
  /-- Bit k is the flag of the notice kind of value k (R217). -/
  mask : BitVec 32 := 0x000FFFFE#32
  counters : LinkCounters := {}
  rights : List Rights := powerOnRights
  refusals : List Refusals := List.replicate 8 {}
  partTime : Nat := 0
  /-- An advance from 4,294,967,295 has been taken (R212). -/
  clockEnded : Bool := false
  /-- The MODEL's own [6]: part time has reached a multiple of 60 and the boundary has not been taken yet. -/
  boundaryDue : Bool := false
  wallOffset : BitVec 64 := 0
  deriving DecidableEq, Repr

/-! ## The machine -/

/-- The part has no fault: nothing in the manual stops it (0.1 of 00_scope.md, R201). No constructor, so no step can
answer one; safe. -/
inductive Fault where
  deriving DecidableEq, Repr

/-- Why a command has no meaning. -/
inductive Refusal where
  /-- Raised by `exec` alone, in the arm of a command that has no meaning yet; safe, since a run stops there. -/
  | notModelled (mnemonic : String)
  deriving DecidableEq, Repr

/-- The state of the part and the commands that wait, first in, first out. -/
structure State where
  link : ControlLink
  plant : Plant
  pending : List Instr
  deriving DecidableEq, Repr

/-- The Control Link at power-on, with the rate the strap selects (R196, section 10.13). DESIGN CHOICE [53]: the receive
line is high, with no break in progress, and the transmitter idle; unsafe. -/
def linkPowerOn (strap : Strap) : ControlLink :=
  { rate := match strap with | .low => .r115200 | .high => .r921600 }

/-- The part right after power-on: every field at the value its rule gives (sections 1.12, 10.13, R27, R53, R58, R81,
R107, R108, R136, R137, R155, R192). DESIGN CHOICE [3]: the strap is low; unsafe. -/
def State.reset : State := { link := linkPowerOn .low, plant := {}, pending := [] }

end Sys2Proof.Machine
end

