-- ==== Sys2Proof/Machine/Coding.lean ====
section
/-! DEFINITION. Coding of fields on the line (R216, R218, R221): byte order, signed fields, absent values, the byte of
every named value, and the CRC of a frame. -/

namespace Sys2Proof.Machine

/-! ## Numbers -/

/-- An unsigned field of `n` bytes, most significant byte first; a value wider than the field loses its high bits. -/
def be : Nat → Nat → List Byte
  | 0, _ => []
  | n + 1, v => BitVec.ofNat 8 (v / 256 ^ n) :: be n v

/-- The value of an unsigned field, most significant byte first. -/
def beVal (bs : List Byte) : Nat := bs.foldl (fun acc b => acc * 256 + b.toNat) 0

/-- A signed field of `n` bytes, two's complement. -/
def beInt (n : Nat) (v : Int) : List Byte := be n (v % (256 ^ n : Nat)).toNat

/-- The value of a signed field of `bs.length` bytes, two's complement. -/
def beIntVal (bs : List Byte) : Int :=
  if 2 * beVal bs < 256 ^ bs.length then (beVal bs : Int) else (beVal bs : Int) - (256 ^ bs.length : Nat)

/-- An optional value of `n` bytes: all ones when absent. -/
def beOpt (n : Nat) (v : Option Nat) : List Byte := be n (v.getD (256 ^ n - 1))

/-- An id from the host that may be absent: all ones of its width is read as absent. -/
def optVal (bs : List Byte) : Option Nat := if beVal bs = 256 ^ bs.length - 1 then none else some (beVal bs)

/-- A pressure, three bytes signed. -/
def bePu (v : Int) : List Byte := beInt 3 v

/-- A flag byte of one flag. -/
def beFlag (b : Bool) : List Byte := be 1 b.toNat

/-- A 32-bit counter. -/
def beCtr (c : Counter) : List Byte := be 4 c.toNat

/-- Bit `k` of a flag byte. -/
def flagBit (b : Byte) (k : Nat) : Bool := b.getLsbD k

/-- Three counts, P, C, then D, each of `n` bytes. -/
def beCounts (n : Nat) (k : Counts) : List Byte := be n k.p ++ be n k.c ++ be n k.d

/-- Three counters, P, C, then D. -/
def beCounters (k : CounterCounts) : List Byte := beCtr k.p ++ beCtr k.c ++ beCtr k.d

/-- A list inside a record: its length in two bytes, then its entries (DESIGN CHOICE [14]). -/
def beList {α : Type} (f : α → List Byte) (l : List α) : List Byte := be 2 l.length ++ l.flatMap f

/-! ## Named values: the place of a name in its list of R216 -/

def Tier.code : Tier → Nat | .lp => 0 | .mp => 1 | .ip => 2
def tierOf : Nat → Option Tier | 0 => some .lp | 1 => some .mp | 2 => some .ip | _ => none
def LinkKind.code : LinkKind → Nat | .pipe => 0 | .valve => 1 | .regulator => 2
def linkKindOf : Nat → Option LinkKind | 0 => some .pipe | 1 => some .valve | 2 => some .regulator | _ => none
def Position.code : Position → Nat | .opened => 0 | .closed => 1
def positionOf : Nat → Option Position | 0 => some .opened | 1 => some .closed | _ => none
def Operability.code : Operability → Nat | .operable => 0 | .stuck => 1 | .unknown => 2
def operabilityOf : Nat → Option Operability | 0 => some .operable | 1 => some .stuck | 2 => some .unknown | _ => none
def pathOf : Nat → Option PathStatus | 0 => some .ok | 1 => some .degraded | 2 => some .relayLost | _ => none
def Supply.code : Supply → Nat | .live => 0 | .dead => 1 | .isolated => 2 | .recharging => 3
def NetState.code : NetState → Nat | .unloaded => 0 | .loading => 1 | .checking => 2 | .active => 3 | .checkFailed => 4
def TagKind.code : TagKind → Nat | .doNotOperate => 0 | .workInProgress => 1
def tagKindOf : Nat → Option TagKind | 0 => some .doNotOperate | 1 => some .workInProgress | _ => none
def EditMode.code : EditMode → Nat | .links => 0 | .full => 1
def Freshness.code : Freshness → Nat | .never => 0 | .fresh => 1 | .suspect => 2 | .stale => 3
def Band.code : Band → Nat | .lowLow => 0 | .low => 1 | .normal => 2 | .high => 3 | .highHigh => 4

def IncidentKind.code : IncidentKind → Nat
  | .ignition => 0 | .damage => 1 | .odourInside => 2 | .odourOutside => 3 | .noGas => 4
  | .pressureLoss => 5 | .pressureFall => 6 | .overPressure => 7 | .tierLow => 8

/-- The kind of a call: the first five kinds only (R85, R216). -/
def callKindOf : Nat → Option IncidentKind
  | 0 => some .ignition | 1 => some .damage | 2 => some .odourInside | 3 => some .odourOutside | 4 => some .noGas
  | _ => none

def IncidentState.code : IncidentState → Nat
  | .opened => 0 | .dispatched => 1 | .onSite => 2 | .madeSafe => 3 | .cleared => 4

def incidentStateOf : Nat → Option IncidentState
  | 0 => some .opened | 1 => some .dispatched | 2 => some .onSite | 3 => some .madeSafe | 4 => some .cleared
  | _ => none

/-- Value 0 is NONE, the old state of a creation (R110). -/
def IsoState.code : IsoState → Nat
  | .planning => 1 | .waiting => 2 | .planned => 3 | .closing => 4 | .verifying => 5 | .effective => 6
  | .restoring => 7 | .relighting => 8 | .ended => 9 | .failed => 10 | .cancelled => 11

def IsoCause.code : IsoCause → Nat
  | .requested => 0 | .plan => 1 | .conflict => 2 | .waitOver => 3 | .retraced => 4 | .authorised => 5 | .carried => 6
  | .shareLimit => 7 | .memberFailed => 8 | .cancel => 9 | .allClosed => 10 | .noStation => 11 | .decayed => 12
  | .accepted => 13 | .memberOpen => 14 | .restore => 15 | .rampDone => 16 | .reclose => 17 | .relit => 18
  | .closedOut => 19 | .targetNotPipe => 20 | .sourceInSection => 21 | .tooLarge => 22 | .tooManyValves => 23
  | .unstable => 24 | .claimed => 25

/-- The cause that a failure reason is (R115, R125). -/
def FailReason.cause : FailReason → IsoCause
  | .targetNotPipe => .targetNotPipe | .sourceInSection => .sourceInSection | .tooLarge => .tooLarge
  | .tooManyValves => .tooManyValves | .unstable => .unstable | .claimed => .claimed

def Verification.code : Verification → Nat | .none => 0 | .verified => 1 | .unverified => 2 | .passingSuspected => 3
def OrderAction.code : OrderAction → Nat | .close => 0 | .reopen => 1
def OrderState.code : OrderState → Nat | .issued => 0 | .accepted => 1 | .done => 2 | .failed => 3 | .withdrawn => 4

def FinishCause.code : FinishCause → Nat
  | .operated => 0 | .cannotOperate => 1 | .tagged => 2 | .stuck => 3 | .positionMet => 4 | .released => 5 | .held => 6
  | .ended => 7

def StallCause.code : StallCause → Nat | .lag => 0 | .noOpening => 1 | .blocked => 2
def OutageState.code : OutageState → Nat | .opened => 0 | .closed => 1

/-- Value 0 is none, on PASS (R221). -/
def CheckReason.code : CheckReason → Nat
  | .nodesOver => 1 | .linksOver => 2 | .endAMissing => 3 | .endBMissing => 4 | .endsEqual => 5 | .tierMismatch => 6
  | .regNotDownward => 7 | .regTierMismatch => 8 | .noSource => 9 | .stationNode => 10 | .locatorTarget => 11

/-- Notice kinds are coded from 1 (R221). -/
def NoticeKind.code : NoticeKind → Nat
  | .tableCheck => 1 | .sectionFed => 2 | .stationStale => 3 | .bandChange => 4 | .falling => 5 | .tierLow => 6
  | .incidentNew => 7 | .incidentOverdue => 8 | .incidentState => 9 | .tableFull => 10 | .isolationState => 11
  | .passing => 12 | .orderNew => 13 | .orderEnd => 14 | .orderOverdue => 15 | .restoreBlocked => 16
  | .restoreStall => 17 | .recordDiscarded => 18 | .resync => 19

/-- The byte of a status code (R218). -/
def Status.code : Status → Nat
  | .ok => 0x00 | .retraced => 0x01 | .absorbed => 0x02 | .partially => 0x03 | .late => 0x04 | .held => 0x05
  | .busy => 0x10 | .unknownKind => 0x11 | .badLength => 0x12 | .badValue => 0x13 | .badOrigin => 0x14
  | .badSequence => 0x15 | .noRight => 0x16 | .notActive => 0x17 | .editHeld => 0x18 | .claimed => 0x19
  | .sameOrigin => 0x1A | .shareLimit => 0x1B | .heldByOther => 0x1C | .tagged => 0x1D | .locked => 0x1E
  | .wrongState => 0x1F | .full => 0x20 | .duplicate => 0x21 | .notFound => 0x22

/-- An accepting code: its byte is below 0x10 (R201, R218). -/
def Status.accepting (c : Status) : Bool := c.code < 0x10

/-- A refusal is any other code (R201). -/
def Status.refusal (c : Status) : Bool := !c.accepting

/-- Right k of a rights byte, in the order R210 names them (DESIGN CHOICE [15]). -/
def Rights.code (r : Rights) : Nat :=
  r.call.toNat + 2 * r.operate.toNat + 4 * r.authorise.toNat + 8 * r.edit.toNat + 16 * r.supervise.toNat

/-- The rights set of a rights byte; none when it holds a right outside the five (R210). -/
def rightsOf (b : Byte) : Option Rights :=
  if b.toNat < 32 then some ⟨flagBit b 0, flagBit b 1, flagBit b 2, flagBit b 3, flagBit b 4⟩ else none

/-- The set holds the right. -/
def Rights.has (r : Rights) : Right → Bool
  | .call => r.call
  | .operate => r.operate
  | .authorise => r.authorise
  | .edit => r.edit
  | .supervise => r.supervise

/-- The line rate in bits per second (R196); R216 writes a rate in four bytes. -/
def LineRate.bitsPerSecond : LineRate → Nat | .r115200 => 115200 | .r921600 => 921600

/-! ## Tiers -/

/-- IP is above MP, MP above LP (R15). -/
def Tier.above (a b : Tier) : Bool := b.code < a.code

/-- The value of a tier. -/
def PerTier.at {α : Type} (v : PerTier α) : Tier → α
  | .lp => v.lp
  | .mp => v.mp
  | .ip => v.ip

/-- Write the value of a tier. -/
def PerTier.put {α : Type} (v : PerTier α) (t : Tier) (a : α) : PerTier α :=
  match t with
  | .lp => { v with lp := a }
  | .mp => { v with mp := a }
  | .ip => { v with ip := a }

/-! ## Class counts -/

/-- Sum, class by class. -/
def Counts.add (a b : Counts) : Counts := ⟨a.p + b.p, a.c + b.c, a.d + b.d⟩
/-- Difference, class by class, not below zero. -/
def Counts.sub (a b : Counts) : Counts := ⟨a.p - b.p, a.c - b.c, a.d - b.d⟩
/-- The lesser, class by class. -/
def Counts.least (a b : Counts) : Counts := ⟨min a.p b.p, min a.c b.c, min a.d b.d⟩
/-- The larger, class by class. -/
def Counts.most (a b : Counts) : Counts := ⟨max a.p b.p, max a.c b.c, max a.d b.d⟩
/-- Zero in every class. -/
def Counts.isZero (a : Counts) : Bool := a.p = 0 && a.c = 0 && a.d = 0
/-- The plain sum over the classes. -/
def Counts.total (a : Counts) : Nat := a.p + a.c + a.d
/-- The weighted sum over the classes (R188). -/
def Counts.dot (w a : Counts) : Nat := w.p * a.p + w.c * a.c + w.d * a.d
/-- Sum of a list. -/
def sumCounts (l : List Counts) : Counts := l.foldl Counts.add {}
/-- Counters raised by counts, wrapping (R175). -/
def CounterCounts.bump (k : CounterCounts) (a : Counts) : CounterCounts :=
  ⟨k.p + BitVec.ofNat 32 a.p, k.c + BitVec.ofNat 32 a.c, k.d + BitVec.ofNat 32 a.d⟩

/-! ## The CRC (R197, R216) -/

/-- One bit of the CRC: shift left, and take in x^12 + x^5 + 1 when x^16 falls out. -/
def crcBit (r : BitVec 16) : BitVec 16 := if r.msb then (r <<< 1) ^^^ 0x1021#16 else r <<< 1

/-- One byte, most significant bit first. -/
def crcByte (r : BitVec 16) (b : Byte) : BitVec 16 :=
  let r := r ^^^ (b.setWidth 16 <<< 8)
  crcBit (crcBit (crcBit (crcBit (crcBit (crcBit (crcBit (crcBit r)))))))

/-- The CRC over bytes, initial value 0xFFFF, no final value. -/
def crc16 (bs : List Byte) : BitVec 16 := bs.foldl crcByte 0xFFFF#16

/-- The bytes of a frame on the line (R197). -/
def frameBytes (kind : Nat) (tag : Byte) (origin : Nat) (payload : List Byte) : List Byte :=
  let covered := be 2 payload.length ++ be 1 kind ++ [tag] ++ be 1 origin ++ payload
  0xA5#8 :: covered ++ be 2 (crc16 covered).toNat

/-- The bytes of a frame the part sends: origin 0xFF (R197). -/
def OutFrame.bytes (f : OutFrame) : List Byte := frameBytes f.kind f.tag 0xFF f.payload

/-- The payload of a notice frame: one notice record (R221). -/
def Notice.record (n : Notice) : List Byte :=
  be 1 n.kind.code ++ be 1 n.detail.length ++ be 2 n.object ++ be 4 n.time ++ n.detail

/-- A notice frame: kind 0xF0, tag 0 (R217). -/
def Notice.frame (n : Notice) : OutFrame := ⟨0xF0, 0, n.record⟩

/-- A link's kind. -/
def LinkBody.kind : LinkBody → LinkKind
  | .pipe .. => .pipe
  | .valve .. => .valve
  | .regulator .. => .regulator

/-- A link's kind. -/
def Link.kind (l : Link) : LinkKind := l.body.kind

/-- A pipe's service counts. -/
def Link.service (l : Link) : Counts :=
  match l.body with
  | .pipe sv _ => sv
  | _ => {}

/-- A controllable link's operability. -/
def Link.operability? (l : Link) : Option Operability :=
  match l.body with
  | .pipe .. => none
  | .valve _ o => some o
  | .regulator _ o => some o

/-- A controllable link's normal position. -/
def Link.normal? (l : Link) : Option Position :=
  match l.body with
  | .pipe .. => none
  | .valve n _ => some n
  | .regulator n _ => some n

/-- The link with its operability set to STUCK. -/
def Link.stick (l : Link) : Link :=
  match l.body with
  | .pipe .. => l
  | .valve n _ => { l with body := .valve n .stuck }
  | .regulator n _ => { l with body := .regulator n .stuck }

end Sys2Proof.Machine
end

