-- ==== Sys2Proof/Machine/Flags.lean ====
section
/-! DEFINITION. The computed facts of the part, as functions of numbers alone: conversion and smoothing of a sample
(R62 to R65), the band (R66), the rate and FALLING (R68, R69), tier-low (R74), the grade of a call (R91), the expected
value of a ramp (R163), and the accrual of a minute (R188, R189). -/

namespace Sys2Proof.Machine

/-! ## A sample -/

/-- The fault screen: a broken loop, a dead transmitter, or the all-ones filler (R62). -/
def rawFaulty (raw : Nat) : Bool := raw < 11796 || raw = 65535

/-- A quotient rounded to the nearest whole number, halves away from zero (R58, R63). -/
def roundDiv (q : Int) (d : Nat) : Int :=
  if 0 ≤ q then (2 * q + d) / (2 * d) else -((2 * -q + d) / (2 * d))

/-- Inversion and scale (R63). -/
def scaleRaw (c : StationRec) (raw : Nat) : Int :=
  let v : Int := if c.invert then 65535 - raw else raw
  roundDiv ((v - c.zero) * c.num) c.den

/-- Every pressure value lies in −1000 to 100000 pu (R64). -/
def clampPu (p : Int) : Int := max (-1000) (min 100000 p)

/-- One smoothing step toward 16p; the division is truncated toward zero (R65). -/
def smooth (k : Nat) (s16 p : Int) : Int := s16 + (16 * p - s16).tdiv (2 ^ k)

/-- The reported smoothed value (R58). -/
def reported (s16 : Int) : Int := roundDiv s16 16

/-- The reported smoothed value of a station (R58). -/
def StationRt.value (r : StationRt) : Int := reported r.s16

/-- FRESH or SUSPECT (R58). -/
def StationRt.nonStale (r : StationRt) : Bool := r.freshness = .fresh || r.freshness = .suspect

/-- The band of a reported value, from the band held (R66): the first of the nine tests that holds. -/
def bandOf (c : StationRec) (held : Band) (s : Int) : Band :=
  if s < c.ll then .lowLow
  else if s > c.hh then .highHigh
  else if held = .lowLow ∧ s < c.ll + c.hyst then .lowLow
  else if held = .highHigh ∧ s > c.hh - c.hyst then .highHigh
  else if s < c.l then .low
  else if s > c.h then .high
  else if (held = .lowLow ∨ held = .low) ∧ s < c.l + c.hyst then .low
  else if (held = .highHigh ∨ held = .high) ∧ s > c.h - c.hyst then .high
  else .normal

/-- The trend ring with a new pair at its tail; of 8 pairs the oldest drops out (R68). -/
def pushRing (ring : List (Int × Nat)) (s : Int) (t : Nat) : List (Int × Nat) :=
  (if ring.length < 8 then ring else ring.drop (ring.length - 7)) ++ [(s, t)]

/-- The rate over the ring; it is held while the ring has one pair (R68). -/
def ringRate (ring : List (Int × Nat)) (held : Int) : Int :=
  match ring with
  | (s0, t0) :: rest@(_ :: _) =>
    match rest.getLast? with
    | some (s1, t1) => ((s0 - s1) * 60).tdiv ((t1 : Int) - t0)
    | none => held
  | _ => held

/-- The FALLING flag, from the flag held (R69). -/
def fallingOf (alarm rate : Int) (held : Bool) : Bool :=
  if alarm = 0 then false
  else if rate ≥ alarm then true
  else if rate < alarm / 2 then false
  else held

/-! ## A tier -/

/-- The tier-low condition, from the condition held, the count n and the threshold T (R74). -/
def tierLowOf (held : Bool) (n T : Nat) : Bool :=
  if held then !(n ≤ (T - 1) / 2) else T ≤ n

/-! ## Calls -/

/-- The base grade of a call's kind (R91). -/
def baseGrade : IncidentKind → Nat
  | .ignition | .damage | .odourInside => 1
  | .odourOutside => 2
  | .noGas => 3
  | _ => 1

/-- Each adjustment lowers the grade number by one, not below 1 (R91). -/
def adjustGrade (g : Nat) (raise : Bool) : Nat := if raise then max 1 (g - 1) else g

/-- The two families of call kinds (R94). -/
def sameFamily (a b : IncidentKind) : Bool :=
  let gas : IncidentKind → Bool := fun k =>
    k = .ignition || k = .damage || k = .odourInside || k = .odourOutside
  (gas a && gas b) || (a = .noGas && b = .noGas)

/-- The order of the incident states (R99). -/
def IncidentState.rank (s : IncidentState) : Nat := s.code

/-- Any state other than CLEARED (04, opening section). -/
def Incident.uncleared (i : Incident) : Bool := i.state ≠ .cleared

/-- The deadline timer runs in OPEN and DISPATCHED while OVERDUE is clear (R101). -/
def Incident.timed (i : Incident) : Bool := (i.state = .opened || i.state = .dispatched) && !i.overdue

/-- The response time of a grade (R93, R108). -/
def IncidentRegister.response (r : IncidentRegister) (grade : Nat) : Nat :=
  if grade = 1 then r.response1 else if grade = 2 then r.response2 else r.response3

/-! ## Ramps -/

/-- Steps of a ramp at a sample time (R163). -/
def Ramp.steps (r : Ramp) (t0 t : Nat) : Nat := (t - t0) / r.interval

/-- The expected value after some steps, capped at the target (R163). -/
def Ramp.expected (r : Ramp) (start : Int) (steps : Nat) : Int := min (start + r.increment * steps) r.target

/-! ## Accrual -/

/-- An outage accumulator raised by an addition: it saturates at 2^40 − 1 (R189). -/
def accrue (acc add : Nat) : Nat := min max40 (acc + add)

end Sys2Proof.Machine
end

