-- ==== Sys2Proof/Machine/Ops.lean ====
section
/-! DEFINITION. The shared operations of an event: what the six blocks read of each other, the notices they queue, the
generation, and the requests they make of the Trace Engine. An event in progress (`Ev`) holds the blocks, the part time
it is taken at, and the notices it has queued so far; the Control Link is not in it, so no event of a block can reach
the link but by its notices and its reply. -/

namespace Sys2Proof.Machine

/-- An event in progress at the blocks; `bumped` once it has incremented the generation (R8). -/
structure Ev where
  p : Plant
  now : Nat
  out : List Notice
  bumped : Bool
  deriving DecidableEq, Repr

/-- An event at blocks `p` and part time `now`, with some notices queued already, that has not moved the generation. -/
abbrev Ev.start (p : Plant) (now : Nat) (out : List Notice) : Ev := ⟨p, now, out, false⟩

/-! ## Notices (R202, R221) -/

/-- Queue a notice behind those the event has queued already. -/
def Ev.note (e : Ev) (kind : NoticeKind) (object : Nat) (detail : List Byte) : Ev :=
  { e with out := e.out ++ [⟨kind, object, detail, e.now⟩] }

/-- What an ISOLATION_STATE names besides the isolation (R110, R221). -/
inductive Other where
  | nothing
  | iso (r : IsoRef)
  | link (l : Nat)
  deriving DecidableEq, Repr

/-- The four bytes of `Other` in the notice (R221). -/
def Other.bytes : Other → List Byte
  | .nothing => be 1 0 ++ beOpt 1 none ++ beOpt 2 none
  | .iso r => be 1 1 ++ be 1 r.slot ++ be 2 r.serial
  | .link l => be 1 2 ++ be 2 l ++ be 1 0

/-- Notice ISOLATION_STATE; old state none is NONE (R110). -/
def Ev.noteIso (e : Ev) (slot serial : Nat) (old : Option IsoState) (new : IsoState) (cause : IsoCause) (other : Other)
    (left : Nat) : Ev :=
  e.note .isolationState slot
    (be 2 serial ++ be 1 ((old.map IsoState.code).getD 0) ++ be 1 new.code ++ be 1 cause.code ++ other.bytes ++ be 1 left)

/-! ## Reading and changing the tables -/

def Ev.iso? (e : Ev) (slot : Nat) : Option Isolation := tget e.p.ctl.isos slot
def Ev.modIso (e : Ev) (slot : Nat) (f : Isolation → Isolation) : Ev :=
  { e with p.ctl.isos := tmod e.p.ctl.isos slot f }
def Ev.order? (e : Ev) (id : Nat) : Option Order := tget e.p.ctl.orders id
def Ev.modOrder (e : Ev) (id : Nat) (f : Order → Order) : Ev :=
  { e with p.ctl.orders := tmod e.p.ctl.orders id f }
def Ev.link? (e : Ev) (id : Nat) : Option Link := tget e.p.net.links id
def Ev.modLink (e : Ev) (id : Nat) (f : Link → Link) : Ev :=
  { e with p.net.links := tmod e.p.net.links id f }
def Ev.pipe? (e : Ev) (id : Nat) : Option PipeRt := tget e.p.net.pipes id
def Ev.modPipe (e : Ev) (id : Nat) (f : PipeRt → PipeRt) : Ev :=
  { e with p.net.pipes := tmod e.p.net.pipes id f }
/-- Change every pipe's runtime. -/
def Ev.mapPipes (e : Ev) (f : Nat → PipeRt → PipeRt) : Ev :=
  { e with p.net.pipes := e.p.net.pipes.map fun x => (x.1, f x.1 x.2) }
def Ev.control? (e : Ev) (id : Nat) : Option ControlRt := tget e.p.net.controls id
def Ev.modControl (e : Ev) (id : Nat) (f : ControlRt → ControlRt) : Ev :=
  { e with p.net.controls := tmod e.p.net.controls id f }
def Ev.station? (e : Ev) (id : Nat) : Option Station := tget e.p.mon.stations id
def Ev.modRt (e : Ev) (id : Nat) (f : StationRt → StationRt) : Ev :=
  { e with p.mon.stations := tmod e.p.mon.stations id fun s => { s with rt := f s.rt } }
def Ev.modIncident (e : Ev) (slot : Nat) (f : Incident → Incident) : Ev :=
  { e with p.reg.table := tmod e.p.reg.table slot f }
def Ev.record? (e : Ev) (id : Nat) : Option Outage := tget e.p.led.records id
def Ev.modRecord (e : Ev) (id : Nat) (f : Outage → Outage) : Ev :=
  { e with p.led.records := tmod e.p.led.records id f }

/-- Do one thing for each of a list of keys, in its order. -/
def Ev.each (e : Ev) (ks : List Nat) (f : Nat → Ev → Ev) : Ev := ks.foldl (fun e k => f k e) e

/-- The network is ACTIVE (R7). -/
def Ev.active (e : Ev) : Bool := e.p.net.state = .active

/-! ## States of an isolation -/

/-- ENDED, FAILED and CANCELLED are terminal (00_scope.md, Glossary). -/
def IsoState.terminal : IsoState → Bool
  | .ended | .failed | .cancelled => true
  | _ => false

/-- PLANNED through RELIGHTING: section nodes are protected against edits (R19). -/
def IsoState.protects : IsoState → Bool
  | .planned | .closing | .verifying | .effective | .restoring | .relighting => true
  | _ => false

/-- VERIFYING through RELIGHTING: stations bound to section nodes are suppressed (R75). -/
def IsoState.suppresses : IsoState → Bool
  | .verifying | .effective | .restoring | .relighting => true
  | _ => false

/-- CLOSING, VERIFYING, EFFECTIVE: the isolation's valves are held shut for it (R123, R182). -/
def IsoState.shuts : IsoState → Bool
  | .closing | .verifying | .effective => true
  | _ => false

/-- Some isolation is non-terminal (R9). -/
def Ev.someNonTerminal (e : Ev) : Bool := e.p.ctl.isos.any fun x => !x.2.state.terminal

/-- The isolation a slot and serial name, if it still holds the slot (R112). -/
def Ev.named? (e : Ev) (r : IsoRef) : Option Isolation :=
  match e.iso? r.slot with
  | some i => if i.serial = r.serial then some i else none
  | none => none

/-- An isolation is authorised once its authorisation time is present (R109). -/
def Isolation.authorised (i : Isolation) : Bool := i.authTime.isSome

/-- The links of the closure set, in its order (R42). -/
def Isolation.closure (i : Isolation) : List Nat :=
  match i.plan with
  | some pl => pl.closure.map (·.link)
  | none => []

/-- The section pipes of the plan (R42). -/
def Isolation.section? (i : Isolation) : List Nat :=
  match i.plan with
  | some pl => pl.pipes
  | none => []

/-- The section nodes of the plan (R42). -/
def Isolation.nodes (i : Isolation) : List Nat :=
  match i.plan with
  | some pl => pl.nodes
  | none => []

/-- The cut-off set of the plan (R42). -/
def Isolation.cutoff (i : Isolation) : List Nat :=
  match i.plan with
  | some pl => pl.cutoff
  | none => []

/-- Slots of the isolations that pass a test, ascending. -/
def Ev.slotsWhere (e : Ev) (p : Nat → Isolation → Bool) : List Nat := tkeysWhere e.p.ctl.isos p

/-- Isolations in CLOSING whose hold set lists a link, ascending (R128, R150). -/
def Ev.closingHolders (e : Ev) (link : Nat) : List Nat :=
  e.slotsWhere fun _ i => i.state = .closing && i.holds.contains link

/-! ## Links, pipes and tags -/

/-- The position of a valve or regulator is CLOSED (R5). -/
def Ev.isClosed (e : Ev) (link : Nat) : Bool := (e.control? link).any fun c => c.position = .closed

/-- The position of a valve or regulator is OPEN (R5). -/
def Ev.isOpen (e : Ev) (link : Nat) : Bool := (e.control? link).any fun c => c.position = .opened

/-- The holder list of a valve or regulator (R5). -/
def Ev.holders (e : Ev) (link : Nat) : List Nat :=
  match e.control? link with
  | some c => c.holders
  | none => []

/-- A tag of the kind stands on the link (R22). -/
def Ev.tagged (e : Ev) (link : Nat) (kind : TagKind) : Bool :=
  e.p.net.tags.any fun t => t.2.link = link && t.2.kind = kind

/-- OPERABLE and without a DO_NOT_OPERATE tag: the link can be ordered (R132, R159). -/
def Ev.workable (e : Ev) (link : Nat) : Bool :=
  ((e.link? link).bind Link.operability?) = some .operable && !e.tagged link .doNotOperate

/-- The outstanding order of a link (R5). -/
def Ev.orderOf? (e : Ev) (link : Nat) : Option (Nat × Order) :=
  match (e.control? link).bind (·.order) with
  | some id => (e.order? id).map fun o => (id, o)
  | none => none

/-- ISSUED or ACCEPTED (R138). -/
def Order.outstanding (o : Order) : Bool := o.state = .issued || o.state = .accepted

/-- The order list: how many orders are outstanding (R139). -/
def Ev.outstandingCount (e : Ev) : Nat := tcount e.p.ctl.orders Order.outstanding

/-- Orders of one action outstanding in the name of an isolation. DESIGN CHOICE [50]: in ascending id, which is the
order in which an event that withdraws them all finishes them. -/
def Ev.ordersOf (e : Ev) (r : IsoRef) (a : OrderAction) : List Nat :=
  tkeysWhere e.p.ctl.orders fun _ o => o.outstanding && o.iso = r && o.action = a

/-- Supply state of a pipe after its claim is released (R3). -/
def Supply.released : Supply → Supply
  | .isolated => .dead
  | .recharging => .live
  | s => s

/-- Release the claims of a slot on some pipes, each with the supply-state change of R3. -/
def Ev.releaseClaims (e : Ev) (slot : Nat) (which : Nat → Bool) : Ev :=
  e.mapPipes fun k p =>
    if p.claim = some slot && which k then { p with claim := none, supply := p.supply.released } else p

/-- The pipes a slot claims, ascending (R4). -/
def Ev.claimed (e : Ev) (slot : Nat) : List Nat := tkeysWhere e.p.net.pipes fun _ p => p.claim = some slot

/-! ## The generation (R8) -/

/-- One increment for the whole event, however many of its facts call for one; the count stays at 4,294,967,295 (R8).
DEDUCED [41]: an isolation that ends inside an event counts among those facts. -/
def Ev.bump (e : Ev) : Ev :=
  if e.bumped then e else { e with p.net.generation := min max32 (e.p.net.generation + 1), bumped := true }

/-! ## Requests to the Trace Engine (R28, R29, R31) -/

/-- A recompute request sets the pending-recompute flag (R29). -/
def Ev.askRecompute (e : Ev) : Ev := { e with p.trace.pendingRecompute := true }

/-- The isolation has a trace running (R28). -/
def Job.tracesSlot (slot : Nat) : Job → Bool
  | .trace r .. => r.slot = slot
  | .recompute .. => false

/-- A trace request: absorbed, or to the FIFO, or to the deferred list when the FIFO is full (R28, R31). -/
def Ev.askTrace (e : Ev) (slot : Nat) : Ev :=
  match e.iso? slot with
  | none => e
  | some i =>
    let r : IsoRef := ⟨slot, i.serial⟩
    if e.p.trace.fifo.contains r || e.p.trace.deferred.contains r || e.p.trace.running.any (Job.tracesSlot slot) then e
    else
      let e := e.modIso slot fun i => { i with restarts := 0 }
      if e.p.trace.fifo.length < Config.traceFifo then { e with p.trace.fifo := e.p.trace.fifo ++ [r] }
      else { e with p.trace.deferred := e.p.trace.deferred ++ [r] }

/-- Move deferred entries to the tail of the FIFO while it has room (R31). -/
def Ev.refill (e : Ev) : Ev :=
  let room := Config.traceFifo - e.p.trace.fifo.length
  { e with
    p.trace.fifo := e.p.trace.fifo ++ e.p.trace.deferred.take room
    p.trace.deferred := e.p.trace.deferred.drop room }

/-- Take an isolation out of the engine: its running trace is abandoned, its entries are removed (R49). -/
def Ev.dropTrace (e : Ev) (slot : Nat) : Ev :=
  let e := if e.p.trace.running.any (Job.tracesSlot slot) then { e with p.trace.running := none } else e
  Ev.refill { e with
    p.trace.fifo := e.p.trace.fifo.filter fun r => r.slot ≠ slot
    p.trace.deferred := e.p.trace.deferred.filter fun r => r.slot ≠ slot }

/-! ## What a flood reads (R38, R43) -/

/-- The feeding source nodes and the links, as they stand. -/
def NetworkStore.floodView (n : NetworkStore) : FloodView where
  sources := tkeysWhere n.nodes fun _ x => x.source && x.inService
  edges := n.links.map fun x =>
    ⟨x.1, x.2.kind, x.2.endA, x.2.endB, (tget n.controls x.1).all fun c => c.position = .opened⟩

/-- The bound nodes by station id (R15). -/
def StationMonitor.bindings (m : StationMonitor) : Table Nat :=
  m.stations.filterMap fun x => x.2.cfg.node.map fun n => (x.1, n)

/-- What a table check can read of the other tables, as they stand (R15). -/
def Plant.checkView (p : Plant) : CheckView := ⟨p.mon.bindings, p.net.locator⟩

/-- Note what a running recompute could read from now on, when it differs from what it could read before [8]. -/
def Ev.watchRecompute (e : Ev) : Ev :=
  match e.p.trace.running with
  | some (.recompute g ns ps vs) =>
    let v := e.p.net.floodView
    if vs.getLast? = some v then e else { e with p.trace.running := some (.recompute g ns ps (vs ++ [v])) }
  | _ => e

/-- Note what a running table check could read from now on, when it differs from what it could read before [9]. -/
def Ev.watchCheck (e : Ev) : Ev :=
  if e.p.net.state = .checking then
    let v := e.p.checkView
    if e.p.net.checkViews.getLast? = some v then e
    else { e with p.net.checkViews := e.p.net.checkViews ++ [v] }
  else e

/-- A pipe or node made while a recompute runs is not written at its completion (R44). -/
def Ev.created (e : Ev) (node : Option Nat) (pipe : Option Nat) : Ev :=
  match e.p.trace.running with
  | some (.recompute g ns ps vs) =>
    { e with p.trace.running := some (.recompute g (ns ++ node.toList) (ps ++ pipe.toList) vs) }
  | _ => e

/-- An idle engine takes its next job: a pending recompute, else the oldest FIFO entry (R30). -/
def Ev.takeJob (e : Ev) : Ev :=
  if e.p.trace.running.isSome then e
  else if e.p.trace.pendingRecompute && e.active then
    { e with
      p.trace.pendingRecompute := false
      p.trace.running := some (.recompute e.p.net.generation [] [] [e.p.net.floodView]) }
  else
    match e.p.trace.fifo with
    | [] => e
    | r :: rest =>
      let restarts := ((e.iso? r.slot).map (·.restarts)).getD 0
      Ev.refill { e with
        p.trace.fifo := rest
        p.trace.running := some (.trace r e.p.net.generation restarts e.p.trace.limit) }

/-! ## The ledger's view of the pipes (R175, R180) -/

/-- The pending of a record: the sum over the pipes it owns. -/
def recordPending (pipes : Table PipeRt) (id : Nat) : Counts :=
  sumCounts ((pipes.filter fun x => x.2.owner = some id).map (·.2.pending))

/-- The owned pipes of a record. -/
def recordOwned (pipes : Table PipeRt) (id : Nat) : Nat := tcount pipes fun p => p.owner = some id

/-- The pipes a record owns, ascending. -/
def Ev.owned (e : Ev) (id : Nat) : List Nat := tkeysWhere e.p.net.pipes fun _ p => p.owner = some id

/-- The total pending over all pipes. -/
def totalPending (pipes : Table PipeRt) : Counts := sumCounts (pipes.map (·.2.pending))

/-- At the end of an event each record's peak takes the larger of its old value and its pending (R180). -/
def Ev.notePeaks (e : Ev) : Ev :=
  { e with p.led.records := e.p.led.records.map fun x =>
      (x.1, { x.2 with peak := x.2.peak.most (recordPending e.p.net.pipes x.1) }) }

end Sys2Proof.Machine
end

