-- ==== Sys2Proof/Machine/Ledger.lean ====
section
/-! DEFINITION. Operations of the Outage Ledger (08_outage_ledger.md): opening and closing records, loss of supply,
attribution, relights, write-offs and the accrual of a minute. -/

namespace Sys2Proof.Machine

/-- A fresh record: every count, counter and accumulator zero (R176, R177). -/
def newRecord (iso : Option IsoRef) (now : Nat) : Outage := { iso := iso, opened := now }

/-- Record 0 is written whole and OPEN (R176). -/
def Ev.openRecordZero (e : Ev) : Ev := { e with p.led.records := tset e.p.led.records 0 (newRecord none e.now) }

/-- Clear the outage record field of a terminal isolation that still names a record (R177, R179). -/
def Ev.forgetRecord (e : Ev) (iso : Option IsoRef) : Ev :=
  match iso with
  | none => e
  | some r =>
    e.modIso r.slot fun i => if i.serial = r.serial && i.state.terminal then { i with outage := none } else i

/-- The slot a new record takes: the lowest empty among 1 to 63, else the CLOSED record with the oldest closed time (R177). -/
def Ev.recordSlot (e : Ev) : Option Nat :=
  match lowestFree e.p.led.records 1 Config.outageSlots with
  | some k => some k
  | none =>
    oldestKey (e.p.led.records.filterMap fun x =>
      if x.1 ≠ 0 && x.2.state = .closed then some (x.1, x.2.closed.getD 0) else none)

/-- Open a record for an isolation, discarding a CLOSED one when needed (R177). -/
def Ev.openRecord (e : Ev) (r : IsoRef) : Ev :=
  match e.recordSlot with
  | none => e
  | some k =>
    let e :=
      match e.record? k with
      | none => e
      | some old =>
        let ref := old.iso.getD ⟨0xFF, 0xFFFF⟩
        (e.note .recordDiscarded k (be 1 ref.slot ++ be 2 ref.serial ++ beOpt 4 old.closed)).forgetRecord old.iso
    let e : Ev := { e with p.led.records := tset e.p.led.records k (newRecord (some r) e.now) }
    e.modIso r.slot fun i => { i with outage := some k }

/-- What closing a record does to one pipe it owns (R178). -/
def PipeRt.leaveRecord (p : PipeRt) : PipeRt :=
  if (p.supply = .live || p.supply = .recharging) && p.pending.isZero then { p with owner := none }
  else { p with owner := some 0 }

/-- Close a record among 1 to 63: its pipes pass to record 0 or lose their owner (R178). -/
def Ev.closeRecord (e : Ev) (k : Nat) : Ev :=
  let e := e.mapPipes fun _ p => if p.owner = some k then p.leaveRecord else p
  e.modRecord k fun o => { o with state := .closed, closed := some e.now }

/-- Close the record of an isolation, when it has one. -/
def Ev.closeRecordOf (e : Ev) (k : Option Nat) : Ev :=
  match k with
  | some k => e.closeRecord k
  | none => e

/-- Write off every pipe a record owns; the written-off counts and the pipes with pending (R186). -/
def Ev.writeOff (e : Ev) (k : Nat) : Ev × Counts × Nat :=
  let off := recordPending e.p.net.pipes k
  let n := tcount e.p.net.pipes fun p => p.owner = some k && !p.pending.isZero
  let e := e.mapPipes fun _ p => if p.owner = some k then { p with pending := {} } else p
  (e.modRecord k fun o => { o with deferred := o.deferred.bump off }, off, n)

/-- Strike relit customers off a pipe and its owner (R185). -/
def Ev.relight (e : Ev) (pipe owner : Nat) (accepted : Counts) : Ev :=
  let e := e.modPipe pipe fun p => { p with pending := p.pending.sub accepted }
  e.modRecord owner fun o => { o with relights := o.relights.bump accepted }

/-- Count a call absorbed by a record (R184). -/
def Ev.absorb (e : Ev) (owner : Nat) : Ev := e.modRecord owner fun o => { o with absorbed := o.absorbed + 1 }

/-- Loss of supply: the pending of a pipe assigned DEAD or ISOLATED that stood LIVE or RECHARGING, or was NEW (R181). -/
def lossOfSupply (before : PipeRt) (service : Counts) (after : PipeRt) : PipeRt :=
  if (after.supply = .dead || after.supply = .isolated)
      && (before.supply = .live || before.supply = .recharging || before.isNew)
  then { after with pending := service } else after

/-- The isolation a record belongs to still shuts its valves (R182, case 2). -/
def Ev.recordShuts (e : Ev) (k : Nat) : Bool :=
  match e.record? k with
  | some o => ((o.iso.bind e.named?).map fun i => i.state.shuts).getD false
  | none => false

/-- The isolations that shut a pipe off by their cut-off sets, each with its authorisation time (R182, case 3). -/
def Ev.cutters (e : Ev) (link : Nat) : List (Nat × Nat) :=
  e.p.ctl.isos.filterMap fun x =>
    if x.2.state.shuts && x.2.cutoff.contains link then some (x.1, x.2.authTime.getD 0) else none

/-- The record of the isolation in a slot. -/
def Ev.recordOfSlot (e : Ev) (slot : Nat) : Option Nat := (e.iso? slot).bind (·.outage)

/-- The owner of one pipe after attribution (R182, R183). -/
def Ev.ownerOf (e : Ev) (link : Nat) (p : PipeRt) : Option Nat :=
  match p.supply with
  | .live | .recharging => if p.pending.isZero then none else p.owner
  | .dead | .isolated =>
    match p.claim with
    | some slot => e.recordOfSlot slot
    | none =>
      if p.owner = some 0 || (p.owner.map e.recordShuts).getD false then p.owner
      else
        match oldestKey (e.cutters link) with
        | some slot => e.recordOfSlot slot
        | none => some 0

/-- Attribution over the pipes assigned at a completion (R182, R183). -/
def Ev.attribute (e : Ev) (assigned : Nat → Bool) : Ev :=
  e.mapPipes fun k p => if assigned k then { p with owner := e.ownerOf k p } else p

/-- One OPEN record at a minute boundary (R188, R189). -/
def Outage.minute (o : Outage) (w pending : Counts) : Outage :=
  if o.state = .opened then
    { o with weighted := accrue o.weighted (w.dot pending), service := accrue o.service pending.total }
  else o

/-- A minute boundary at the ledger (R188). -/
def OutageLedger.minute (l : OutageLedger) (pipes : Table PipeRt) : OutageLedger :=
  { l with records := l.records.map fun x => (x.1, x.2.minute l.weights (recordPending pipes x.1)) }

/-- EDIT_BEGIN FULL taken from ACTIVE closes record 0 (R192). The pipes are discarded in the same event. -/
def Ev.closeRecordZero (e : Ev) : Ev :=
  e.modRecord 0 fun o => if o.state = .opened then { o with state := .closed, closed := some e.now } else o

/-- RESET OPERATIONS closes every OPEN record among 1 to 63, after the claims are released (R191). -/
def Ev.closeIsolationRecords (e : Ev) : Ev :=
  e.each (tkeysWhere e.p.led.records fun k o => k ≠ 0 && o.state = .opened) fun k e => e.closeRecord k

end Sys2Proof.Machine
end

