-- ==== Sys2Proof/Machine/Operands.lean ====
section
/-! DEFINITION. Operand forms: how each request's payload is read (R216, R219, R220), and the range checks on a field
that need no state. Layouts that Message Formats does not give follow the order in which the request's rule names its
fields, each in the width of R216's list (PRESUMED [13]); a value whose kind that list does not name has the width it
has in the replies (DESIGN CHOICE [55] [56]). -/

namespace Sys2Proof.Machine

/-- A request as its owning block sees it: who sent it, with which rights, and the payload. -/
structure Req where
  origin : Nat
  rights : Rights
  payload : List Byte
  deriving DecidableEq, Repr

/-- A reply as its block forms it: the status code and what follows it (R201, R218). -/
structure Reply where
  status : Status
  body : List Byte := []
  deriving DecidableEq, Repr

/-- The payload of a reply frame (R218). -/
def Reply.payload (r : Reply) : List Byte := be 1 r.status.code ++ r.body

/-- The bytes of a field. -/
def bytesAt (p : List Byte) (off n : Nat) : List Byte := (p.drop off).take n

/-- An unsigned field of a payload. -/
def field (p : List Byte) (off n : Nat) : Nat := beVal (bytesAt p off n)

/-- A pressure field of a payload, three bytes signed. -/
def puField (p : List Byte) (off : Nat) : Int := beIntVal (bytesAt p off 3)

/-- A flag of a flag byte. -/
def flagAt (p : List Byte) (off bit : Nat) : Bool := (p[off]?).any fun b => flagBit b bit

/-- A field read as a named value; none where the payload does not reach it or the value is unknown. -/
def coded {α : Type} (f : Nat → Option α) (p : List Byte) (off : Nat) : Option α := (p[off]?).bind fun b => f b.toNat

/-- A value in −1000 to 100000 pu (0.5 of 00_scope.md). -/
def puInRange (v : Int) : Bool := -1000 ≤ v && v ≤ 100000

/-! ## Slot and serial (R112): AUTHORISE, CANCEL, ACCEPT, ISOLATION_RELEASE, RAMP_RESUME, RECLOSE, CLOSE_OUT -/

/-- The isolation a request names. -/
def isoRefAt (p : List Byte) : IsoRef := ⟨field p 0 1, field p 1 2⟩

/-! ## Node and link records (R220) -/

/-- A node record of 4 bytes, id and fields, when every field is in its range. -/
def nodeRecord (b : List Byte) : Option (Nat × Node) :=
  match coded tierOf b 2 with
  | some t => if field b 0 2 ≤ Config.maxNode then some (field b 0 2, ⟨t, flagAt b 3 0, flagAt b 3 1, false⟩) else none
  | none => none

/-- Bytes 8 to 15 of a link record, read by its kind, when every field is in its range. -/
def linkBody (b : List Byte) (k : LinkKind) : Option LinkBody :=
  match k with
  | .pipe =>
    let sv : Counts := ⟨field b 8 2, field b 10 2, field b 12 2⟩
    if sv.p ≤ Config.maxService && sv.c ≤ Config.maxService && sv.d ≤ Config.maxService
    then some (.pipe sv (field b 14 2)) else none
  | .valve =>
    match coded positionOf b 8, coded operabilityOf b 9 with
    | some n, some o => some (.valve n o)
    | _, _ => none
  | .regulator =>
    match coded positionOf b 8, coded operabilityOf b 9 with
    | some n, some o => some (.regulator n o)
    | _, _ => none

/-- A link record of 16 bytes, id and fields, when every field is in its range. -/
def linkRecord (b : List Byte) : Option (Nat × Link) :=
  match coded linkKindOf b 2, coded tierOf b 3 with
  | some k, some t =>
    if field b 0 2 ≤ Config.maxLink && field b 4 2 ≤ Config.maxNode && field b 6 2 ≤ Config.maxNode then
      (linkBody b k).map fun body => (field b 0 2, ⟨field b 4 2, field b 6 2, t, body⟩)
    else none
  | _, _ => none

/-! ## TABLE_BEGIN and TABLE_BLOCK (R13, R14, R220) -/

/-- The size of a record at an index: a node record below N, else a link record (R220). -/
def recordSize (nodes idx : Nat) : Nat := if idx < nodes then 4 else 16

/-- The payload length a block of `k` records from `start` must have (R220). -/
def blockLength (nodes start k : Nat) : Nat := 4 + ((List.range k).map fun i => recordSize nodes (start + i)).sum

/-- A record of a block. -/
inductive BlockRecord where
  | node (id : Nat) (n : Node)
  | link (id : Nat) (l : Link)
  deriving DecidableEq, Repr

/-- The records of a block from an index on, when every field of each is in its range (R14). -/
def blockRecords (nodes : Nat) : Nat → Nat → List Byte → Option (List BlockRecord)
  | 0, _, _ => some []
  | k + 1, idx, b =>
    let sz := recordSize nodes idx
    let r : Option BlockRecord :=
      if idx < nodes then (nodeRecord (b.take sz)).map fun x => .node x.1 x.2
      else (linkRecord (b.take sz)).map fun x => .link x.1 x.2
    match r, blockRecords nodes k (idx + 1) (b.drop sz) with
    | some r, some rs => some (r :: rs)
    | _, _ => none

/-! ## LINK_EDIT, NODE_EDIT (R18, R21): id (2), action (1), and for CREATE and CHANGE the record -/

/-- The payload length of an edit: with a record for CREATE and CHANGE; an unknown action fixes no length [13]. -/
def editLengthOk (recordLen : Nat) (p : List Byte) : Bool :=
  if p.length < 3 then false
  else if field p 2 1 ≤ 1 then p.length = 3 + recordLen
  else if field p 2 1 = 2 then p.length = 3
  else true

/-- The record of a LINK_EDIT, when its fields are in range and it names the same link (DESIGN CHOICE [20]). -/
def editedLink (p : List Byte) : Option Link :=
  match linkRecord (p.drop 3) with
  | some (id, l) => if id = field p 0 2 then some l else none
  | none => none

/-- The record of a NODE_EDIT, when its fields are in range and it names the same node (DESIGN CHOICE [20]). -/
def editedNode (p : List Byte) : Option Node :=
  match nodeRecord (p.drop 3) with
  | some (id, n) => if id = field p 0 2 then some n else none
  | none => none

/-! ## LOCATOR_SET (R24): start (2), count (2), entries of lo (3), hi (3), target (2) -/

/-- The entries of a LOCATOR_SET. -/
def locatorEntriesOf (p : List Byte) : List LocatorEntry :=
  (List.range (field p 2 2)).map fun i => ⟨field p (4 + 8 * i) 3, field p (7 + 8 * i) 3, field p (10 + 8 * i) 2⟩

/-! ## STATION_SET DEFINE (R54, R55, R56): id (2), action (1), record (40), default mask (1) -/

/-- The tier defaults (R55): zero, NUM, DEN, LL, L, H, HH, fall-rate alarm. -/
structure TierDefaults where
  zero : Nat
  num : Nat
  den : Nat
  ll : Int
  l : Int
  h : Int
  hh : Int
  alarm : Int

/-- The defaults of a tier (R55). -/
def tierDefaults : Tier → TierDefaults
  | .lp => ⟨13107, 250, 13107, 150, 200, 650, 750, 10⟩
  | .mp => ⟨13107, 5000, 13107, 4000, 5000, 18000, 19500, 200⟩
  | .ip => ⟨13107, 17500, 13107, 20000, 25000, 65000, 68000, 500⟩

/-- The length of the station record in a DEFINE [13]. -/
abbrev stationRecordLen : Nat := 40

/-- A field, or the tier's default when its flag of the default mask is set (R55). -/
def orDefault {α : Type} (mask : Byte) (bit : Nat) (default sent : α) : α := if flagBit mask bit then default else sent

/-- The record of a DEFINE with its defaults resolved, in R54's order of fields (R55). DESIGN CHOICE [15]: the bits of
the default mask go in the order of R55's table, and each of the two flags is bit 0 of a byte of its own. DESIGN CHOICE
[56]: the widths of zero, NUM, DEN, k and interval. -/
def stationFields (t : Tier) (b : List Byte) (mask : Byte) : StationRec :=
  let d := tierDefaults t
  { node := optVal (bytesAt b 0 2)
    tier := t
    zero := orDefault mask 0 d.zero (field b 3 2)
    num := orDefault mask 1 d.num (field b 5 4)
    den := orDefault mask 1 d.den (field b 9 4)
    invert := flagAt b 13 0
    k := field b 14 2
    ll := orDefault mask 2 d.ll (puField b 16)
    l := orDefault mask 3 d.l (puField b 19)
    h := orDefault mask 4 d.h (puField b 22)
    hh := orDefault mask 5 d.hh (puField b 25)
    hyst := puField b 28
    alarm := orDefault mask 6 d.alarm (beIntVal (bytesAt b 31 4))
    interval := field b 35 2
    multiple := field b 37 2
    acceptDegraded := flagAt b 39 0 }

/-- Every field in its range of R54, the limits in order (R56). -/
def StationRec.inRange (r : StationRec) : Bool :=
  r.node.all (· ≤ Config.maxNode) && r.zero ≤ 65535
    && (1 ≤ r.num && r.num ≤ 16777215) && (1 ≤ r.den && r.den ≤ 16777215) && r.k ≤ 4
    && puInRange r.ll && puInRange r.l && puInRange r.h && puInRange r.hh
    && (r.ll < r.l && r.l < r.h && r.h < r.hh)
    && (0 ≤ r.hyst && r.hyst ≤ 500) && (0 ≤ r.alarm && r.alarm ≤ 10000)
    && (10 ≤ r.interval && r.interval ≤ 3600) && (2 ≤ r.multiple && r.multiple ≤ 10)

/-- The station record of a DEFINE, when every field is in range. -/
def stationRecord (p : List Byte) : Option StationRec :=
  let b := bytesAt p 3 stationRecordLen
  match coded tierOf b 2 with
  | some t =>
    let r := stationFields t b ((p[43]?).getD 0)
    if r.inRange then some r else none
  | none => none

/-- The payload length of a STATION_SET. -/
def stationSetLengthOk (p : List Byte) : Bool :=
  if p.length < 3 then false
  else if field p 2 1 = 0 then p.length = 4 + stationRecordLen
  else if field p 2 1 = 1 then p.length = 3
  else true

/-! ## TELEMETRY (R59, R219) -/

/-- The samples of a report: raw value and age. -/
def samplesOf (p : List Byte) : List (Nat × Nat) :=
  (List.range (field p 3 1)).map fun i => (field p (4 + 4 * i) 2, field p (6 + 4 * i) 2)

/-! ## CALL (R85, R219) -/

/-- The payload length of a CALL, with or without the host reference as the presence flag says. -/
def callLengthOk (p : List Byte) : Bool :=
  if p.length < 6 then false else p.length = if flagAt p 5 0 then 11 else 9

/-- The host reference, when one was sent; it is echoed in every reply to a taken CALL (R85, R218). -/
def hostRef (p : List Byte) : List Byte := if flagAt p 5 0 then bytesAt p 9 2 else []

/-! ## ISOLATE (R113, R219) -/

/-- The payload length of an ISOLATE with the target count it sends. -/
def isolateLengthOk (p : List Byte) : Bool := p.length ≠ 0 && p.length = 4 + 2 * field p 0 1

/-- The target pipes, in the order given. -/
def targetsOf (p : List Byte) : List Nat := (List.range (field p 0 1)).map fun i => field p (4 + 2 * i) 2

/-- The named incident; 0 means none. -/
def namedIncident (p : List Byte) : Option Nat := if field p 2 2 = 0 then none else some (field p 2 2)

/-! ## VALVE_REPORT (R146, R219) -/

/-- The payload length of a report's form. -/
def reportLengthOk (p : List Byte) : Bool := p.length = if field p 0 1 = 3 then 4 else 3

/-! ## RESTORE (R156, R157): slot, serial, presence flags, increment (3), interval (2), target (3), band (3), the bytes of
an absent parameter sent too (DESIGN CHOICE [57]) -/

/-- The ramp parameters of a RESTORE, absent ones none. -/
structure RampParams where
  increment : Option Int
  interval : Option Nat
  target : Option Int
  band : Option Int
  deriving DecidableEq, Repr

/-- Read the ramp parameters. DESIGN CHOICE [15]: the presence flags are bits 0 to 3 of their byte, in R156's order:
increment, interval, target, band. DESIGN CHOICE [56]: the width of the interval.
DESIGN CHOICE [57]: an absent parameter keeps its place in the payload, and its bytes are not read. -/
def rampParams (p : List Byte) : RampParams where
  increment := if flagAt p 3 0 then some (puField p 4) else none
  interval := if flagAt p 3 1 then some (field p 7 2) else none
  target := if flagAt p 3 2 then some (puField p 9) else none
  band := if flagAt p 3 3 then some (puField p 12) else none

/-- Every present parameter is in its range (R157). -/
def RampParams.inRange (r : RampParams) : Bool :=
  r.increment.all (fun v => 1 ≤ v && v ≤ 1000) && r.interval.all (fun v => 10 ≤ v && v ≤ 3600)
    && r.target.all puInRange && r.band.all (fun v => 0 ≤ v && v ≤ 2000)

/-- The default increment of a tier (R157). -/
def defaultIncrement : Tier → Int | .lp => 20 | .mp => 600 | .ip => 1000

/-- The ramp record at its creation: parameters resolved, clock NOT_STARTED (R157, R160). -/
def RampParams.resolve (r : RampParams) (t : Tier) (target : PerTier Int) : Ramp :=
  { increment := r.increment.getD (defaultIncrement t)
    interval := r.interval.getD 60
    target := r.target.getD (target.at t)
    band := r.band.getD 50 }

/-! ## Settings groups (R213) -/

/-- The length of a group's values on the line; none for an unknown group [13] [56]. -/
def groupLength : Nat → Option Nat
  | 0 => some 2
  | 1 => some 11
  | 2 => some 14
  | 3 => some 13
  | _ => none

/-- The values of a group as they stand (R213). DESIGN CHOICE [56]: a duration is written as a count of its range, the
merge window, the verify time and the order-accept time in two bytes and a response time in four. -/
def groupBytes (p : Plant) : Nat → List Byte
  | 0 => be 2 p.trace.limit
  | 1 => be 2 p.mon.threshold ++ bePu p.mon.dead.lp ++ bePu p.mon.dead.mp ++ bePu p.mon.dead.ip
  | 2 => be 2 p.reg.mergeWindow ++ be 4 p.reg.response1 ++ be 4 p.reg.response2 ++ be 4 p.reg.response3
  | 3 => be 2 p.ctl.verifyTime ++ be 2 p.ctl.acceptTime ++ bePu p.ctl.target.lp ++ bePu p.ctl.target.mp
      ++ bePu p.ctl.target.ip
  | _ => []

/-- The values of a group are in their ranges, and the relations its rule requires hold (R52, R81, R108, R136). -/
def groupInRange (b : List Byte) : Nat → Bool
  | 0 => 1 ≤ field b 0 2 && field b 0 2 ≤ 1024
  | 1 => (1 ≤ field b 0 2 && field b 0 2 ≤ 512) && puInRange (puField b 2) && puInRange (puField b 5)
      && puInRange (puField b 8)
  | 2 => (60 ≤ field b 0 2 && field b 0 2 ≤ 7200) && (60 ≤ field b 2 4 && field b 2 4 ≤ 604800)
      && (60 ≤ field b 6 4 && field b 6 4 ≤ 604800) && (60 ≤ field b 10 4 && field b 10 4 ≤ 604800)
      && field b 2 4 ≤ field b 6 4 && field b 6 4 ≤ field b 10 4
  | 3 => (60 ≤ field b 0 2 && field b 0 2 ≤ 14400) && (60 ≤ field b 2 2 && field b 2 2 ≤ 14400)
      && puInRange (puField b 4) && puInRange (puField b 7) && puInRange (puField b 10)
  | _ => false

/-- A group written whole (R213). -/
def writeGroup (p : Plant) (b : List Byte) : Nat → Plant
  | 0 => { p with trace.limit := field b 0 2 }
  | 1 => { p with mon.threshold := field b 0 2, mon.dead := ⟨puField b 2, puField b 5, puField b 8⟩ }
  | 2 => { p with
      reg.mergeWindow := field b 0 2, reg.response1 := field b 2 4, reg.response2 := field b 6 4
      reg.response3 := field b 10 4 }
  | 3 => { p with
      ctl.verifyTime := field b 0 2, ctl.acceptTime := field b 2 2
      ctl.target := ⟨puField b 4, puField b 7, puField b 10⟩ }
  | _ => p

/-- A row that shares its kind byte with others takes a request whose selecting byte is its own, and one whose
selecting byte belongs to no row of the kind (unknown, or not there), which every such row refuses alike [26]. -/
def selects (own : Nat) (known : List Nat) (p : List Byte) (off : Nat) : Bool :=
  match p[off]? with
  | some b => b.toNat = own || !known.contains b.toNat
  | none => true

end Sys2Proof.Machine
end

