-- ==== Sys2Proof/Machine/Incidents.lean ====
section
/-! DEFINITION. The Incident Register (04_calls_and_incidents.md): opening incidents, the handling of a call, updates,
deadlines, and the link to isolations. -/

namespace Sys2Proof.Machine

/-! ## The table (R84) -/

/-- The value after a serial value; 65535 is followed by 1 (R84, R139). -/
def nextSerial (n : Nat) : Nat := if n = 65535 then 1 else n + 1

/-- The first serial value from `n` on that is not in use; at most `fuel` values are passed over (R84, R139). -/
def offerId (used : Nat → Bool) : Nat → Nat → Nat
  | 0, n => n
  | fuel + 1, n => if used n then offerId used fuel (nextSerial n) else n

/-- The slot a new incident takes: the lowest empty, else the CLEARED record with the oldest last state time (R84). -/
def IncidentRegister.freeSlot (r : IncidentRegister) : Option Nat :=
  match lowestFree r.table 0 Config.incidentSlots with
  | some k => some k
  | none => oldestKey (r.table.filterMap fun x => if x.2.state = .cleared then some (x.1, x.2.lastState) else none)

/-- The id an incident new in a slot is given: the record the slot may still hold has been discarded (R84). -/
def IncidentRegister.newId (r : IncidentRegister) (slot : Nat) : Nat :=
  offerId (fun n => (terase r.table slot).any fun x => x.2.id = n) (Config.incidentSlots + 1) r.serial

/-- Write a new incident, its id filled in; none when the table is full (R84, R98). -/
def Ev.openIncident (e : Ev) (i : Incident) : Option (Ev × Incident) :=
  match e.p.reg.freeSlot with
  | none => none
  | some k =>
    let id := e.p.reg.newId k
    let i := { i with id := id }
    some ({ e with p.reg.table := tset e.p.reg.table k i, p.reg.serial := nextSerial id }, i)

/-- An incident as it is opened: OPEN, its notes clear, no call listed (R96, R97). -/
def newIncident (kind : IncidentKind) (grade deadline now : Nat) : Incident :=
  { id := 0, kind := kind, grade := grade, pipe := none, station := none, tier := none, state := .opened
    opened := now, lastCall := none, lastState := now, deadline := deadline, overdue := false, inSection := false
    truncated := false, calls := 0, refs := [], iso := none }

/-- Notice INCIDENT_NEW (R97). -/
def Ev.noteIncidentNew (e : Ev) (i : Incident) : Ev :=
  e.note .incidentNew i.id
    (be 1 i.kind.code ++ be 1 i.grade ++ beOpt 2 i.station ++ beOpt 1 (i.tier.map Tier.code) ++ be 4 i.deadline)

/-- Notice TABLE_FULL (R97, R98). -/
def Ev.noteTableFull (e : Ev) (kind : IncidentKind) (pipe : Option Nat) : Ev :=
  e.note .tableFull (pipe.getD 0xFFFF) (be 1 kind.code)

/-! ## Incidents raised by the Station Monitor (R76, R77, R97) -/

/-- An uncleared incident of the kind asked is already there (R97). -/
def IncidentRegister.already (r : IncidentRegister) (kind : IncidentKind) (station : Option Nat) (tier : Tier) : Bool :=
  r.table.any fun x => x.2.uncleared && x.2.kind = kind &&
    (if kind = .tierLow then x.2.tier = some tier else x.2.station.isSome && x.2.station = station)

/-- The Station Monitor asks for an incident of grade 1 (R97). -/
def Ev.askIncident (e : Ev) (kind : IncidentKind) (station : Option Nat) (tier : Tier) : Ev :=
  if e.p.reg.already kind station tier then e
  else
    let i := { newIncident kind 1 (e.now + e.p.reg.response1) e.now with station := station, tier := some tier }
    match e.openIncident i with
    | some (e, i) => e.noteIncidentNew i
    | none => e.noteTableFull kind none

/-! ## A call (R85 to R98) -/

/-- The uncleared incident that lists a call id (R87). -/
def IncidentRegister.lists (r : IncidentRegister) (call : Nat) : Option Incident :=
  ((r.table.find? fun x => x.2.uncleared && x.2.refs.contains call)).map (·.2)

/-- The locator's answer for a key: the active entry with the smallest hi − lo, the lowest index where shared (R25).
Every unlisted entry is inactive (R24). -/
def NetworkStore.locate (n : NetworkStore) (key : Nat) : Option Nat :=
  if n.state = .active then
    let hits := n.locator.filter fun x => x.2.lo ≤ key && key ≤ x.2.hi
    (oldestKey (hits.map fun x => (x.1, x.2.hi - x.2.lo))).bind fun k => (tget hits k).map (·.target)
  else none

/-- A station at an end of the pipe raises the grade (R91). -/
def Ev.stationRaises (e : Ev) (l : Link) : Bool :=
  e.p.mon.stations.any fun x =>
    (x.2.cfg.node = some l.endA || x.2.cfg.node = some l.endB) && x.2.rt.nonStale
      && (x.2.rt.band = .lowLow || x.2.rt.falling)

/-- A located call: the pipe, its link record and its runtime. -/
structure Located where
  pipe : Nat
  link : Link
  rt : PipeRt
  deriving DecidableEq, Repr

/-- Location of a call (R88). DESIGN CHOICE [51]: where the locator's answer is a link that is no PIPE, which an entry
written in CHECKING after item 7 of the check was read can leave, the call is unlocated. -/
def Ev.locateCall (e : Ev) (key : Nat) : Option Located :=
  match e.p.net.locate key with
  | none => none
  | some k =>
    match e.link? k, e.pipe? k with
    | some l, some rt => some ⟨k, l, rt⟩
    | _, _ => none

/-- The call is graded in section: an odour call on a pipe ISOLATED or RECHARGING (R92). -/
def callInSection (kind : IncidentKind) (loc : Option Located) : Bool :=
  match loc with
  | some l => (kind = .odourInside || kind = .odourOutside) && (l.rt.supply = .isolated || l.rt.supply = .recharging)
  | none => false

/-- The grade of a call (R91, R92). -/
def Ev.callGrade (e : Ev) (kind : IncidentKind) (loc : Option Located) : Nat :=
  match loc with
  | none => baseGrade kind
  | some l =>
    if callInSection kind loc then 3
    else adjustGrade (adjustGrade (baseGrade kind) (l.link.tier ≠ .lp)) (e.stationRaises l.link)

/-- The merge candidates of a located call, each with its last call time (R94). -/
def IncidentRegister.candidates (r : IncidentRegister) (kind : IncidentKind) (pipe now : Nat) : List (Nat × Nat) :=
  r.table.filterMap fun x =>
    match x.2.lastCall with
    | some t =>
      if x.2.uncleared && x.2.pipe = some pipe && sameFamily x.2.kind kind && now - t ≤ r.mergeWindow
      then some (x.1, t) else none
    | none => none

/-- The key of the pair with the latest time, the lowest key where times are shared (R94). -/
def latestKey : List (Nat × Nat) → Option Nat
  | [] => none
  | (k, t) :: rest =>
    match rest.foldl (fun (best : Nat × Nat) x => if best.2 < x.2 then x else best) (k, t) with
    | (k', _) => some k'

/-- The effects of a merge (R95). The kind follows the call only in a family merge. -/
def Incident.merge (i : Incident) (call : Nat) (kind : IncidentKind) (grade deadline now : Nat) (inSec family : Bool) :
    Incident :=
  let i := { i with
    calls := min 65535 (i.calls + 1)
    refs := if i.refs.length < Config.callRefs then i.refs ++ [call] else i.refs
    truncated := i.truncated || !(i.refs.length < Config.callRefs)
    lastCall := some now
    inSection := i.inSection || inSec }
  if grade < i.grade then
    { i with grade := grade, deadline := min i.deadline deadline, kind := if family then kind else i.kind }
  else i

/-- The reply of a call merged or opened (R85); opened is 0, merged 1 (DESIGN CHOICE [15]), and the grade is one byte
(DESIGN CHOICE [55]). -/
def callReply (i : Incident) (merged : Bool) (pipe : Option Nat) (href : List Byte) : Reply :=
  ⟨.ok, be 2 i.id ++ beFlag merged ++ be 1 i.grade ++ be 4 i.deadline ++ be 2 i.calls ++ beOpt 2 pipe ++ href⟩

/-- Merge a call into the incident of a slot (R95). -/
def Ev.mergeCall (e : Ev) (slot call : Nat) (kind : IncidentKind) (grade : Nat) (inSec family : Bool)
    (pipe : Option Nat) (href : List Byte) : Ev × Reply :=
  match tget e.p.reg.table slot with
  | none => (e, ⟨.notFound, []⟩)
  | some i =>
    let i := i.merge call kind grade (e.now + e.p.reg.response grade) e.now inSec family
    (e.modIncident slot fun _ => i, callReply i true pipe href)

/-- Open an incident for a call; refused FULL with notice TABLE_FULL when there is no slot (R96, R98). -/
def Ev.openForCall (e : Ev) (call : Nat) (called : IncidentKind) (i : Incident) (pipe : Option Nat) (href : List Byte) :
    Ev × Reply :=
  match e.openIncident { i with lastCall := some e.now, calls := 1, refs := [call] } with
  | some (e, i) => (e, callReply i false pipe href)
  | none => (e.noteTableFull called pipe, ⟨.full, href⟩)

/-- A call taken: the steps of R86 in order. -/
def Ev.takeCall (e : Ev) (call : Nat) (kind : IncidentKind) (key : Nat) (href : List Byte) : Ev × Reply :=
  match e.p.reg.lists call with
  | some i => (e, ⟨.duplicate, be 2 i.id ++ href⟩)
  | none =>
    let loc := e.locateCall key
    let pipe := loc.map (·.pipe)
    let grade := e.callGrade kind loc
    let inSec := callInSection kind loc
    let open_ : Ev × Reply :=
      e.openForCall call kind
        { newIncident kind grade (e.now + e.p.reg.response grade) e.now with
          pipe := pipe, tier := loc.map (·.link.tier), inSection := inSec } pipe href
    match loc with
    | none => open_
    | some l =>
      match (if kind = .noGas then l.rt.owner else none) with
      | some k => (e.absorb k, ⟨.absorbed, be 2 k ++ href⟩)
      | none =>
        if kind = .noGas && e.p.mon.tierLow.at l.link.tier then
          match e.p.reg.table.find? fun x =>
              x.2.uncleared && x.2.kind = .tierLow && x.2.tier = some l.link.tier with
          | some x => e.mergeCall x.1 call kind grade inSec false pipe href
          | none =>
            e.openForCall call kind
              { newIncident .tierLow 1 (e.now + e.p.reg.response1) e.now with tier := some l.link.tier } pipe href
        else
          match latestKey (e.p.reg.candidates kind l.pipe e.now) with
          | some slot => e.mergeCall slot call kind grade inSec true pipe href
          | none => open_

/-- CALL at the Incident Register, its checks in R85's order. -/
def Ev.call (e : Ev) (q : Req) : Ev × Reply :=
  if !q.rights.call then (e, ⟨.noRight, []⟩)
  else if !callLengthOk q.payload then (e, ⟨.badLength, []⟩)
  else
    match coded callKindOf q.payload 4 with
    | none => (e, ⟨.badValue, []⟩)
    | some kind => e.takeCall (field q.payload 0 4) kind (field q.payload 6 3) (hostRef q.payload)

/-! ## Updates and deadlines (R99 to R102) -/

/-- The slot and record of an incident id. -/
def IncidentRegister.byId (r : IncidentRegister) (id : Nat) : Option (Nat × Incident) := r.table.find? fun x => x.2.id = id

/-- Unlink a CLEARED incident from its isolation, on the isolation's side (R100, R133). -/
def Ev.unlinkIso (e : Ev) (iso : Option IsoRef) (incident : Nat) : Ev :=
  match iso with
  | none => e
  | some r =>
    e.modIso r.slot fun i => if i.serial = r.serial && i.incident = some incident then { i with incident := none } else i

/-- INCIDENT_UPDATE, its checks in R99's order; its effect is R100. -/
def Ev.incidentUpdate (e : Ev) (q : Req) : Ev × Reply :=
  if q.payload.length ≠ 3 then (e, ⟨.badLength, []⟩)
  else if !q.rights.operate then (e, ⟨.noRight, []⟩)
  else
    match coded incidentStateOf q.payload 2 with
    | none | some .opened => (e, ⟨.badValue, []⟩)
    | some st =>
      match e.p.reg.byId (field q.payload 0 2) with
      | none => (e, ⟨.notFound, []⟩)
      | some (slot, i) =>
        if st.rank ≤ i.state.rank then (e, ⟨.wrongState, []⟩)
        else
          let e := e.modIncident slot fun i =>
            { i with state := st, lastState := e.now, iso := if st = .cleared then none else i.iso }
          let e := if st = .cleared then e.unlinkIso i.iso i.id else e
          (e, ⟨.ok, be 1 st.code ++ beFlag i.overdue⟩)

/-- An incident's deadline timer expires (R102). -/
def Ev.deadlineExpiry (e : Ev) (id : Nat) : Ev :=
  match e.p.reg.byId id with
  | none => e
  | some (slot, i) =>
    if i.timed && i.deadline ≤ e.now then
      (e.modIncident slot fun i => { i with overdue := true }).note .incidentOverdue i.id
        (be 1 i.kind.code ++ be 1 i.grade ++ be 1 i.state.code ++ be 4 i.deadline)
    else e

/-! ## Isolations and incidents (R103 to R105) -/

/-- The linked incident of an isolation that enters EFFECTIVE moves to MADE_SAFE (R104). -/
def Ev.madeSafe (e : Ev) (incident : Option Nat) (r : IsoRef) : Ev :=
  match incident.bind e.p.reg.byId with
  | none => e
  | some (slot, i) =>
    if i.state.rank < IncidentState.madeSafe.rank then
      (e.modIncident slot fun i => { i with state := .madeSafe, lastState := e.now }).note .incidentState i.id
        (be 1 i.state.code ++ be 1 IncidentState.madeSafe.code ++ be 1 r.slot ++ be 2 r.serial)
    else e

/-- The register clears the linked isolation field of an incident that still holds this isolation (R105). -/
def Ev.unlinkIncident (e : Ev) (incident : Option Nat) (r : IsoRef) : Ev :=
  match incident.bind e.p.reg.byId with
  | none => e
  | some (slot, _) => e.modIncident slot fun i => if i.iso = some r then { i with iso := none } else i

/-- The isolation is an emergency: its linked incident is of grade 1 (R119). -/
def Ev.emergency (e : Ev) (i : Isolation) : Bool := ((i.incident.bind e.p.reg.byId).map fun x => decide (x.2.grade = 1)).getD false

end Sys2Proof.Machine
end

