-- ==== Sys2Proof/Machine/Orders.lean ====
section
/-! DEFINITION. Valve orders, holds and the return to planning (06_valve_orders.md; R123, R124 of 05_isolations.md; the
stalls R164, R165 of 07_restoration_and_relight.md). -/

namespace Sys2Proof.Machine

/-! ## Change of state of an isolation (R110) -/

/-- What leaving a state takes with it: CLOSE entries with CLOSING, OPEN entries with RESTORING (R141), the decay test
and the verify timer with VERIFYING (R78, R129). Entry to a terminal state sets the end time (R110). -/
def Isolation.moveTo (i : Isolation) (new : IsoState) (now : Nat) : Isolation :=
  let i := if i.state = .closing ∧ new ≠ .closing
    then { i with toIssue := i.toIssue.filter fun x => x.action ≠ .close } else i
  let i := if i.state = .restoring ∧ new ≠ .restoring
    then { i with toIssue := i.toIssue.filter fun x => x.action ≠ .reopen } else i
  let i := if i.state = .verifying ∧ new ≠ .verifying then { i with decay := false, verifyTimer := none } else i
  { i with state := new, endTime := if new.terminal then some now else i.endTime }

/-- A change of state with its ISOLATION_STATE notice (R110). -/
def Ev.setIso (e : Ev) (slot : Nat) (new : IsoState) (cause : IsoCause) (other : Other := .nothing) (left : Nat := 0) : Ev :=
  match e.iso? slot with
  | none => e
  | some i => (e.modIso slot fun i => i.moveTo new e.now).noteIso slot i.serial (some i.state) new cause other left

/-! ## Ramp stalls (R164, R165) -/

/-- The ramp of an isolation stalls, unless it has stalled already; `values` are the expected value and the value (R164). -/
def Ev.stall (e : Ev) (slot : Nat) (cause : StallCause) (object : Option Nat) (frozen : Option Nat) (values : Int × Int) : Ev :=
  match e.iso? slot with
  | none => e
  | some i =>
    match i.ramp with
    | none => e
    | some r =>
      if r.stall.isSome then e
      else
        let r := { r with stall := some ⟨cause, object, e.now⟩, startTimer := none, frozen := frozen }
        (e.modIso slot fun i => { i with ramp := some r }).note .restoreStall slot
          (be 2 i.serial ++ be 1 cause.code ++ beOpt 2 object ++ bePu values.1 ++ bePu values.2)

/-- The isolation has an OPEN order outstanding or an OPEN entry to issue (R165, R168). -/
def Ev.awaitsOpening (e : Ev) (r : IsoRef) : Bool :=
  !(e.ordersOf r .reopen).isEmpty || ((e.named? r).map fun i => i.toIssue.any fun x => x.action = .reopen).getD false

/-- An OPEN order left the list otherwise than by OPERATED or POSITION_MET: the ramp may have lost its last opening (R165). -/
def Ev.blockedStall (e : Ev) (r : IsoRef) (link : Nat) : Ev :=
  match e.named? r with
  | none => e
  | some i =>
    if i.state = .restoring && (i.ramp.map fun x => x.t0.isNone).getD false && !e.awaitsOpening r
    then e.stall r.slot .blocked (some link) none (0, 0) else e

/-! ## Orders leaving the list (R143) -/

/-- An order leaves the list: state, finish time and cause, the link's order field, notice ORDER_END (R143). -/
def Ev.finishOrder (e : Ev) (id : Nat) (st : OrderState) (cause : FinishCause) : Ev :=
  match e.order? id with
  | none => e
  | some o =>
    let e := e.modOrder id fun o => { o with state := st, finishTime := some e.now, cause := some cause }
    (e.modControl o.link fun c => { c with order := none }).note .orderEnd id
      (be 2 o.link ++ be 1 o.action.code ++ be 1 st.code ++ be 1 cause.code ++ be 1 o.iso.slot ++ be 2 o.iso.serial)

/-! ## Issue (R139 to R142) -/

/-- Room for a record: of 256, the finished order with the oldest finish time is discarded (R139). -/
def IsolationController.makeRoom (c : IsolationController) : Table Order :=
  if c.orders.length < Config.orderRecords then c.orders
  else
    match oldestKey (c.orders.filterMap fun x => if x.2.outstanding then none else some (x.1, x.2.finishTime.getD 0)) with
    | some k => terase c.orders k
    | none => c.orders

/-- Issue an order at once: a new id, the link's order field, the overdue timer, notice ORDER_NEW (R139, R140, R145). -/
def Ev.issueNow (e : Ev) (r : IsoRef) (link : Nat) (action : OrderAction) : Ev :=
  let orders := e.p.ctl.makeRoom
  let id := offerId (fun n => thas orders n) (Config.orderRecords + 1) e.p.ctl.orderSerial
  let o : Order := { iso := r, link := link, action := action, issued := e.now, expiry := e.now + e.p.ctl.acceptTime }
  let e : Ev := { e with p.ctl.orders := tset orders id o, p.ctl.orderSerial := nextSerial id }
  (e.modControl link fun c => { c with order := some id }).note .orderNew id
    (be 1 r.slot ++ be 2 r.serial ++ be 2 link ++ be 1 action.code ++ be 4 e.now)

/-- Put an entry in a to-issue list, in the order of the closure set, no link twice (R141). -/
def insertIssue (closure : List Nat) (x : Issue) (l : List Issue) : List Issue :=
  if l.any fun y => y.link = x.link then l
  else
    let before := l.takeWhile fun y => closure.idxOf y.link < closure.idxOf x.link
    before ++ x :: l.drop before.length

/-- Issue an order for an isolation, or let its link join the to-issue list when 128 are outstanding (R140); whether it
was issued. -/
def Ev.issue (e : Ev) (slot link : Nat) (action : OrderAction) : Ev × Bool :=
  match e.iso? slot with
  | none => (e, false)
  | some i =>
    if e.outstandingCount < Config.outstandingOrders then (e.issueNow ⟨slot, i.serial⟩ link action, true)
    else (e.modIso slot fun i => { i with toIssue := insertIssue i.closure ⟨link, action⟩ i.toIssue }, false)

/-- Issue orders for some links in turn; how many were issued and how many were left to issue. -/
def Ev.issueAll (slot : Nat) (action : OrderAction) : List Nat → Ev → Ev × Nat × Nat
  | [], e => (e, 0, 0)
  | l :: ls, e =>
    match e.issue slot l action with
    | (e, now) =>
      match Ev.issueAll slot action ls e with
      | (e, a, b) => if now then (e, a + 1, b) else (e, a, b + 1)

/-- The facts under which the arbiter issues an entry (R142). -/
def Ev.servable (e : Ev) (i : Isolation) (x : Issue) : Bool :=
  match x.action with
  | .close => i.state = .closing && i.holds.contains x.link && e.isOpen x.link && (e.orderOf? x.link).isNone
  | .reopen => i.state = .restoring && (e.holders x.link).isEmpty && e.isClosed x.link && e.workable x.link
      && (e.orderOf? x.link).isNone

/-- The arbiter serves entries while fewer than 128 orders are outstanding: the first entry of the lowest slot (R142).
`fuel` bounds the number served. -/
def Ev.serve : Nat → Ev → Ev
  | 0, e => e
  | fuel + 1, e =>
    if e.outstandingCount < Config.outstandingOrders then
      match e.p.ctl.isos.find? fun x => !x.2.toIssue.isEmpty with
      | none => e
      | some (slot, i) =>
        match i.toIssue with
        | [] => e
        | x :: rest =>
          let ok := e.servable i x
          let e := e.modIso slot fun i => { i with toIssue := rest }
          Ev.serve fuel (if ok then e.issueNow ⟨slot, i.serial⟩ x.link x.action else e)
    else e

/-- All entries of all to-issue lists. -/
def Ev.entryCount (e : Ev) : Nat := (e.p.ctl.isos.map fun x => x.2.toIssue.length).sum

/-- The arbiter at the end of an event (R142, R143). -/
def Ev.arbitrate (e : Ev) : Ev := Ev.serve e.entryCount e

/-- Take entries for a link out of every to-issue list (R141). -/
def Ev.dropEntries (e : Ev) (link : Nat) (which : OrderAction → Bool) : Ev :=
  { e with p.ctl.isos := e.p.ctl.isos.map fun x =>
      (x.1, { x.2 with toIssue := x.2.toIssue.filter fun y => !(y.link = link && which y.action) }) }

/-! ## Holds (R123, R144) -/

/-- Take a slot off the holder lists of some links, and the links off its hold set (R5, R123). -/
def Ev.releaseHolds (e : Ev) (slot : Nat) (links : List Nat) : Ev :=
  let e := e.each links fun l e => e.modControl l fun c => { c with holders := c.holders.filter (· ≠ slot) }
  e.modIso slot fun i =>
    { i with holds := i.holds.filter fun l => !links.contains l
             toIssue := i.toIssue.filter fun x => !(x.action = .close && links.contains x.link) }

/-- Withdraw the OPEN order outstanding for a link before a hold on it is counted; the isolation it was issued for may
thereby lose its last opening (R144, R165). -/
def Ev.withdrawOpen (e : Ev) (link : Nat) : Ev :=
  match e.orderOf? link with
  | some (id, o) =>
    if o.action = .reopen then (e.finishOrder id .withdrawn .held).blockedStall o.iso link else e
  | none => e

/-- Take holds on some links: OPEN entries for them leave every to-issue list (R141), OPEN orders for them are withdrawn
one after another, then the slot goes to the tail of each holder list (R122, R144, R167). DESIGN CHOICE [52]: they
are withdrawn in the order of the closure set. A ramp that stalls names the link of the order after whose leaving it
has none (R165). -/
def Ev.takeHolds (e : Ev) (slot : Nat) (links : List Nat) : Ev :=
  let e := e.each links fun l e => e.dropEntries l fun a => a = .reopen
  let e := e.each links fun l e => e.withdrawOpen l
  let e := e.each links fun l e => e.modControl l fun c => { c with holders := c.holders ++ [slot] }
  e.modIso slot fun i => { i with holds := i.holds ++ links }

/-- The first closure member that already has 4 holders and is not held by this isolation itself (R121). -/
def Ev.shareLimit (e : Ev) (slot : Nat) (links : List Nat) : Option Nat :=
  links.find? fun l => Config.holdersPerLink ≤ (e.holders l).length && !(e.holders l).contains slot

/-! ## The return to planning (R124) and what follows a withdrawn CLOSE order (R144) -/

/-- What R124 does to the record of the isolation itself: CLOSED members but the failed one stay held, its list is
emptied, the result is NONE, and the carry-through mark is set for the recorded authoriser. -/
def Isolation.replan (i : Isolation) (kept : List Nat) : Isolation :=
  { i with holds := kept, toIssue := [], result := .none, carry := some (i.authoriser.getD i.requester) }

/-- An isolation in CLOSING is sent back to planning, with a link as the failed member (R124); each of its own CLOSE
orders is withdrawn, and a link still held in CLOSING and standing OPEN is ordered closed again or fails its holders
too (R144). DESIGN CHOICE [49]: where one event sends several isolations back, the released links are tested after
each of them, before the next is sent back. DESIGN CHOICE [54]: the links of its withdrawn orders are tested after all
of these orders have been withdrawn, one link after another in ascending id of the withdrawn orders. Each call that
does anything takes one isolation out of CLOSING, so `fuel` above their number is enough. -/
def Ev.memberFailed : Nat → Nat → Nat → Ev → Ev
  | 0, _, _, e => e
  | fuel + 1, slot, link, e =>
    match e.iso? slot with
    | none => e
    | some i =>
      if i.state ≠ .closing then e
      else
        let kept := i.holds.filter fun l => l ≠ link && e.isClosed l
        let own := e.ordersOf ⟨slot, i.serial⟩ .close
        let links := own.filterMap fun id => (e.order? id).map (·.link)
        let e := e.releaseHolds slot (i.holds.filter fun l => !kept.contains l)
        let e := e.modIso slot fun i => i.replan kept
        let e := e.setIso slot .planning .memberFailed (.link link)
        let e := e.each own fun id e => e.finishOrder id .withdrawn .released
        let e := (e.askTrace slot).askRecompute
        e.each links fun l e =>
          match e.closingHolders l with
          | [] => e
          | h :: hs =>
            if e.isClosed l || (e.orderOf? l).isSome then e
            else if e.workable l then (e.issue h l .close).1
            else e.each (h :: hs) fun s e => Ev.memberFailed fuel s l e

/-- R124 for each of some isolations in turn, with a link as the failed member. -/
def Ev.failMembers (e : Ev) (slots : List Nat) (link : Nat) : Ev :=
  e.each slots fun s e => Ev.memberFailed (Config.isolationSlots + 1) s link e

/-- CLOSE orders named on an isolation are withdrawn when it releases its holds on their links, and replaced where
another holder in CLOSING still needs the link shut (R144). DESIGN CHOICE [54]: all of them are withdrawn first, and
then their links are tested and replaced one after another, in ascending id of the withdrawn orders. -/
def Ev.withdrawCloses (e : Ev) (r : IsoRef) (released : List Nat) : Ev :=
  let own := (e.ordersOf r .close).filter fun id => (e.order? id).any fun o => released.contains o.link
  let links := own.filterMap fun id => (e.order? id).map (·.link)
  let e := e.each own fun id e => e.finishOrder id .withdrawn .released
  e.each links fun l e =>
    match e.closingHolders l with
    | [] => e
    | h :: hs =>
      if e.isClosed l || (e.orderOf? l).isSome then e
      else if e.workable l then (e.issue h l .close).1
      else e.failMembers (h :: hs) l

/-- A valve or regulator becomes unworkable (R150); `cause` is the finish cause of its outstanding order. The bump of
the generation is the caller's, one for the whole event. -/
def Ev.unworkable (e : Ev) (link : Nat) (cause : FinishCause) : Ev :=
  let ord := e.orderOf? link
  let closers := if (ord.map fun x => decide (x.2.action = .close)).getD false then e.closingHolders link else []
  let listed := e.slotsWhere fun _ i =>
    i.state = .closing && i.toIssue.any fun x => x.link = link && x.action = .close
  let e := match ord with
    | some (id, _) => e.finishOrder id .failed cause
    | none => e
  let e := (e.failMembers closers link).failMembers listed link
  let e := e.dropEntries link fun _ => true
  match ord with
  | some (_, o) =>
    if o.action = .reopen && ((e.named? o.iso).map fun i => decide (i.state = .restoring)).getD false then
      (e.note .restoreBlocked o.iso.slot (be 2 o.iso.serial ++ be 2 link)).blockedStall o.iso link
    else e
  | none => e

/-- An order's overdue timer expires (R145). -/
def Ev.orderOverdue (e : Ev) (id : Nat) : Ev :=
  match e.order? id with
  | none => e
  | some o =>
    if o.state = .issued && !o.overdue && o.expiry ≤ e.now then
      (e.modOrder id fun o => { o with overdue := true }).note .orderOverdue id
        (be 2 o.link ++ be 1 o.action.code ++ be 1 o.iso.slot ++ be 2 o.iso.serial ++ be 4 o.issued)
    else e

/-- OPEN orders named on an isolation that becomes terminal are withdrawn with cause ENDED (R144). -/
def Ev.withdrawOpens (e : Ev) (r : IsoRef) : Ev :=
  e.each (e.ordersOf r .reopen) fun id e => e.finishOrder id .withdrawn .ended

/-- The end of an event: the arbiter serves freed places (R143), peaks are taken (R180), what running jobs could have
read is noted [8] [9], and an idle engine takes its next job (R30). The next event may move the generation again (R8). -/
def Ev.settle (e : Ev) : Ev :=
  ({ e with bumped := false } : Ev).arbitrate.notePeaks.watchCheck.watchRecompute.takeJob

end Sys2Proof.Machine
end

