-- ==== Sys2Proof/Machine/Link.lean ====
section
/-! DEFINITION. The Control Link (10_the_control_link.md): the receiver, admission, the reply buffer, the notice queue,
the transmitter, how an event of the blocks is taken and how a request is answered; then the link's own commands. -/

namespace Sys2Proof.Machine

/-! ## The transmitter and the notice queue (R202 to R205) -/

/-- An entry has left the notice queue: with 16 free, RESYNC is queued, bypassing the mask, and the condition clears (R203). -/
def ControlLink.resyncCheck (l : ControlLink) : ControlLink :=
  match l.resync with
  | none => l
  | some r =>
    if Config.resyncFree ≤ Config.noticeQueue - l.notices.length then
      { l with
        notices := l.notices ++ [⟨.resync, 0, be 2 r.dropped ++ be 4 r.first, l.partTime⟩]
        resync := none }
    else l

/-- An idle transmitter takes the oldest reply, else the oldest notice (R205). -/
def ControlLink.pump (l : ControlLink) : ControlLink :=
  if l.sending.isSome then l
  else
    match l.replies with
    | r :: rest => { l with sending := some r, replies := rest }
    | [] =>
      match l.notices with
      | n :: rest => ({ l with sending := some n.frame, notices := rest } : ControlLink).resyncCheck
      | [] => l

/-- The notice kind is enabled: bit k of the mask is the flag of kind k (R204, R217). -/
def ControlLink.enables (l : ControlLink) (k : NoticeKind) : Bool := l.mask.getLsbD k.code

/-- A block queues a notice: dropped under a set resync condition or a full queue, else it joins the tail (R202, R203).
DESIGN CHOICE [12]: an idle transmitter begins it at once. -/
def ControlLink.queue (l : ControlLink) (n : Notice) : ControlLink :=
  if !l.enables n.kind then l
  else
    match l.resync with
    | some r =>
      { l with
        resync := some { r with dropped := min 65535 (r.dropped + 1) }
        counters := { l.counters with noticesDropped := l.counters.noticesDropped + 1 } }
    | none =>
      if Config.noticeQueue ≤ l.notices.length then
        { l with
          resync := some ⟨1, l.partTime⟩
          counters := { l.counters with noticesDropped := l.counters.noticesDropped + 1 } }
      else ({ l with notices := l.notices ++ [n] } : ControlLink).pump

/-! ## Replies (R199, R201, R211, R217) -/

/-- The kind of the reply to a frame: the kind with its top bit set, and 0x80 where that would be a notice's (R217). -/
def replyKind (kind : Nat) : Nat := if kind ||| 0x80 = 0xF0 then 0x80 else kind ||| 0x80

/-- A reply with a refusal code is recorded for its origin (R211). -/
def ControlLink.recordRefusal (l : ControlLink) (origin : Nat) (c : Status) : ControlLink :=
  if c.refusal then { l with refusals := l.refusals.modify origin fun r => ⟨r.count + 1, some c⟩ } else l

/-- A reply sent at once: it needs a free place beside the one kept for the current request (R201). -/
def ControlLink.replyAtOnce (l : ControlLink) (f : Frame) (c : Status) : ControlLink :=
  if l.replies.length + l.handling.toNat < Config.replyBuffer then
    ({ l with replies := l.replies ++ [⟨replyKind f.kind, f.tag, be 1 c.code⟩] } : ControlLink).pump
  else { l with counters := { l.counters with repliesDropped := l.counters.repliesDropped + 1 } }

/-- The reply of the current request is formed; the frame leaves the queue (R200, R201). -/
def ControlLink.finish (l : ControlLink) (f : Frame) (r : Reply) : ControlLink :=
  let l := l.recordRefusal f.origin r.status
  ({ l with
    inbound := l.inbound.tail
    handling := false
    replies := l.replies ++ [⟨replyKind f.kind, f.tag, r.payload⟩] } : ControlLink).pump

/-! ## The receiver and admission (R198, R199) -/

/-- Admission of a good frame, by R199's checks in order. -/
def ControlLink.admitFrame (l : ControlLink) (f : Frame) : ControlLink :=
  if 7 < f.origin then
    ({ l with counters := { l.counters with badOrigin := l.counters.badOrigin + 1 } } : ControlLink).replyAtOnce f .badOrigin
  else if Config.inboundFrames ≤ l.inbound.length then
    (({ l with counters := { l.counters with busy := l.counters.busy + 1 } } : ControlLink).recordRefusal
      f.origin .busy).replyAtOnce f .busy
  else { l with inbound := l.inbound ++ [f] }

/-- A frame is whole: `b` holds its bytes from the kind to the CRC, `len` its payload length (R198). -/
def ControlLink.frameWhole (l : ControlLink) (len : Nat) (b : List Byte) : ControlLink :=
  let l := { l with receiver := .hunting }
  if (crc16 (be 2 len ++ b.take (len + 3))).toNat = field b (len + 3) 2 then
    ({ l with counters := { l.counters with good := l.counters.good + 1 } } : ControlLink).admitFrame
      ⟨field b 0 1, (b[1]?).getD 0, field b 2 1, bytesAt b 3 len⟩
  else { l with counters := { l.counters with crc := l.counters.crc + 1 } }

/-- One byte in HUNTING (R198). -/
def hunt (b : Byte) : Receiver := if b = 0xA5 then .header [] else .hunting

/-- After a length error the two length bytes are examined again (R198). -/
def rehunt (hi lo : Byte) : Receiver := if hi = 0xA5 then .header [lo] else hunt lo

/-- One received byte (R198). -/
def ControlLink.receive (l : ControlLink) (b : Byte) : ControlLink :=
  match l.receiver with
  | .hunting => { l with receiver := hunt b }
  | .header [] => { l with receiver := .header [b] }
  | .header (hi :: _) =>
    let len := beVal [hi, b]
    if Config.maxPayload < len then
      { l with receiver := rehunt hi b, counters := { l.counters with length := l.counters.length + 1 } }
    else { l with receiver := .body len [] }
  | .body len got =>
    let got := b :: got
    if got.length = len + 5 then l.frameWhole len got.reverse else { l with receiver := .body len got }

/-- What a byte time brings: a framing error is a byte of value 0x00 (R198). -/
def lineValue : LineByte → Byte
  | .byte b => b
  | .framingError => 0

/-! ## How an event of the blocks is taken -/

/-- An event of the blocks begins at the present part time. -/
abbrev State.ev (s : State) : Ev := Ev.start s.plant s.link.partTime []

/-- Take one event of the blocks at the present part time: its notices are queued in their order (R202). -/
def State.event (s : State) (f : Ev → Ev) : State :=
  let e := (f s.ev).settle
  { s with plant := e.p, link := e.out.foldl ControlLink.queue s.link }

/-- The current request, once it has been handed to its owner (R200). -/
def State.current? (s : State) : Option Frame := if s.link.handling then s.link.inbound.head? else none

/-- The request a frame is, with the rights its origin holds when it is handled (R210). -/
def State.req (s : State) (f : Frame) : Req :=
  ⟨f.origin, (s.link.rights[f.origin]?).getD ⟨false, false, false, false, false⟩, f.payload⟩

/-- The owner's step on the current request, and its reply. A current request of another kind or row is left alone [1]. -/
def State.answer (s : State) (kind : Nat) (row : List Byte → Bool) (act : Req → State → State × Reply) : State :=
  match s.current? with
  | none => s
  | some f =>
    if f.kind = kind && row f.payload then
      match act (s.req f) s with
      | (s, r) => { s with link := s.link.finish f r }
    else s

/-- A request that a block behind the link decides. -/
def State.answerEv (s : State) (kind : Nat) (row : List Byte → Bool) (act : Req → Ev → Ev × Reply) : State :=
  s.answer kind row fun q s =>
    let r := act q s.ev
    (s.event fun _ => r.1, r.2)

/-- A kind that one row takes whole. -/
def wholeKind (_ : List Byte) : Bool := true

/-- A rule that lists no length check: BAD_LENGTH before any other check (R200). -/
def lengthFirst {α : Type} (ok : List Byte → Bool) (act : Req → α → α × Reply) (q : Req) (x : α) : α × Reply :=
  if ok q.payload then act q x else (x, ⟨.badLength, []⟩)

/-- The outcome of every command: nothing stops the part (0.1 of 00_scope.md). -/
abbrev Result := Host.Outcome State Fault Refusal

/-! ## The link's own commands -/

/-- POWER_ON: every block at its power-on value, the rate from the strap (R196, section 10.13). The commands that wait
and the count of drawn free values are the model's own and stay. -/
def execPowerOn (strap : Strap) (s : State) : Result :=
  .next { s with link := linkPowerOn strap, plant := { draws := s.plant.draws } }

/-- FRAME_RECEIVED: the bytes pass through the receiver one by one; while the line is held low it takes none (R198, R215). -/
def execFrameReceived (bytes : List LineByte) (s : State) : Result :=
  .next (if s.link.lineLow then s else
    { s with link := bytes.foldl (fun l b => l.receive (lineValue b)) s.link })

/-- GAP_ABORT: 100 ms without a byte in HEADER or BODY (R198). -/
def execGapAbort (s : State) : Result :=
  .next (match s.link.receiver with
    | .hunting => s
    | .header _ | .body .. =>
      { s with
        link.receiver := .hunting
        link.counters := { s.link.counters with gaps := s.link.counters.gaps + 1 } })

/-- A kind byte that is a request kind: 0x01 to 0x25 (R217). -/
def isRequestKind (kind : Nat) : Bool := 1 ≤ kind && kind ≤ 0x25

/-- The current request has been passed to its owning block (R200, R215); an unknown kind has no owner [33]. -/
def ControlLink.passed (l : ControlLink) : Bool := l.handling && (l.inbound.head?).any fun f => isRequestKind f.kind

/-- The steps RESET LINK and the line break share: receiver, inbound queue, notice queue, resync condition (R214, R215).
Only a frame that its owner is handling stays. -/
def ControlLink.resetLink (l : ControlLink) : ControlLink :=
  { l with
    receiver := .hunting
    inbound := if l.passed then l.inbound.take 1 else []
    handling := l.passed
    notices := []
    resync := none }

/-- LINE_BREAK: the low has lasted 200 ms (R215). -/
def execLineBreak (s : State) : Result :=
  .next (if s.link.lineLow then s else
    { s with link :=
        { s.link.resetLink with
          lineLow := true
          counters := { s.link.counters with breaks := s.link.counters.breaks + 1 } } })

/-- LINE_RETURNS_HIGH: the break is over (R215). -/
def execLineReturnsHigh (s : State) : Result := .next { s with link.lineLow := false }

/-- REQUEST_DISPATCH: with room for a reply, the frame at the head becomes the current request (R200, R201). -/
def execRequestDispatch (s : State) : Result :=
  .next (if !s.link.handling && !s.link.inbound.isEmpty && s.link.replies.length < Config.replyBuffer then
    { s with link.handling := true } else s)

/-- UNKNOWN_KIND: a kind that is not a request kind (R200, R217). -/
def execUnknownKind (s : State) : Result :=
  .next (match s.current? with
    | none => s
    | some f => if isRequestKind f.kind then s else { s with link := s.link.finish f ⟨.unknownKind, []⟩ })

/-- TRANSMIT_COMPLETE: the transmitter finishes a frame and the arbiter chooses the next (R205). -/
def execTransmitComplete (s : State) : Result :=
  .next (match s.link.sending with
    | none => s
    | some _ => { s with link := ({ s.link with sending := none } : ControlLink).pump })

end Sys2Proof.Machine
end

