-- ==== Sys2Proof/Machine/Isolations.lean ====
section
/-! DEFINITION. Isolations from request to EFFECTIVE (05_isolations.md), with the decay test the Station Monitor serves
them (R78): waiting, the terminal states and teardown, verification, the authorisation step, the outcomes of a trace,
and the requests ISOLATE, AUTHORISE, CANCEL, ACCEPT, ISOLATION_RELEASE and ISOLATION_READ. -/

namespace Sys2Proof.Machine

/-! ## Section stations (R37, R78) -/

/-- The stations bound to an isolation's section nodes, ascending (R37). -/
def Ev.sectionStations (e : Ev) (i : Isolation) : Table Station :=
  e.p.mon.stations.filter fun x => x.2.cfg.node.any fun n => i.nodes.contains n

/-- The section stations that are non-stale: the set of the decay test (R78). -/
def Ev.liveStations (e : Ev) (i : Isolation) : Table Station := (e.sectionStations i).filter fun x => x.2.rt.nonStale

/-- The station stands above its tier's dead threshold (R78). -/
def Ev.aboveDead (e : Ev) (s : Station) : Bool := e.p.mon.dead.at s.cfg.tier < s.rt.value

/-! ## Waiting and the terminal states (R105, R116, R126, R133) -/

/-- A WAITING isolation re-enters PLANNING (R116). -/
def Ev.waitOver (e : Ev) (slot : Nat) : Ev :=
  ((e.modIso slot fun i => { i with waitingOn := none }).setIso slot .planning .waitOver).askTrace slot

/-- Every isolation waiting on one that became terminal re-enters PLANNING, in ascending slot (R116). -/
def Ev.wake (e : Ev) (r : IsoRef) : Ev :=
  e.each (e.slotsWhere fun _ i => i.state = .waiting && i.waitingOn = some r) fun k e => e.waitOver k

/-- Entry to a terminal state: its notice, the incident link removed on both sides, and the waiting isolations woken
(R105, R110, R116, R133). -/
def Ev.endIso (e : Ev) (slot : Nat) (new : IsoState) (cause : IsoCause) (other : Other) (left : Nat) : Ev :=
  match e.iso? slot with
  | none => e
  | some i =>
    let r : IsoRef := ⟨slot, i.serial⟩
    let e := (e.setIso slot new cause other left).unlinkIncident i.incident r
    (e.modIso slot fun i => { i with incident := none }).wake r

/-- The teardown of a replanning isolation (R126); how many of its former members stay CLOSED with no holder. -/
def Ev.tearDown (e : Ev) (slot : Nat) : Ev × Nat :=
  match e.iso? slot with
  | none => (e, 0)
  | some i =>
    let r : IsoRef := ⟨slot, i.serial⟩
    let e := ((e.releaseHolds slot i.holds).withdrawCloses r i.holds).withdrawOpens r
    let e := e.modIso slot fun i => { i with toIssue := [] }
    let e := (e.releaseClaims slot fun _ => true).bump.askRecompute
    let e := e.closeRecordOf i.outage
    (e, (i.holds.filter fun l => e.isClosed l && (e.holders l).isEmpty).length)

/-- Entry to FAILED or CANCELLED: a replanning isolation is torn down first (R126). -/
def Ev.giveUp (e : Ev) (slot : Nat) (new : IsoState) (cause : IsoCause) (other : Other) : Ev :=
  match e.iso? slot with
  | none => e
  | some i =>
    if i.authorised then
      match e.tearDown slot with
      | (e, left) => e.endIso slot new cause other left
    else e.endIso slot new cause other 0

/-- Entry to FAILED with its reason (R115, R125). -/
def Ev.failIso (e : Ev) (slot : Nat) (reason : FailReason) (cause : IsoCause) (other : Other) : Ev :=
  (e.modIso slot fun i => { i with failure := some reason }).giveUp slot .failed cause other

/-! ## Verification (R128 to R131) -/

/-- Entry to EFFECTIVE (R131). -/
def Ev.enterEffective (e : Ev) (slot : Nat) (cause : IsoCause) : Ev :=
  match e.iso? slot with
  | none => e
  | some i =>
    let e := e.setIso slot .effective cause
    let e := e.modIso slot fun i => { i with effectTime := some e.now }
    (e.madeSafe i.incident ⟨slot, i.serial⟩).askRecompute

/-- EFFECTIVE with a verification result (R129). -/
def Ev.verified (e : Ev) (slot : Nat) (result : Verification) (cause : IsoCause) : Ev :=
  (e.modIso slot fun i => { i with result := result }).enterEffective slot cause

/-- The decay check of a running test whose set is not empty; a pass ends it in EFFECTIVE (R78, R129). -/
def Ev.decayCheck (e : Ev) (slot : Nat) : Ev :=
  match e.iso? slot with
  | none => e
  | some i =>
    if i.state = .verifying && i.decay && !(e.liveStations i).isEmpty && !(e.liveStations i).any (fun x => e.aboveDead x.2)
    then e.verified slot .verified .decayed else e

/-- What entry to VERIFYING starts (R129). -/
def Ev.enterVerifying (e : Ev) (slot : Nat) : Ev :=
  let e := (e.modIso slot fun i => { i with result := .none }).askRecompute
  match e.iso? slot with
  | none => e
  | some i =>
    if (e.liveStations i).isEmpty then e.verified slot .unverified .noStation
    else
      (e.modIso slot fun i => { i with decay := true, verifyTimer := some (e.now + e.p.ctl.verifyTime) }).decayCheck slot

/-- Every member of the closure set stands CLOSED (R128). -/
def Ev.allClosed (e : Ev) (i : Isolation) : Bool := i.closure.all e.isClosed

/-- The closing check of an isolation in CLOSING (R128). -/
def Ev.closingCheck (e : Ev) (slot : Nat) : Ev :=
  match e.iso? slot with
  | none => e
  | some i =>
    if i.state = .closing && e.allClosed i then (e.setIso slot .verifying .allClosed).enterVerifying slot else e

/-- Notice PASSING (R79, R129, R221). -/
def Ev.notePassing (e : Ev) (slot serial above lowest : Nat) : Ev :=
  e.note .passing slot (be 2 serial ++ be 2 above ++ be 2 lowest)

/-- The verify timer expires, and the monitor gives its final answer (R78, R129). -/
def Ev.verifyExpiry (e : Ev) (slot : Nat) : Ev :=
  match e.iso? slot with
  | none => e
  | some i =>
    if i.state = .verifying && i.verifyTimer.any (· ≤ e.now) then
      let e := e.modIso slot fun i => { i with verifyTimer := none }
      let above := tkeysWhere (e.liveStations i) fun _ s => e.aboveDead s
      if (e.liveStations i).isEmpty then e.verified slot .unverified .noStation
      else
        match above with
        | [] => e.verified slot .verified .decayed
        | lowest :: _ =>
          (e.modIso slot fun i => { i with result := .passingSuspected }).notePassing slot i.serial above.length lowest
    else e

/-! ## The authorisation step (R122) -/

/-- Claim the section pipes for a slot (R122). -/
def Ev.claimSection (e : Ev) (slot : Nat) (section_ : List Nat) : Ev :=
  e.mapPipes fun k p => if section_.contains k then { p with claim := some slot } else p

/-- Members that stand OPEN with no CLOSE order outstanding (R122, R167). -/
def Ev.needingClose (e : Ev) (i : Isolation) : List Nat :=
  i.closure.filter fun l => e.isOpen l && (e.orderOf? l).isNone

/-- The authorisation step, its eight steps as one event (R122); how many orders were issued and left to issue. -/
def Ev.authStep (e : Ev) (slot authoriser : Nat) (cause : IsoCause) : Ev × Nat × Nat :=
  match e.iso? slot with
  | none => (e, 0, 0)
  | some i =>
    let e := (e.releaseClaims slot fun k => !i.section?.contains k).claimSection slot i.section?
    let e := (e.takeHolds slot (i.closure.filter fun l => !i.holds.contains l)).bump
    let e := if i.outage.isSome then e else e.openRecord ⟨slot, i.serial⟩
    let e := e.modIso slot fun i =>
      { i with
        result := .none, carry := none, authoriser := some authoriser
        authTime := some (i.authTime.getD e.now) }
    let e := e.askRecompute
    if e.allClosed i then ((e.setIso slot .verifying cause).enterVerifying slot, 0, 0)
    else Ev.issueAll slot .close (e.needingClose i) (e.setIso slot .closing cause)

/-! ## The outcome of a trace (R41, R115, R125) -/

/-- What a trace hands on (R41). -/
inductive Outcome where
  | plan (p : Plan)
  | conflict (r : IsoRef)
  | failure (f : FailReason)
  deriving DecidableEq, Repr

/-- A plan handed on to an isolation: stored whole, holds and claims outside it released, then carry-through or PLANNED
(R115, R125). -/
def Ev.takePlan (e : Ev) (slot : Nat) (p : Plan) : Ev :=
  match e.iso? slot with
  | none => e
  | some old =>
    let i := { old with plan := some p }
    let e := e.modIso slot fun _ => i
    let loose := i.holds.filter fun l => !i.closure.contains l
    let changed := i.authorised && (!loose.isEmpty || (e.claimed slot).any fun k => !i.section?.contains k)
    let e := if i.authorised then
        ((e.releaseHolds slot loose).withdrawCloses ⟨slot, i.serial⟩ loose).releaseClaims slot
          fun k => !i.section?.contains k
      else e
    let toPlanned : IsoCause → Other → Ev := fun cause other =>
      let e := if changed then e.bump else e
      let e := e.modIso slot fun i =>
        { i with
          carry := none
          plan := if changed then some { p with gen := e.p.net.generation } else i.plan }
      e.setIso slot .planned cause other
    match i.carry with
    | some authoriser =>
      if e.emergency i then
        match e.shareLimit slot i.closure with
        | some l => toPlanned .shareLimit (.link l)
        | none => (e.authStep slot authoriser .carried).1
      else toPlanned .plan .nothing
    | none => toPlanned .plan .nothing

/-- A claim conflict handed on (R115, R116, R125). -/
def Ev.takeConflict (e : Ev) (slot : Nat) (r : IsoRef) : Ev :=
  match e.iso? slot with
  | none => e
  | some i =>
    if i.hold then
      let e := (e.modIso slot fun i => { i with waitingOn := some r, carry := none }).setIso slot .waiting .conflict (.iso r)
      if ((e.named? r).map fun j => j.state.terminal).getD true then e.waitOver slot else e
    else e.failIso slot .claimed .conflict (.iso r)

/-- The outcome of a trace at the Isolation Controller (R41). -/
def Ev.takeOutcome (e : Ev) (slot : Nat) : Outcome → Ev
  | .plan p => e.takePlan slot p
  | .conflict r => e.takeConflict slot r
  | .failure f => e.failIso slot f f.cause .nothing

/-! ## Requests on an isolation -/

/-- The isolation a request names (R112). -/
def Ev.onNamed (e : Ev) (p : List Byte) (act : Nat → Isolation → Ev × Reply) : Ev × Reply :=
  if 31 < (isoRefAt p).slot then (e, ⟨.badValue, []⟩)
  else
    match e.named? (isoRefAt p) with
    | none => (e, ⟨.notFound, []⟩)
    | some i => act (isoRefAt p).slot i

/-- The payload of a request that carries slot and serial alone. -/
def refLengthOk (p : List Byte) : Bool := p.length = 3

/-- The slot a new isolation takes: the lowest empty, else the terminal isolation with the oldest end time (R111). -/
def IsolationController.freeSlot (c : IsolationController) : Option Nat :=
  match lowestFree c.isos 0 Config.isolationSlots with
  | some k => some k
  | none =>
    oldestKey (c.isos.filterMap fun x => if x.2.state.terminal then some (x.1, x.2.endTime.getD 0) else none)

/-- The register's answer about a named incident (R103): the status that refuses it, or its record. -/
def IncidentRegister.asked (r : IncidentRegister) (id : Nat) : Status ⊕ (Nat × Incident) :=
  match r.byId id with
  | none => .inl .notFound
  | some x => if !x.2.uncleared then .inl .notFound else if x.2.iso.isSome then .inl .claimed else .inr x

/-- The checks of R113 on the named targets, in order: an id above 6143, an ABSENT slot, a link that is no PIPE. -/
def Ev.targetFault (e : Ev) (ts : List Nat) : Option Status :=
  if ts.any fun t => Config.maxLink < t then some .badValue
  else if ts.any fun t => (e.link? t).isNone then some .notFound
  else if ts.any fun t => (e.link? t).any fun l => l.kind ≠ .pipe then some .badValue
  else none

/-- An accepted ISOLATE (R114); `incident` is the register's slot and record. -/
def Ev.newIsolation (e : Ev) (origin : Nat) (targets : List Nat) (hold : Bool) (incident : Option (Nat × Incident))
    (slot : Nat) : Ev × Reply :=
  let serial := e.p.ctl.serial
  let i : Isolation :=
    { serial := serial, requester := origin, incident := incident.map (·.2.id), targets := targets, hold := hold
      requestTime := e.now }
  let e : Ev := { e with p.ctl.isos := tset e.p.ctl.isos slot i, p.ctl.serial := (serial + 1) % 65536 }
  let e := match incident with
    | some (k, _) => e.modIncident k fun x => { x with iso := some ⟨slot, serial⟩ }
    | none => e
  let e := (e.askTrace slot).noteIso slot serial none .planning .requested .nothing 0
  (e, ⟨if hold then .held else .ok, be 1 slot ++ be 2 serial⟩)

/-- ISOLATE, its checks in R113's order from the target count on; its effect is R114. -/
def Ev.isolateNamed (e : Ev) (origin : Nat) (ts : List Nat) (hold : Bool) (named : Option (Nat × Incident)) :
    Ev × Reply :=
  match (if ts.isEmpty then named.bind fun x => x.2.pipe.map fun p => [p] else some ts) with
  | none => (e, ⟨.badValue, []⟩)
  | some targets =>
    if Config.traceFifo ≤ e.p.trace.fifo.length then (e, ⟨.full, []⟩)
    else
      match e.p.ctl.freeSlot with
      | none => (e, ⟨.full, []⟩)
      | some slot => e.newIsolation origin targets hold named slot

/-- ISOLATE (R113). -/
def Ev.isolate (e : Ev) (q : Req) : Ev × Reply :=
  if !q.rights.operate then (e, ⟨.noRight, []⟩)
  else if !isolateLengthOk q.payload then (e, ⟨.badLength, []⟩)
  else if !e.active then (e, ⟨.notActive, []⟩)
  else if 4 < field q.payload 0 1 then (e, ⟨.badValue, []⟩)
  else
    match e.targetFault (targetsOf q.payload) with
    | some c => (e, ⟨c, []⟩)
    | none =>
      match namedIncident q.payload with
      | none =>
        if (targetsOf q.payload).isEmpty then (e, ⟨.badValue, []⟩)
        else e.isolateNamed q.origin (targetsOf q.payload) (flagAt q.payload 1 0) none
      | some id =>
        match e.p.reg.asked id with
        | .inl c => (e, ⟨c, []⟩)
        | .inr x => e.isolateNamed q.origin (targetsOf q.payload) (flagAt q.payload 1 0) (some x)

/-- ISOLATE (R113, R114). -/
def execIsolate (s : State) : Result := .next (s.answerEv 0x10 wholeKind fun q e => e.isolate q)

/-- The reply of an accepted AUTHORISE or RECLOSE: the state after the event, orders issued and left to issue. -/
def orderedReply (e : Ev) (slot issued left : Nat) : Reply :=
  ⟨.ok, be 1 (((e.iso? slot).map fun i => i.state.code).getD 0) ++ be 2 issued ++ be 2 left⟩

/-- AUTHORISE of a found isolation, from the state check on (R118 to R122). -/
def Ev.authoriseNamed (e : Ev) (origin slot : Nat) (i : Isolation) : Ev × Reply :=
  if i.state ≠ .planned then (e, ⟨.wrongState, []⟩)
  else if origin = i.requester && !e.emergency i then (e, ⟨.sameOrigin, []⟩)
  else if !i.plan.any fun p => p.gen = e.p.net.generation then
    (((e.modIso slot fun i => { i with carry := some origin }).setIso slot .planning .retraced).askTrace slot,
      ⟨.retraced, []⟩)
  else
    match e.shareLimit slot i.closure with
    | some l => (e, ⟨.shareLimit, be 2 l⟩)
    | none =>
      match e.authStep slot origin .authorised with
      | (e, issued, left) => (e, orderedReply e slot issued left)

/-- AUTHORISE, its checks in R118's order. -/
def Ev.authorise (e : Ev) (q : Req) : Ev × Reply :=
  if !q.rights.authorise then (e, ⟨.noRight, []⟩)
  else if !refLengthOk q.payload then (e, ⟨.badLength, []⟩)
  else e.onNamed q.payload fun slot i => e.authoriseNamed q.origin slot i

/-- AUTHORISE (R118). -/
def execAuthorise (s : State) : Result := .next (s.answerEv 0x11 wholeKind fun q e => e.authorise q)

/-- CANCEL of a found isolation, by its state (R127). -/
def Ev.cancelNamed (e : Ev) (slot : Nat) (i : Isolation) : Ev × Reply :=
  match i.state with
  | .planning => ((e.dropTrace slot).giveUp slot .cancelled .cancel .nothing, ⟨.ok, []⟩)
  | .waiting =>
    ((e.modIso slot fun i => { i with waitingOn := none }).giveUp slot .cancelled .cancel .nothing, ⟨.ok, []⟩)
  | .planned => (e.giveUp slot .cancelled .cancel .nothing, ⟨.ok, []⟩)
  | .closing | .verifying | .effective | .restoring | .relighting | .ended | .failed | .cancelled =>
    (e, ⟨.wrongState, []⟩)

/-- CANCEL (R127). -/
def execCancel (s : State) : Result :=
  .next (s.answerEv 0x12 wholeKind (lengthFirst refLengthOk fun q e =>
    if !q.rights.operate then (e, ⟨.noRight, []⟩) else e.onNamed q.payload e.cancelNamed))

/-- ACCEPT of a found isolation (R130). -/
def Ev.acceptNamed (e : Ev) (slot : Nat) (i : Isolation) : Ev × Reply :=
  if i.state = .verifying && i.result = .passingSuspected then (e.enterEffective slot .accepted, ⟨.ok, []⟩)
  else (e, ⟨.wrongState, []⟩)

/-- ACCEPT (R130). -/
def execAccept (s : State) : Result :=
  .next (s.answerEv 0x13 wholeKind (lengthFirst refLengthOk fun q e =>
    if !q.rights.authorise then (e, ⟨.noRight, []⟩) else e.onNamed q.payload e.acceptNamed))

/-- ISOLATION_RELEASE of a found isolation (R134). -/
def Ev.releaseNamed (e : Ev) (slot : Nat) (i : Isolation) : Ev × Reply :=
  if i.state.terminal then ({ e with p.ctl.isos := terase e.p.ctl.isos slot }, ⟨.ok, []⟩) else (e, ⟨.wrongState, []⟩)

/-- ISOLATION_RELEASE (R134). -/
def execIsolationRelease (s : State) : Result :=
  .next (s.answerEv 0x14 wholeKind (lengthFirst refLengthOk fun q e =>
    if !q.rights.operate then (e, ⟨.noRight, []⟩) else e.onNamed q.payload e.releaseNamed))

/-! ## ISOLATION_READ (R135): slot, serial, part (1), start position (2) -/

/-- The entries of a part as they go on the line; none for an unknown part (R135). -/
def Isolation.part (i : Isolation) : Nat → Option (List (List Byte))
  | 0 => some (i.targets.map (be 2))
  | 1 => some (i.section?.map (be 2))
  | 2 => some (i.nodes.map (be 2))
  | 3 => some (((i.plan.map (·.closure)).getD []).map fun m => be 2 m.link ++ beFlag m.order)
  | 4 => some (((i.plan.map (·.passed)).getD []).map (be 2))
  | 5 => some (i.cutoff.map (be 2))
  | 6 => some (i.holds.map (be 2))
  | 7 => some (i.toIssue.map fun x => be 2 x.link ++ be 1 x.action.code)
  | _ => none

/-- As many entries as fit in a number of bytes. -/
def fitting : Nat → List (List Byte) → List (List Byte)
  | _, [] => []
  | room, x :: xs => if x.length ≤ room then x :: fitting (room - x.length) xs else []

/-- ISOLATION_READ of a found isolation: the part's length and its entries from the start position on (R135). -/
def readPart (i : Isolation) (p : List Byte) : Reply :=
  match i.part (field p 3 1) with
  | none => ⟨.badValue, []⟩
  | some xs => ⟨.ok, be 2 xs.length ++ (fitting (Config.maxPayload - 3) (xs.drop (field p 4 2))).flatten⟩

/-- ISOLATION_READ (R135). -/
def execIsolationRead (s : State) : Result :=
  .next (s.answerEv 0x15 wholeKind (lengthFirst (fun p => p.length = 6) fun q e =>
    e.onNamed q.payload fun _ i => (e, readPart i q.payload)))

/-- VERIFY_TIMER_EXPIRY: taken when part time has reached the expiry (R129, R212). -/
def execVerifyTimerExpiry (slot : Nat) (s : State) : Result :=
  .next (if s.link.clockEnded then s else s.event fun e => e.verifyExpiry slot)

end Sys2Proof.Machine
end

