-- ==== Sys2Proof/Machine/Restoration.lean ====
section
/-! DEFINITION. Restoration and relight (07_restoration_and_relight.md): the ramp, its completion, the ending of an
isolation, and the requests RESTORE, RAMP_RESUME, RECLOSE, RELIGHT_REPORT and CLOSE_OUT. -/

namespace Sys2Proof.Machine

/-! ## The end of an isolation (R171, R173) -/

/-- An isolation ends, its seven steps as one event (R173). -/
def Ev.endOf (e : Ev) (slot : Nat) (cause : IsoCause) : Ev :=
  match e.iso? slot with
  | none => e
  | some i =>
    let e := e.modIso slot fun i => { i with ramp := i.ramp.map fun r => { r with startTimer := none } }
    let e := (e.withdrawOpens ⟨slot, i.serial⟩).modIso slot fun i => { i with toIssue := [] }
    let e := (e.releaseClaims slot fun _ => true).bump.askRecompute
    (e.closeRecordOf i.outage).endIso slot .ended cause .nothing 0

/-- No pipe the isolation's record owns has pending above zero (R171). -/
def Ev.allRelit (e : Ev) (i : Isolation) : Bool :=
  e.p.net.pipes.all fun x => x.2.owner.isNone || x.2.owner ≠ i.outage || x.2.pending.isZero

/-- The ending check of an isolation in RELIGHTING (R171). -/
def Ev.endingCheck (e : Ev) (slot : Nat) : Ev :=
  match e.iso? slot with
  | none => e
  | some i => if i.state = .relighting && e.allRelit i then e.endOf slot .relit else e

/-! ## The ramp (R160 to R168) -/

/-- The ramp has reached its target (R168). -/
def Ev.rampMet (e : Ev) (slot : Nat) (i : Isolation) (r : Ramp) : Bool :=
  match e.liveStations i with
  | [] =>
    !e.awaitsOpening ⟨slot, i.serial⟩ && r.openGen ≤ e.p.trace.applied
      && i.section?.all fun k => (e.pipe? k).any (·.fed)
  | live => live.all fun x => r.target - r.band ≤ x.2.rt.value

/-- The completion check, made only while the clock has started; a check that holds brings RELIGHTING and the ending
check (R168). -/
def Ev.completionCheck (e : Ev) (slot : Nat) : Ev :=
  match e.iso? slot with
  | none => e
  | some i =>
    match i.ramp with
    | none => e
    | some r =>
      if i.state = .restoring && r.t0.isSome && e.rampMet slot i r then
        let e := e.modIso slot fun i => { i with ramp := some { r with complete := true, startTimer := none } }
        ((e.setIso slot .relighting .rampDone).askRecompute).endingCheck slot
      else e

/-- Ramp stations from the non-stale section stations: each with its present value and no lag (R161, R166). -/
def Ev.rampStations (e : Ev) (i : Isolation) : List RampStation :=
  (e.liveStations i).map fun x => ⟨x.1, x.2.rt.value, 0⟩

/-- The ramp clock starts at the present part time (R161). -/
def Ev.clockStart (e : Ev) (slot : Nat) : Ev :=
  match e.iso? slot with
  | none => e
  | some i =>
    e.modIso slot fun j => { j with ramp := j.ramp.map fun r =>
      { r with t0 := some e.now, startTimer := none, openGen := e.p.net.generation, stations := e.rampStations i } }

/-- An opening handed to a restoring isolation: the first starts the clock, a later one sets the open generation and
makes the completion check (R161, R168). -/
def Ev.opening (e : Ev) (slot : Nat) : Ev :=
  match (e.iso? slot).bind (·.ramp) with
  | none => e
  | some r =>
    if r.t0.isNone then e.clockStart slot
    else
      (e.modIso slot fun i => { i with ramp := some { r with openGen := e.p.net.generation } }).completionCheck slot

/-- The lag judgement of one sample of a station with a ramp entry (R163): the ramp after it, and the expected value
when the sample stalls the ramp. -/
def Ramp.judge (r : Ramp) (t0 station : Nat) (s : Int) (t : Nat) : Ramp × Option Int :=
  match r.stations.find? fun x => x.station = station with
  | none => (r, none)
  | some x =>
    let e := r.expected x.start (r.steps t0 t)
    let lags := if s < e - r.band then x.lags + 1 else 0
    ({ r with stations := r.stations.map fun y => if y.station = station then { y with lags := lags } else y },
      if lags = 3 then some e else none)

/-- An accepted sample handed to a restoring isolation (R163, R164): judged when the clock runs and nothing has stalled,
then the completion check. -/
def Ev.rampSample (e : Ev) (slot station : Nat) (s : Int) (t : Nat) : Ev :=
  match (e.iso? slot).bind (·.ramp) with
  | none => e
  | some r =>
    match r.t0 with
    | none => e
    | some t0 =>
      if r.stall.isSome || t < t0 then e.completionCheck slot
      else
        match r.judge t0 station s t with
        | (r', stalls) =>
          let e := e.modIso slot fun i => { i with ramp := some r' }
          let e := match stalls with
            | none => e
            | some x => e.stall slot .lag (some station) (some (r.steps t0 t)) (x, s)
          e.completionCheck slot

/-- A ramp station leaves the non-stale state: its entry goes, and the completion check is made (R161, R168). -/
def Ev.rampLeft (e : Ev) (slot station : Nat) : Ev :=
  (e.modIso slot fun i => { i with ramp := i.ramp.map fun r =>
    { r with stations := r.stations.filter fun x => x.station ≠ station } }).completionCheck slot

/-- The ramp start timer expires: a stall with cause NO_OPENING (R162). -/
def Ev.rampStartExpiry (e : Ev) (slot : Nat) : Ev :=
  match e.iso? slot with
  | none => e
  | some i =>
    if i.state = .restoring && (i.ramp.bind (·.startTimer)).any (· ≤ e.now) then e.stall slot .noOpening none none (0, 0)
    else e

/-- RAMP_START_TIMER_EXPIRY: taken when part time has reached the expiry (R162, R212). -/
def execRampStartTimerExpiry (slot : Nat) (s : State) : Result :=
  .next (if s.link.clockEnded then s else s.event fun e => e.rampStartExpiry slot)

/-! ## RESTORE (R156 to R159) -/

/-- The lowest tagged section pipe: a WORK_IN_PROGRESS tag stands on it (R156). -/
def Ev.workInSection (e : Ev) (i : Isolation) : Option Nat :=
  (tkeysWhere e.p.net.pipes fun k _ => i.section?.contains k && e.tagged k .workInProgress).head?

/-- The first member, when there is one and every member has another holder (R156). -/
def Ev.heldByOthers (e : Ev) (slot : Nat) (i : Isolation) : Option Nat :=
  if i.closure.all fun l => (e.holders l).any (· ≠ slot) then i.closure.head? else none

/-- The ramp tier: the tier of the first target pipe (R157). -/
def Ev.rampTier (e : Ev) (i : Isolation) : Tier := (((i.targets.head?).bind e.link?).map (·.tier)).getD .lp

/-- A member gets an OPEN order (R159). -/
def Ev.orderable (e : Ev) (l : Nat) : Bool :=
  (e.holders l).isEmpty && e.isClosed l && e.workable l && (e.orderOf? l).isNone

/-- A member stays CLOSED without an order: held by another isolation, or not workable (R159). -/
def Ev.leftClosed (e : Ev) (l : Nat) : Bool := e.isClosed l && (!(e.holders l).isEmpty || !e.workable l)

/-- What the restoration step comes to: orders issued and left to issue, members left closed, and the clock (R159). -/
structure Restored where
  issued : Nat
  toIssue : Nat
  leftClosed : Nat
  clock : Bool
  deriving DecidableEq, Repr

/-- The restoration step, its seven steps as one event (R158). -/
def Ev.restoreStep (e : Ev) (slot : Nat) (i : Isolation) (r : Ramp) : Ev × Restored :=
  let e := e.modIso slot fun i => { i with toIssue := i.toIssue.filter fun x => x.action ≠ .close }
  let e := ((e.releaseHolds slot i.holds).withdrawCloses ⟨slot, i.serial⟩ i.holds).bump
  let e := (e.modIso slot fun i => { i with ramp := some r }).setIso slot .restoring .restore
  let e := e.askRecompute
  let left := (i.closure.filter e.leftClosed).length
  match Ev.issueAll slot .reopen (i.closure.filter e.orderable) e with
  | (e, issued, toIssue) =>
    if i.closure.any e.isOpen then (e.clockStart slot, ⟨issued, toIssue, left, true⟩)
    else
      (e.modIso slot fun j => { j with ramp := some { r with startTimer := some (e.now + e.p.ctl.verifyTime) } },
        ⟨issued, toIssue, left, false⟩)

/-- RESTORE of a found isolation, from the state check on (R156). -/
def Ev.restoreNamed (e : Ev) (p : List Byte) (slot : Nat) (i : Isolation) : Ev × Reply :=
  if !i.state.shuts then (e, ⟨.wrongState, []⟩)
  else if !(rampParams p).inRange then (e, ⟨.badValue, []⟩)
  else
    match e.workInSection i with
    | some k => (e, ⟨.tagged, be 2 k⟩)
    | none =>
      match e.heldByOthers slot i with
      | some l => (e, ⟨.heldByOther, be 2 l⟩)
      | none =>
        match e.restoreStep slot i ((rampParams p).resolve (e.rampTier i) e.p.ctl.target) with
        | (e, r) => (e, ⟨.ok, be 2 r.issued ++ be 2 r.toIssue ++ be 2 r.leftClosed ++ beFlag r.clock⟩)

/-- RESTORE, its checks in R156's order. DESIGN CHOICE [57]: the payload is 15 bytes whichever parameters are present. -/
def Ev.restore (e : Ev) (q : Req) : Ev × Reply :=
  if !q.rights.operate then (e, ⟨.noRight, []⟩)
  else if q.payload.length ≠ 15 then (e, ⟨.badLength, []⟩)
  else e.onNamed q.payload (e.restoreNamed q.payload)

/-- RESTORE (R156). -/
def execRestore (s : State) : Result := .next (s.answerEv 0x17 wholeKind fun q e => e.restore q)

/-! ## RAMP_RESUME and RECLOSE (R166, R167) -/

/-- RAMP_RESUME of a found isolation (R166). -/
def Ev.resumeNamed (e : Ev) (slot : Nat) (i : Isolation) : Ev × Reply :=
  match i.ramp with
  | none => (e, ⟨.wrongState, []⟩)
  | some r =>
    if i.state ≠ .restoring || r.stall.isNone then (e, ⟨.wrongState, []⟩)
    else
      let r := { r with stall := none, frozen := none }
      if r.t0.isSome then
        ((e.modIso slot fun j => { j with ramp := some { r with t0 := some e.now, stations := e.rampStations i } }).completionCheck
          slot, ⟨.ok, be 4 e.now⟩)
      else
        let t := e.now + e.p.ctl.verifyTime
        ((e.modIso slot fun j => { j with ramp := some { r with startTimer := some t } }).completionCheck slot,
          ⟨.ok, be 4 t⟩)

/-- RAMP_RESUME (R166). -/
def execRampResume (s : State) : Result :=
  .next (s.answerEv 0x18 wholeKind (lengthFirst refLengthOk fun q e =>
    if !q.rights.operate then (e, ⟨.noRight, []⟩) else e.onNamed q.payload e.resumeNamed))

/-- The effect of a taken RECLOSE, its seven steps as one event (R167); orders issued and left to issue. -/
def Ev.recloseStep (e : Ev) (slot : Nat) (i : Isolation) : Ev × Nat × Nat :=
  let e := e.modIso slot fun i => { i with ramp := none, toIssue := i.toIssue.filter fun x => x.action ≠ .reopen }
  let e := (e.takeHolds slot i.closure).bump
  let e := (e.modIso slot fun i => { i with result := .none }).setIso slot .closing .reclose
  let e := e.askRecompute
  match i.closure.find? fun l => e.isOpen l && !e.workable l with
  | some l => (e.failMembers [slot] l, 0, 0)
  | none =>
    match Ev.issueAll slot .close (e.needingClose i) e with
    | (e, issued, left) => (e.closingCheck slot, issued, left)

/-- RECLOSE of a found isolation (R167). -/
def Ev.recloseNamed (e : Ev) (slot : Nat) (i : Isolation) : Ev × Reply :=
  if i.state ≠ .restoring then (e, ⟨.wrongState, []⟩)
  else
    match e.shareLimit slot i.closure with
    | some l => (e, ⟨.shareLimit, be 2 l⟩)
    | none =>
      match e.recloseStep slot i with
      | (e, issued, left) => (e, orderedReply e slot issued left)

/-- RECLOSE (R167). -/
def execReclose (s : State) : Result :=
  .next (s.answerEv 0x19 wholeKind (lengthFirst refLengthOk fun q e =>
    if !q.rights.operate then (e, ⟨.noRight, []⟩) else e.onNamed q.payload e.recloseNamed))

/-! ## RELIGHT_REPORT and CLOSE_OUT (R169 to R172) -/

/-- The pipe has gas its customers can be relit with (R169). -/
def Ev.relightable (e : Ev) (p : PipeRt) : Bool :=
  match p.supply with
  | .live => true
  | .recharging => (p.claim.bind e.iso?).any fun i => i.state = .relighting
  | .dead | .isolated => false

/-- The isolation a record belongs to makes the ending check, when it is in RELIGHTING (R170). -/
def Ev.recordEnding (e : Ev) (owner : Nat) : Ev :=
  match (e.record? owner).bind (·.iso) with
  | none => e
  | some r => if (e.named? r).isSome then e.endingCheck r.slot else e

/-- A taken RELIGHT_REPORT (R170). -/
def Ev.takeRelight (e : Ev) (pipe owner : Nat) (p : PipeRt) (k : Counts) : Ev × Reply :=
  let accepted := k.least p.pending
  let e := e.relight pipe owner accepted
  let e := if accepted.isZero then e else e.recordEnding owner
  (e, ⟨if accepted = k then .ok else .partially,
    be 2 pipe ++ beCounts 2 accepted ++ beCounts 2 (p.pending.sub accepted) ++ be 2 owner⟩)

/-- The three counts a RELIGHT_REPORT carries (R169). -/
def relightCounts (p : List Byte) : Counts := ⟨field p 2 2, field p 4 2, field p 6 2⟩

/-- RELIGHT_REPORT of a pipe, from the owner check on (R169). -/
def Ev.relightPipe (e : Ev) (pipe : Nat) (k : Counts) : Ev × Reply :=
  match e.pipe? pipe with
  | none => (e, ⟨.badValue, []⟩)
  | some p =>
    match p.owner with
    | none => (e, ⟨.wrongState, be 1 p.supply.code ++ beOpt 2 none⟩)
    | some owner =>
      if e.relightable p then e.takeRelight pipe owner p k
      else (e, ⟨.wrongState, be 1 p.supply.code ++ be 2 owner⟩)

/-- RELIGHT_REPORT, its checks in R169's order. -/
def Ev.relightReport (e : Ev) (q : Req) : Ev × Reply :=
  let pipe := field q.payload 0 2
  let k := relightCounts q.payload
  if !q.rights.operate then (e, ⟨.noRight, []⟩)
  else if q.payload.length ≠ 8 then (e, ⟨.badLength, []⟩)
  else if !e.active then (e, ⟨.notActive, []⟩)
  else if Config.maxLink < pipe || Config.maxService < k.p || Config.maxService < k.c || Config.maxService < k.d
  then (e, ⟨.badValue, []⟩)
  else
    match e.link? pipe with
    | none => (e, ⟨.notFound, []⟩)
    | some l => if l.kind ≠ .pipe then (e, ⟨.badValue, []⟩) else e.relightPipe pipe k

/-- RELIGHT_REPORT (R169). -/
def execRelightReport (s : State) : Result := .next (s.answerEv 0x1A wholeKind fun q e => e.relightReport q)

/-- CLOSE_OUT is taken in RELIGHTING, and in RESTORING with the ramp stalled (R172). -/
def Isolation.closable (i : Isolation) : Bool :=
  i.state = .relighting || (i.state = .restoring && i.ramp.any fun r => r.stall.isSome)

/-- CLOSE_OUT of a found isolation (R172). -/
def Ev.closeOutNamed (e : Ev) (slot : Nat) (i : Isolation) : Ev × Reply :=
  if !i.closable then (e, ⟨.wrongState, []⟩)
  else
    match (match i.outage with | some k => e.writeOff k | none => (e, {}, 0)) with
    | (e, off, n) => (e.endOf slot .closedOut, ⟨.ok, beCounts 4 off ++ be 2 n⟩)

/-- CLOSE_OUT (R172). -/
def execCloseOut (s : State) : Result :=
  .next (s.answerEv 0x1B wholeKind (lengthFirst refLengthOk fun q e =>
    if !q.rights.authorise then (e, ⟨.noRight, []⟩) else e.onNamed q.payload e.closeOutNamed))

end Sys2Proof.Machine
end

