-- ==== Sys2Proof/Machine/Reports.lean ====
section
/-! DEFINITION. Crew reports (06_valve_orders.md, 6.5; R132 of 05_isolations.md): the reported position change and the
four forms of VALVE_REPORT. -/

namespace Sys2Proof.Machine

/-! ## The reported position change (R132, R148) -/

/-- A holder of a member found OPEN: VERIFYING and EFFECTIVE return to CLOSING (R132). -/
def Ev.holderOpened (e : Ev) (slot link : Nat) : Ev :=
  match e.iso? slot with
  | none => e
  | some i =>
    if i.state = .verifying || i.state = .effective then
      ((e.modIso slot fun i => { i with result := .none }).setIso slot .closing .memberOpen (.link link)).askRecompute
    else e

/-- A held member stands OPEN: its holders are settled, then a CLOSE order is issued for the lowest holder in CLOSING, or
each of them is sent back to planning (R132). -/
def Ev.memberOpen (e : Ev) (link : Nat) : Ev :=
  let e := e.each (e.slotsWhere fun _ i => i.holds.contains link) fun k e => e.holderOpened k link
  match e.closingHolders link with
  | [] => e
  | h :: hs =>
    if e.workable link then (if (e.orderOf? link).isSome then e else (e.issue h link .close).1)
    else e.failMembers (h :: hs) link

/-- The position an order's action gives. -/
def OrderAction.gives : OrderAction → Position
  | .close => .closed
  | .reopen => .opened

/-- The outstanding order whose action gives the new position is withdrawn with cause POSITION_MET (R148, step 2). -/
def Ev.positionMet (e : Ev) (link : Nat) (pos : Position) : Ev :=
  match e.orderOf? link with
  | some (id, o) => if o.action.gives = pos then e.finishOrder id .withdrawn .positionMet else e
  | none => e

/-- The isolations in RESTORING whose closure set lists a link, ascending (R148, step 5). -/
def Ev.restorers (e : Ev) (link : Nat) : List Nat := e.slotsWhere fun _ i => i.state = .restoring && i.closure.contains link

/-- A reported position change, its five steps as one event (R148); nothing where the slot holds no valve or regulator,
or the position is the one it has (R149). -/
def Ev.reportedPosition (e : Ev) (link : Nat) (pos : Position) : Ev :=
  match e.control? link with
  | none => e
  | some c =>
    if c.position = pos then e
    else
      let e := ((e.modControl link fun c => { c with position := pos }).bump.askRecompute).positionMet link pos
      match pos with
      | .closed => e.each (e.closingHolders link) fun k e => e.closingCheck k
      | .opened =>
        if (e.holders link).isEmpty then e.each (e.restorers link) fun k e => e.opening k else e.memberOpen link

/-- A crew's finding that a link will not turn: STUCK, one bump, and the link is unworkable (R150, R151). -/
def Ev.stuck (e : Ev) (link : Nat) (cause : FinishCause) : Ev :=
  ((e.modLink link Link.stick).bump).unworkable link cause

/-! ## VALVE_REPORT (R146 to R152) -/

/-- What every form is tested for first (R146). -/
def Ev.valveReport (e : Ev) (q : Req) (taken : Ev × Reply) : Ev × Reply :=
  if !q.rights.operate then (e, ⟨.noRight, []⟩)
  else
    match q.payload[0]? with
    | none => (e, ⟨.badLength, []⟩)
    | some form =>
      if 3 < form.toNat then (e, ⟨.badValue, []⟩)
      else if !reportLengthOk q.payload then (e, ⟨.badLength, []⟩)
      else if !e.active then (e, ⟨.notActive, []⟩)
      else taken

/-- A form that names an order (R146). -/
def Ev.orderReport (e : Ev) (q : Req) (act : Nat → Order → Ev × Reply) : Ev × Reply :=
  e.valveReport q
    (match e.order? (field q.payload 1 2) with
    | none => (e, ⟨.notFound, []⟩)
    | some o => act (field q.payload 1 2) o)

/-- The reply to a report that is taken or late (R146). -/
def orderReply (e : Ev) (c : Status) (id : Nat) (st : OrderState) (link : Nat) : Reply :=
  ⟨c, be 2 id ++ be 1 st.code ++ be 2 link ++ beOpt 1 ((e.control? link).map (·.position.code))
    ++ beOpt 1 (((e.link? link).bind Link.operability?).map Operability.code) ++ be 4 e.p.net.generation⟩

/-- VALVE_REPORT ACCEPT, by the order's state (R146, R147); a LATE reply also shows the finish cause. -/
def Ev.reportAccept (e : Ev) (id : Nat) (o : Order) : Ev × Reply :=
  match o.state with
  | .issued =>
    let e := e.modOrder id fun o => { o with state := .accepted, acceptTime := some e.now }
    (e, orderReply e .ok id .accepted o.link)
  | .withdrawn =>
    (e, { orderReply e .late id .withdrawn o.link with
      body := (orderReply e .late id .withdrawn o.link).body ++ beOpt 1 (o.cause.map FinishCause.code) })
  | .accepted | .done | .failed => (e, ⟨.wrongState, []⟩)

/-- VALVE_REPORT OPERATED, by the order's state (R146, R149). -/
def Ev.reportOperated (e : Ev) (id : Nat) (o : Order) : Ev × Reply :=
  match o.state with
  | .issued | .accepted =>
    let e := e.modOrder id fun o => { o with acceptTime := some (o.acceptTime.getD e.now) }
    let e := (e.finishOrder id .done .operated).reportedPosition o.link o.action.gives
    (e, orderReply e .ok id .done o.link)
  | .failed | .withdrawn =>
    let e := e.reportedPosition o.link o.action.gives
    (e, orderReply e .late id o.state o.link)
  | .done => (e, ⟨.wrongState, []⟩)

/-- VALVE_REPORT CANNOT_OPERATE, by the order's state (R146, R151). -/
def Ev.reportCannotOperate (e : Ev) (id : Nat) (o : Order) : Ev × Reply :=
  match o.state with
  | .issued | .accepted =>
    let e := e.stuck o.link .cannotOperate
    (e, orderReply e .ok id .failed o.link)
  | .withdrawn =>
    let e :=
      match (e.link? o.link).bind Link.operability? with
      | some op => if op = .stuck then e else e.stuck o.link .stuck
      | none => e
    (e, orderReply e .late id .withdrawn o.link)
  | .failed | .done => (e, ⟨.wrongState, []⟩)

/-- VALVE_REPORT FOUND (R146, R152). -/
def Ev.reportFound (e : Ev) (p : List Byte) : Ev × Reply :=
  let link := field p 1 2
  match coded positionOf p 3 with
  | none => (e, ⟨.badValue, []⟩)
  | some pos =>
    if Config.maxLink < link then (e, ⟨.badValue, []⟩)
    else
      match e.link? link with
      | none => (e, ⟨.notFound, []⟩)
      | some l =>
        if l.kind = .pipe then (e, ⟨.badValue, []⟩)
        else
          let e := e.reportedPosition link pos
          (e, ⟨.ok, beOpt 1 ((e.control? link).map (·.position.code))⟩)

/-- The rows of VALVE_REPORT, by the form byte. -/
def reportRow (form : Nat) (p : List Byte) : Bool := selects form [0, 1, 2, 3] p 0

/-- VALVE_REPORT ACCEPT (R147). -/
def execValveReportAccept (s : State) : Result :=
  .next (s.answerEv 0x16 (reportRow 0) fun q e => e.orderReport q e.reportAccept)

/-- VALVE_REPORT OPERATED (R149). -/
def execValveReportOperated (s : State) : Result :=
  .next (s.answerEv 0x16 (reportRow 1) fun q e => e.orderReport q e.reportOperated)

/-- VALVE_REPORT CANNOT_OPERATE (R151). -/
def execValveReportCannotOperate (s : State) : Result :=
  .next (s.answerEv 0x16 (reportRow 2) fun q e => e.orderReport q e.reportCannotOperate)

/-- VALVE_REPORT FOUND (R152). -/
def execValveReportFound (s : State) : Result :=
  .next (s.answerEv 0x16 (reportRow 3) fun q e => e.valveReport q (e.reportFound q.payload))

/-- ORDER_OVERDUE: taken when part time has reached the expiry (R145, R212). -/
def execOrderOverdue (order : Nat) (s : State) : Result :=
  .next (if s.link.clockEnded then s else s.event fun e => e.orderOverdue order)

end Sys2Proof.Machine
end

