-- ==== Sys2Proof/Machine/Trace.lean ====
section
/-! DEFINITION. The Trace Engine's two jobs (02_trace_engine.md): the walk of stage A, the flood of stage B and of a
supply recompute, the counts of stage C, and the two completions. -/

namespace Sys2Proof.Machine

/-! ## Floods (R38, R43) -/

/-- Where the flood goes over an edge from a node: a pipe and an open valve both ways, an open regulator from inlet to
outlet (R38). -/
def Edge.far (x : Edge) (n : Nat) : Option Nat :=
  match x.kind with
  | .pipe => if x.endA = n then some x.endB else if x.endB = n then some x.endA else none
  | .valve =>
    if !x.isOpen then none else if x.endA = n then some x.endB else if x.endB = n then some x.endA else none
  | .regulator => if x.isOpen && x.endA = n then some x.endB else none

/-- Nodes of a list that are not in another, each once. -/
def fresh (reached : List Nat) (ns : List Nat) : List Nat := (ns.filter fun n => !reached.contains n).dedup

/-- The nodes reached, where `next` gives the nodes one step from a node: `todo` have been reached and not yet left. Each
node is left once, so `fuel` above the number of nodes is enough. -/
def flood (next : Nat → List Nat) : Nat → List Nat → List Nat → List Nat
  | 0, _, reached => reached
  | _ + 1, [], reached => reached
  | fuel + 1, n :: todo, reached =>
    let new := fresh reached (next n)
    flood next fuel (todo ++ new) (reached ++ new)

/-- Where the flood goes from a node (R38). -/
def FloodView.next (v : FloodView) (n : Nat) : List Nat := v.edges.filterMap fun x => x.far n

/-- The nodes a flood reaches from the feeding sources (R38, R43). -/
def FloodView.reached (v : FloodView) : List Nat :=
  flood v.next (v.sources.length + 2 * v.edges.length + 1) v.sources.dedup v.sources.dedup

/-! ## Stage A (R32 to R36) -/

/-- The working sets of stage A: the section, the nodes queued so far, the closure set and the passed list, each in
order of joining. -/
structure Walk where
  pipes : List Nat := []
  nodes : List Nat := []
  closure : List Member := []
  passed : List Nat := []
  deriving DecidableEq, Repr

/-- What stage A reads: the blocks, whose trace it is, and the limit its run read. -/
structure WalkEnv where
  e : Ev
  slot : Nat
  limit : Nat

/-- A walk goes on, or stops early with an outcome (R36). -/
abbrev Walked := Except Outcome Walk

/-- Queue a node, unless it has been queued; a source node stops the walk (R33, R36). -/
def Walk.queueNode (w : Walk) (v : WalkEnv) (n : Nat) : Walked :=
  if w.nodes.contains n then .ok w
  else if (tget v.e.p.net.nodes n).any (·.source) then .error (.failure .sourceInSection)
  else .ok { w with nodes := w.nodes ++ [n] }

/-- The section and the passed list are within the trace limit (R36). -/
def Walk.sized (w : Walk) (v : WalkEnv) : Walked :=
  if v.limit < w.pipes.length + w.passed.length then .error (.failure .tooLarge) else .ok w

/-- The isolation other than this one that claims a pipe (R33). -/
def WalkEnv.claimer? (v : WalkEnv) (pipe : Nat) : Option IsoRef :=
  match (v.e.pipe? pipe).bind (·.claim) with
  | some k => if k = v.slot then none else some ⟨k, ((v.e.iso? k).map (·.serial)).getD 0⟩
  | none => none

/-- A pipe joins the section, unless it is there; a pipe claimed by another isolation stops the walk (R32, R33). -/
def Walk.joinPipe (w : Walk) (v : WalkEnv) (pipe : Nat) : Walked :=
  match v.claimer? pipe with
  | some r => .error (.conflict r)
  | none => if w.pipes.contains pipe then .ok w else Walk.sized { w with pipes := w.pipes ++ [pipe] } v

/-- A link joins the closure set, which holds at most 48 (R34, R36). -/
def Walk.close (w : Walk) (link : Nat) (order : Bool) : Walked :=
  if Config.closureMembers ≤ w.closure.length then .error (.failure .tooManyValves)
  else .ok { w with closure := w.closure ++ [⟨link, order⟩] }

/-- A valve, or a regulator reached at its outlet, is classified by position, operability and tags (R34, R35). -/
def Walk.classify (w : Walk) (v : WalkEnv) (link far : Nat) : Walked :=
  if w.passed.contains link || w.closure.any fun m => m.link = link then .ok w
  else if v.e.isClosed link then w.close link false
  else if v.e.workable link then w.close link true
  else do (← Walk.sized { w with passed := w.passed ++ [link] } v).queueNode v far

/-- One link taken at a node (R33 to R35). -/
def Walk.take (w : Walk) (v : WalkEnv) (n id : Nat) (l : Link) : Walked :=
  let far := if l.endA = n then l.endB else l.endA
  match l.kind with
  | .pipe => if w.pipes.contains id then .ok w else do (← w.joinPipe v id).queueNode v far
  | .valve => w.classify v id far
  | .regulator => if l.endB = n then w.classify v id far else .ok w

/-- Every link with an end at a node, in ascending link id (R33). -/
def Walk.takeAll (v : WalkEnv) (n : Nat) : List (Nat × Link) → Walk → Walked
  | [], w => .ok w
  | (id, l) :: ls, w =>
    if l.endA = n || l.endB = n then do Walk.takeAll v n ls (← w.take v n id l) else Walk.takeAll v n ls w

/-- Nodes are visited in the order they were queued (R33). `at_` is how many have been visited; a node is an end of a
link and is queued once, so `fuel` above twice the number of links is enough. -/
def Walk.run (v : WalkEnv) : Nat → Nat → Walk → Walked
  | 0, _, w => .ok w
  | fuel + 1, at_, w =>
    match w.nodes[at_]? with
    | none => .ok w
    | some n => do Walk.run v fuel (at_ + 1) (← Walk.takeAll v n v.e.p.net.links w)

/-- The targets are checked and join in their order (R32). DEDUCED [19]: a target is checked for its kind, then for its
claim, then joins, with the size test its joining brings, before the next target is looked at. -/
def Walk.targets (v : WalkEnv) : List Nat → Walk → Walked
  | [], w => .ok w
  | t :: ts, w =>
    if (v.e.link? t).any fun l => l.kind = .pipe then do Walk.targets v ts (← w.joinPipe v t)
    else .error (.failure .targetNotPipe)

/-- The start nodes: for each target its end A and then its end B (R32). -/
def Walk.starts (v : WalkEnv) : List Nat → Walk → Walked
  | [], w => .ok w
  | t :: ts, w =>
    match v.e.link? t with
    | none => Walk.starts v ts w
    | some l => do Walk.starts v ts (← (← w.queueNode v l.endA).queueNode v l.endB)

/-- Stage A (R32 to R36). -/
def WalkEnv.stageA (v : WalkEnv) (targets : List Nat) : Walked := do
  let w ← Walk.starts v targets (← Walk.targets v targets {})
  Walk.run v (2 * v.e.p.net.links.length + 1) 0 w

/-! ## Stages B and C (R38, R39) -/

/-- What stage B floods: the section removed, the closure set closed (R38). -/
def FloodView.without (f : FloodView) (w : Walk) : FloodView :=
  { f with edges := (f.edges.filter fun x => !w.pipes.contains x.id).map fun x =>
      { x with isOpen := x.isOpen && !w.closure.any fun m => m.link = x.id } }

/-- The cut-off set, ascending (R38). -/
def Ev.cutoffSet (e : Ev) (w : Walk) : List Nat :=
  let reached := (e.p.net.floodView.without w).reached
  tkeysWhere e.p.net.pipes fun k p =>
    !w.pipes.contains k && (p.supply = .live || p.supply = .recharging)
      && (e.link? k).any fun l => !reached.contains l.endA && !reached.contains l.endB

/-- The summed service counts of some pipes (R39). -/
def Ev.serviceSum (e : Ev) (pipes : List Nat) : Counts :=
  sumCounts (pipes.map fun k => ((e.link? k).map Link.service).getD {})

/-- The outcome of one run of an isolation trace under a start generation (R32 to R42). -/
def Ev.traceOutcome (e : Ev) (slot limit gen : Nat) (targets : List Nat) : Outcome :=
  match (⟨e, slot, limit⟩ : WalkEnv).stageA targets with
  | .error o => o
  | .ok w =>
    let cut := e.cutoffSet w
    .plan
      { gen := gen, pipes := w.pipes, nodes := w.nodes, closure := w.closure, passed := w.passed, cutoff := cut
        pipeCounts := e.serviceSum w.pipes, cutoffCounts := e.serviceSum cut }

/-- A run of an isolation trace completes (R40, R41). Its outcome is computed from the facts at completion: a change of
any fact it reads bumps the generation, so an unmoved generation means the same facts [7]. -/
def Ev.traceCompletion (e : Ev) : Ev :=
  match e.p.trace.running with
  | some (.trace r start restarts limit) =>
    if e.p.net.generation = start then
      let e : Ev := { e with p.trace.running := none }
      match e.named? r with
      | none => e
      | some i => e.takeOutcome r.slot (e.traceOutcome r.slot limit start i.targets)
    else if restarts < 2 then
      let e := e.modIso r.slot fun i => { i with restarts := restarts + 1 }
      { e with p.trace.running := some (.trace r e.p.net.generation (restarts + 1) e.p.trace.limit) }
    else Ev.takeOutcome { e with p.trace.running := none } r.slot (.failure .unstable)
  | _ => e

/-- TRACE_COMPLETION (R40). -/
def execTraceCompletion (s : State) : Result :=
  .next (match s.plant.trace.running with
    | some (.trace ..) => s.event Ev.traceCompletion
    | _ => s)

/-! ## The supply recompute (R43 to R47) -/

/-- When a running recompute was ready to read each thing, as the place of a moment among those that passed while it ran,
in their order: a free value [8]. -/
def readingMoments (draw moments : Nat) (r : Config.Reading) : Nat := Config.readMoment draw r % moments

/-- The links a flood takes at a node at one moment are those it was ready for by then. -/
def FloodView.nextBy (v : FloodView) (ready : Nat → Edge → Bool) (n : Nat) : List Nat :=
  (v.edges.filter (ready n)).filterMap fun x => x.far n

/-- The flood at moment `m`, at which it reads `v`; `reached` were reached before. It comes to the sources and, from the
nodes reached before, to the links whose moment has come, and from each node it comes to now it takes at once the
links whose moment has come or passed. So it reads a link at the link's moment, or when it reaches the link if that
is later: never before it reached the link (R43). -/
def FloodView.reachedAt (v : FloodView) (moment : Config.Reading → Nat) (m : Nat) (reached : List Nat) : List Nat :=
  let sources := v.sources.filter fun n => moment (.source n) = m
  let crossed := reached.flatMap (v.nextBy fun n x => moment (.link n x.id) = m)
  let new := fresh reached (sources ++ crossed)
  flood (v.nextBy fun n x => moment (.link n x.id) ≤ m) (new.length + 2 * v.edges.length + 1) new (reached ++ new)

/-- The flood over the moments from `m` on, in their order. -/
def reachedOver (moment : Config.Reading → Nat) : Nat → List FloodView → List Nat → List Nat
  | _, [], reached => reached
  | m, v :: vs, reached => reachedOver moment (m + 1) vs (v.reachedAt moment m reached)

/-- What a recompute came to: the nodes its flood reached, and each pipe with the ends by which it is fed. -/
structure Flooded where
  reached : List Nat
  pipes : List Edge
  deriving DecidableEq, Repr

/-- What a recompute came to, over the views of the network it could read in turn (R43). -/
def readViews (draw : Nat) : List FloodView → Flooded
  | [] => ⟨[], []⟩
  | [v] => ⟨v.reached, v.edges⟩
  | views =>
    let moment := readingMoments draw views.length
    let ids := (views.flatMap fun v => v.edges.map fun x => x.id).dedup
    ⟨reachedOver moment 0 views [], ids.filterMap fun id =>
      (views[moment (.pipe id)]?).bind fun v => v.edges.find? fun x => x.id = id⟩

/-- Supply state of a pipe at an assignment, from its fed flag and its claimer's state (R45). -/
def assignedSupply (fed : Bool) (claimer : Option IsoState) : Supply :=
  match claimer with
  | some .verifying | some .effective => .isolated
  | some .restoring | some .relighting => if fed then .recharging else .isolated
  | _ => if fed then .live else .dead

/-- One pipe at a recompute completion: fed flag, supply state, NEW mark, and loss of supply (R44, R45, R181). -/
def PipeRt.assign (p : PipeRt) (fed : Bool) (claimer : Option IsoState) (service : Counts) : PipeRt :=
  lossOfSupply p service { p with fed := fed, supply := assignedSupply fed claimer, isNew := false }

/-- A pipe is fed when either of its ends was reached (R43). -/
def Flooded.feeds (v : Flooded) (pipe : Nat) : Bool :=
  v.pipes.any fun x => x.id = pipe && (v.reached.contains x.endA || v.reached.contains x.endB)

/-- The fed flags, supply states and pending a completed recompute writes (R44, R45, R181). -/
def Ev.applyFlood (e : Ev) (v : Flooded) (newNodes newPipes : List Nat) : Ev :=
  let e : Ev := { e with p.net.nodes := e.p.net.nodes.map fun x =>
    (x.1, if newNodes.contains x.1 then x.2 else { x.2 with fed := v.reached.contains x.1 }) }
  e.mapPipes fun k p =>
    if newPipes.contains k then p
    else p.assign (v.feeds k) ((p.claim.bind e.iso?).map (·.state)) (((e.link? k).map Link.service).getD {})

/-- One SECTION_FED notice for each isolation in VERIFYING or EFFECTIVE with fed claimed pipes, in ascending slot
(R46, R195). -/
def Ev.sectionFed (e : Ev) (newPipes : List Nat) : Ev :=
  e.each (e.slotsWhere fun _ i => i.state = .verifying || i.state = .effective) fun slot e =>
    let fed := tkeysWhere e.p.net.pipes fun k p => p.claim = some slot && p.fed && !newPipes.contains k
    match fed, e.iso? slot with
    | lowest :: _, some i => e.note .sectionFed slot (be 2 i.serial ++ be 2 fed.length ++ be 2 lowest)
    | _, _ => e

/-- The checks that wait on a recompute, in ascending slot (R195). -/
def Ev.appliedChecks (e : Ev) : Ev :=
  e.each (tkeys e.p.ctl.isos) fun slot e => (e.completionCheck slot).endingCheck slot

/-- A supply recompute completes (R44 to R47, R195). -/
def Ev.recomputeCompletion (e : Ev) : Ev :=
  match e.p.trace.running with
  | some (.recompute start newNodes newPipes views) =>
    let v := readViews e.p.draws views
    let e : Ev := { e with
      p.draws := if views.length < 2 then e.p.draws else e.p.draws + 1
      p.trace.running := none
      p.trace.pendingRecompute := e.p.trace.pendingRecompute || e.p.net.generation ≠ start
      p.trace.applied := start }
    let e := (e.applyFlood v newNodes newPipes).sectionFed newPipes
    (e.attribute fun k => !newPipes.contains k).appliedChecks
  | _ => e

/-- RECOMPUTE_COMPLETION (R44). -/
def execRecomputeCompletion (s : State) : Result :=
  .next (match s.plant.trace.running with
    | some (.recompute ..) => s.event Ev.recomputeCompletion
    | _ => s)

end Sys2Proof.Machine
end

