-- ==== Sys2Proof/Machine/Stations.lean ====
section
/-! DEFINITION. The Station Monitor (03_pressure_stations.md): tier-low, suppression, the sample pipeline, staleness, what
a sample or a leaving station does to the isolations, and TELEMETRY, STATION_SET and STATION_READ. -/

namespace Sys2Proof.Machine

/-! ## Census and tier-low (R73, R74) -/

/-- The six counts of a tier, in the order of R73: five band columns, then STALE. -/
def StationMonitor.census (m : StationMonitor) (t : Tier) : List Nat :=
  let own := m.stations.filter fun x => x.2.cfg.tier = t
  let column : Band → Nat := fun b => tcount own fun s => s.rt.nonStale && s.rt.band = b
  [column .lowLow, column .low, column .normal, column .high, column .highHigh, tcount own fun s => !s.rt.nonStale]

/-- The tier's LOW count plus its LOW_LOW count (R74). -/
def StationMonitor.lowCount (m : StationMonitor) (t : Tier) : Nat :=
  tcount m.stations fun s => s.cfg.tier = t && s.rt.nonStale && (s.rt.band = .low || s.rt.band = .lowLow)

/-- A census change of a tier: its tier-low condition, notice TIER_LOW at a change, and the incident a set asks for
(R74, R77). -/
def Ev.tierCheck (e : Ev) (t : Tier) : Ev :=
  let n := e.p.mon.lowCount t
  let held := e.p.mon.tierLow.at t
  let new := tierLowOf held n e.p.mon.threshold
  if new = held then e
  else
    let e := ({ e with p.mon.tierLow := e.p.mon.tierLow.put t new } : Ev).note .tierLow t.code (beFlag new ++ be 2 n)
    if new then e.askIncident .tierLow none t else e

/-- The three tiers are evaluated, as at a census change (R74). DESIGN CHOICE [46]: LP, then MP, then IP. -/
def Ev.tierChecks (e : Ev) : Ev := ((e.tierCheck .lp).tierCheck .mp).tierCheck .ip

/-! ## Suppression (R75) -/

/-- A station is suppressed: its node was unfed in the last applied recompute, or is a section node of an isolation in
VERIFYING through RELIGHTING (R75). DESIGN CHOICE [51]: a node without a record, which a binding written in CHECKING
after item 6 of the check was read can leave, is not unfed. -/
def Ev.suppressed (e : Ev) (c : StationRec) : Bool :=
  match c.node with
  | none => false
  | some n =>
    (e.active && (tget e.p.net.nodes n).any fun x => !x.fed)
      || e.p.ctl.isos.any fun x => x.2.state.suppresses && x.2.nodes.contains n

/-! ## The tests served to isolations (R78 to R80) -/

/-- Isolations whose section nodes list a node, ascending. -/
def Ev.sectionsOf (e : Ev) (node : Option Nat) : List Nat :=
  match node with
  | none => []
  | some n => e.slotsWhere fun _ i => i.nodes.contains n

/-- The passing watch of an isolation in EFFECTIVE (R79). -/
def Ev.passingWatch (e : Ev) (slot station : Nat) (s : Station) : Ev :=
  match e.iso? slot with
  | none => e
  | some i =>
    if e.p.mon.dead.at s.cfg.tier + s.cfg.hyst < s.rt.value && i.result ≠ .passingSuspected then
      (e.modIso slot fun i => { i with result := .passingSuspected }).notePassing slot i.serial 1 station
    else e

/-- An accepted sample at one isolation, by the isolation's state at its turn (R78, R79, R80). -/
def Ev.isolationTest (e : Ev) (slot station time : Nat) : Ev :=
  match e.iso? slot, e.station? station with
  | some i, some s =>
    match i.state with
    | .verifying => e.decayCheck slot
    | .effective => e.passingWatch slot station s
    | .restoring => e.rampSample slot station s.rt.value time
    | .planning | .waiting | .planned | .closing | .relighting | .ended | .failed | .cancelled => e
  | _, _ => e

/-- A station left the non-stale state, or its binding, at one isolation (R78, R80, R161, R168). -/
def Ev.stationLeftAt (e : Ev) (slot station : Nat) : Ev :=
  match e.iso? slot with
  | none => e
  | some i =>
    match i.state with
    | .verifying => e.decayCheck slot
    | .restoring => e.rampLeft slot station
    | .planning | .waiting | .planned | .closing | .effective | .relighting | .ended | .failed | .cancelled => e

/-- A station that was non-stale and bound to some sections has left them. DESIGN CHOICE [47]: in ascending slot. -/
def Ev.stationLeft (e : Ev) (slots : List Nat) (station : Nat) : Ev :=
  e.each slots fun slot e => e.stationLeftAt slot station

/-- The sections a station leaves when it goes stale or is rewritten: none when it is not non-stale. -/
def Ev.leaving (e : Ev) (s : Station) : List Nat := if s.rt.nonStale then e.sectionsOf s.cfg.node else []

/-! ## The sample pipeline (R61 to R70, R194) -/

/-- Write a telemetry counter. -/
def Ev.count (e : Ev) (f : TelemetryCounters → TelemetryCounters) : Ev := { e with p.mon.counters := f e.p.mon.counters }

/-- Conversion and smoothing of a screened sample (R63, R64, R65). -/
def StationRt.convert (r : StationRt) (c : StationRec) (raw : Nat) : StationRt :=
  let p := clampPu (scaleRaw c raw)
  let r := { r with lastRaw := raw, lastConverted := p }
  if r.nonStale then { r with s16 := smooth c.k r.s16 p }
  else { r with s16 := 16 * p, ring := [], rate := 0, falling := false }

/-- The trend stage (R68, R69): ring, rate and FALLING. -/
def StationRt.trend (r : StationRt) (alarm : Int) (time : Nat) : StationRt :=
  let ring := pushRing r.ring r.value time
  let rate := ringRate ring r.rate
  { r with ring := ring, rate := rate, falling := fallingOf alarm rate r.falling }

/-- The band stage: the band, notice BAND_CHANGE, the census, and the incident of an entry to LOW_LOW or HIGH_HIGH
(R66, R67, R76). -/
def Ev.bandStage (e : Ev) (id : Nat) (s : Station) : Ev :=
  let new := bandOf s.cfg s.rt.band s.rt.value
  if new = s.rt.band then e
  else
    let quiet := e.suppressed s.cfg
    let e := (e.modRt id fun r => { r with band := new }).note .bandChange id
      (be 1 s.rt.band.code ++ be 1 new.code ++ bePu s.rt.value ++ beFlag quiet)
    let e := e.tierCheck s.cfg.tier
    if new = .lowLow then (if quiet then e else e.askIncident .pressureLoss (some id) s.cfg.tier)
    else if new = .highHigh then e.askIncident .overPressure (some id) s.cfg.tier
    else e

/-- The trend stage at the monitor: notice FALLING and its incident when the flag is set (R69, R76). -/
def Ev.trendStage (e : Ev) (id : Nat) (s : Station) (time : Nat) : Ev :=
  let r := s.rt.trend s.cfg.alarm time
  let e := e.modRt id fun x => { x with ring := r.ring, rate := r.rate, falling := r.falling }
  if r.falling && !s.rt.falling then
    let quiet := e.suppressed s.cfg
    let e := e.note .falling id (beInt 4 r.rate ++ beFlag quiet)
    if quiet then e else e.askIncident .pressureFall (some id) s.cfg.tier
  else e

/-- The freshness stage, and the isolation tests it hands the results to (R70). DESIGN CHOICE [47]: isolations that
share the station's node take the sample in ascending slot. -/
def Ev.freshStage (e : Ev) (id : Nat) (s : Station) (suspect : Bool) (time : Nat) : Ev :=
  let e := e.modRt id fun r => { r with freshness := if suspect then .suspect else .fresh, lastTime := some time }
  let e := (e.count fun c => { c with accepted := c.accepted + 1 }).tierCheck s.cfg.tier
  e.each (e.sectionsOf s.cfg.node) fun slot e => e.isolationTest slot id time

/-- A sample that passed the fault screen goes through the other seven stages (R63 to R70). -/
def Ev.pipeline (e : Ev) (id : Nat) (s : Station) (raw : Nat) (suspect : Bool) (time : Nat) : Ev :=
  let p := scaleRaw s.cfg raw
  let e := if clampPu p = p then e else e.count fun c => { c with clamps := c.clamps + 1 }
  let s := { s with rt := s.rt.convert s.cfg raw }
  let e := e.modRt id fun _ => s.rt
  (((e.bandStage id s).trendStage id s time).freshStage id s suspect time)

/-- What became of a sample. -/
inductive Taken where | accepted | discarded
  deriving DecidableEq, Repr

/-- One sample of a taken request (R61, R62). -/
def Ev.sample (e : Ev) (id raw age : Nat) (suspect : Bool) : Ev × Taken :=
  match e.station? id with
  | none => (e, .discarded)
  | some s =>
    let time := e.now - age
    if s.rt.lastTime.any (time ≤ ·) then (e.count fun c => { c with outOfOrder := c.outOfOrder + 1 }, .discarded)
    else if rawFaulty raw then
      let e := e.modRt id fun r =>
        { r with lastRaw := raw, freshness := if r.freshness = .fresh then .suspect else r.freshness }
      (e.count fun c => { c with faults := c.faults + 1 }, .discarded)
    else (e.pipeline id s raw suspect time, .accepted)

/-- The samples of a request, one handled after another; how many were converted and how many discarded or faulted
(R59, R194). DEDUCED [43]: each sample is an event of its own, and ends before the next one begins, so that what its
end brings comes before the next sample's notices. -/
def Ev.samples (id : Nat) (suspect : Bool) : List (Nat × Nat) → Ev → Ev × Nat × Nat
  | [], e => (e, 0, 0)
  | (raw, age) :: rest, e =>
    match e.sample id raw age suspect with
    | (e, t) =>
      match Ev.samples id suspect rest (if rest.isEmpty then e else e.settle) with
      | (e, a, d) => if t = .accepted then (e, a + 1, d) else (e, a, d + 1)

/-! ## Staleness (R60, R71) -/

/-- Notice STATION_STALE; cause 0 is expiry, 1 relay lost (R71, R221). -/
def Ev.noteStale (e : Ev) (id : Nat) (s : Station) (cause : Nat) : Ev :=
  e.note .stationStale id
    (be 1 cause ++ beFlag s.rt.lastTime.isSome ++ be 4 (s.rt.lastTime.getD 0) ++ bePu s.rt.value)

/-- A station becomes STALE: notice, census, and the sections it leaves (R71). -/
def Ev.goStale (e : Ev) (id : Nat) (s : Station) (cause : Nat) : Ev :=
  let slots := e.leaving s
  let e := e.modRt id fun r => { r with freshness := .stale, deadline := none, lost := true }
  (((e.noteStale id s cause).tierCheck s.cfg.tier).stationLeft slots id)

/-- A staleness deadline expires (R71). -/
def Ev.stalenessExpiry (e : Ev) (id : Nat) : Ev :=
  match e.station? id with
  | none => e
  | some s => if s.rt.deadline.any (· ≤ e.now) then e.goStale id s 0 else e

/-- STALENESS_EXPIRY: taken when part time has reached the deadline (R71, R212). -/
def execStalenessExpiry (station : Nat) (s : State) : Result :=
  .next (if s.link.clockEnded then s else s.event fun e => e.stalenessExpiry station)

/-! ## TELEMETRY (R59, R60) -/

/-- The samples of a path that is used, and the staleness deadline an accepted one sets (R60, R70). -/
def Ev.usedPath (e : Ev) (id : Nat) (s : Station) (suspect : Bool) (xs : List (Nat × Nat)) : Ev × Nat × Nat :=
  match Ev.samples id suspect xs e with
  | (e, a, d) =>
    (if a = 0 then e
     else e.modRt id fun r => { r with deadline := some (e.now + s.cfg.interval * s.cfg.multiple) }, a, d)

/-- The path status of a taken request decides what happens to its samples (R60). -/
def Ev.report (e : Ev) (id : Nat) (s : Station) (path : PathStatus) (xs : List (Nat × Nat)) : Ev × Nat × Nat :=
  match path with
  | .ok => e.usedPath id s false xs
  | .degraded =>
    if s.cfg.acceptDegraded then e.usedPath id s true xs
    else
      let e := e.modRt id fun r => { r with freshness := if r.freshness = .fresh then .suspect else r.freshness }
      (e.count fun c => { c with degraded := c.degraded + BitVec.ofNat 32 xs.length }, 0, xs.length)
  | .relayLost =>
    if s.rt.freshness = .stale then (e.modRt id fun r => { r with lost := true, deadline := none }, 0, 0)
    else (e.goStale id s 1, 0, 0)

/-- A taken TELEMETRY and its reply (R59). -/
def Ev.takeReport (e : Ev) (id : Nat) (s : Station) (path : PathStatus) (xs : List (Nat × Nat)) : Ev × Reply :=
  let e := e.count fun c => { c with reports := c.reports + 1 }
  let e := e.modRt id fun r => { r with accepted := r.accepted + 1 }
  match e.report id s path xs with
  | (e, a, d) =>
    (e, ⟨.ok, be 2 a ++ be 2 d ++ be 1 (((e.station? id).map fun s => s.rt.freshness.code).getD 0)⟩)

/-- A TELEMETRY refused BAD_LENGTH counts as a short report (R81, R200). -/
def Ev.shortReport (e : Ev) : Ev × Reply := (e.count fun c => { c with short := c.short + 1 }, ⟨.badLength, []⟩)

/-- TELEMETRY, its checks in R59's order, after the test of R200 that the fields they read are there. -/
def Ev.telemetry (e : Ev) (q : Req) : Ev × Reply :=
  if q.payload.length < 4 then e.shortReport
  else
    match coded pathOf q.payload 2 with
    | none => (e, ⟨.badValue, []⟩)
    | some path =>
      if 4 < field q.payload 3 1 then (e, ⟨.badValue, []⟩)
      else if q.payload.length ≠ 4 + 4 * field q.payload 3 1 then e.shortReport
      else
        match e.station? (field q.payload 0 2) with
        | none => (e.count fun c => { c with unknown := c.unknown + 1 }, ⟨.notFound, []⟩)
        | some s => e.takeReport (field q.payload 0 2) s path (samplesOf q.payload)

/-- TELEMETRY (R59). -/
def execTelemetry (s : State) : Result := .next (s.answerEv 0x0D wholeKind fun q e => e.telemetry q)

/-! ## STATION_SET (R56, R57) -/

/-- An accepted DEFINE (R57). -/
def Ev.defineStation (e : Ev) (id : Nat) (c : StationRec) : Ev :=
  match e.station? id with
  | none => ({ e with p.mon.stations := tset e.p.mon.stations id { cfg := c } } : Ev).tierCheck c.tier
  | some old =>
    let slots := e.leaving old
    let e : Ev := { e with p.mon.stations := tset e.p.mon.stations id { cfg := c } }
    ((e.tierCheck old.cfg.tier).tierCheck c.tier).stationLeft slots id

/-- An accepted REMOVE (R57). -/
def Ev.removeStation (e : Ev) (id : Nat) (old : Station) : Ev :=
  let slots := e.leaving old
  let e : Ev := { e with p.mon.stations := terase e.p.mon.stations id }
  (e.tierCheck old.cfg.tier).stationLeft slots id

/-- DEFINE, from the range check on (R56). -/
def Ev.define (e : Ev) (p : List Byte) (id : Nat) : Ev × Reply :=
  match stationRecord p with
  | none => (e, ⟨.badValue, []⟩)
  | some c =>
    if e.active && c.node.any fun n => !thas e.p.net.nodes n then (e, ⟨.badValue, []⟩)
    else (e.defineStation id c, ⟨.ok, []⟩)

/-- REMOVE, from the slot check on (R56). -/
def Ev.remove (e : Ev) (id : Nat) : Ev × Reply :=
  match e.station? id with
  | none => (e, ⟨.notFound, []⟩)
  | some old => (e.removeStation id old, ⟨.ok, []⟩)

/-- STATION_SET, its checks in R56's order. -/
def Ev.stationSet (e : Ev) (q : Req) : Ev × Reply :=
  let id := field q.payload 0 2
  if !q.rights.edit then (e, ⟨.noRight, []⟩)
  else if Config.maxStation < id || 1 < field q.payload 2 1 then (e, ⟨.badValue, []⟩)
  else if field q.payload 2 1 = 1 then e.remove id
  else e.define q.payload id

/-- The rows of STATION_SET, by the action byte. -/
def stationRow (action : Nat) (p : List Byte) : Bool := selects action [0, 1] p 2

/-- STATION_SET DEFINE (R57). -/
def execStationSetDefine (s : State) : Result :=
  .next (s.answerEv 0x0B (stationRow 0) (lengthFirst stationSetLengthOk fun q e => e.stationSet q))

/-- STATION_SET REMOVE (R57). -/
def execStationSetRemove (s : State) : Result :=
  .next (s.answerEv 0x0B (stationRow 1) (lengthFirst stationSetLengthOk fun q e => e.stationSet q))

/-! ## STATION_READ (R72): id (2), flags (1: bit 0 the clear option) -/

/-- A station record on the line, in R54's order of fields (R54, R216). DESIGN CHOICE [56]: R216's list names no raw
reading, scale factor, smoothing k or duration, and each is written as a count of its range: zero, k and interval in two
bytes, NUM and DEN in four. -/
def StationRec.bytes (c : StationRec) : List Byte :=
  beOpt 2 c.node ++ be 1 c.tier.code ++ be 2 c.zero ++ be 4 c.num ++ be 4 c.den ++ beFlag c.invert ++ be 2 c.k
    ++ bePu c.ll ++ bePu c.l ++ bePu c.h ++ bePu c.hh ++ bePu c.hyst ++ beInt 4 c.alarm ++ be 2 c.interval
    ++ be 2 c.multiple ++ beFlag c.acceptDegraded

/-- A station's runtime on the line, in R58's order of fields, the smoothed value in s16 and as reported (R58, R216).
DESIGN CHOICE [48]: an absent time is four bytes of all ones. DESIGN CHOICE [56]: the last raw value, a reading, is two
bytes. The four bytes of s16 are PRESUMED [14]. -/
def StationRt.bytes (r : StationRt) : List Byte :=
  be 1 r.freshness.code ++ beFlag r.lost ++ be 2 r.lastRaw ++ bePu r.lastConverted ++ beInt 4 r.s16 ++ bePu r.value
    ++ be 1 r.band.code ++ beFlag r.falling ++ beList (fun x => bePu x.1 ++ be 4 x.2) r.ring ++ beInt 4 r.rate
    ++ beCtr r.accepted ++ beOpt 4 r.lastTime ++ beOpt 4 r.deadline

/-- A station's record and runtime (R58, R72). -/
def Station.bytes (id : Nat) (s : Station) : List Byte := be 2 id ++ s.cfg.bytes ++ s.rt.bytes

/-- STATION_READ, its checks in R72's order; with the clear option LOST is cleared after it is read. -/
def Ev.stationRead (e : Ev) (q : Req) (clear : Bool) : Ev × Reply :=
  if clear && !q.rights.operate then (e, ⟨.noRight, []⟩)
  else
    let id := field q.payload 0 2
    match e.station? id with
    | none => (e, ⟨.notFound, []⟩)
    | some s => (if clear then e.modRt id fun r => { r with lost := false } else e, ⟨.ok, s.bytes id⟩)

/-- The rows of STATION_READ, by the clear option; DESIGN CHOICE [15]: bit 0 of its flag byte. -/
def readRow (clear : Bool) (p : List Byte) : Bool := (p[2]?).all fun b => flagBit b 0 = clear

/-- STATION_READ (R72). -/
def execStationRead (s : State) : Result :=
  .next (s.answerEv 0x0C (readRow false) (lengthFirst refLengthOk fun q e => e.stationRead q false))

/-- STATION_READ with the clear option (R72). -/
def execStationReadClear (s : State) : Result :=
  .next (s.answerEv 0x0C (readRow true) (lengthFirst refLengthOk fun q e => e.stationRead q true))

end Sys2Proof.Machine
end

