-- ==== Sys2Proof/Machine/Network.lean ====
section
/-! DEFINITION. The Network Store (01_network_table.md): the edit grant, the full load and its check, link and node
edits, tags, and the locator. -/

namespace Sys2Proof.Machine

/-- An accepted request that carries nothing back. -/
def okReply : Reply := ⟨.ok, []⟩

/-! ## The edit grant (R9 to R12) -/

/-- What EDIT_BEGIN FULL discards, in every block it reaches (R12, R51, R155, R192). -/
def Ev.discardTable (e : Ev) : Ev :=
  let e := if e.active then e.closeRecordZero else e
  { e with
    p.net.state := .loading, p.net.nodes := [], p.net.links := [], p.net.pipes := [], p.net.controls := []
    p.net.tags := [], p.net.load := none, p.net.checkViews := []
    p.trace.running := none, p.trace.pendingRecompute := false, p.trace.applied := 0
    p.ctl.orders := [] }

/-- The mode an EDIT_BEGIN carries. -/
def editModeOf : Nat → Option EditMode
  | 0 => some .links
  | 1 => some .full
  | _ => none

/-- EDIT_BEGIN in a known mode, from the grant check on (R9). -/
def Ev.editMode (e : Ev) (origin : Nat) (mode : EditMode) : Ev × Reply :=
  match e.p.net.grant with
  | some g => (e, ⟨if g.holder = origin then .wrongState else .editHeld, []⟩)
  | none =>
    match mode with
    | .links =>
      if e.active then ({ e with p.net.grant := some ⟨origin, .links⟩ }, okReply) else (e, ⟨.notActive, []⟩)
    | .full =>
      if e.p.net.state = .checking || (e.active && e.someNonTerminal) then (e, ⟨.wrongState, []⟩)
      else (Ev.discardTable { e with p.net.grant := some ⟨origin, .full⟩ }, okReply)

/-- EDIT_BEGIN, its checks in R9's order. -/
def Ev.editBegin (e : Ev) (q : Req) : Ev × Reply :=
  if !q.rights.edit then (e, ⟨.noRight, []⟩)
  else
    match coded editModeOf q.payload 0 with
    | none => (e, ⟨.badValue, []⟩)
    | some mode => e.editMode q.origin mode

/-- The rows of EDIT_BEGIN, by the mode byte. -/
def modeRow (mode : Nat) (p : List Byte) : Bool := selects mode [0, 1] p 0

/-- EDIT_BEGIN LINKS (R9). -/
def execEditBeginLinks (s : State) : Result :=
  .next (s.answerEv 0x01 (modeRow 0) (lengthFirst (fun p => p.length = 1) fun q e => e.editBegin q))

/-- EDIT_BEGIN FULL (R9, R12). -/
def execEditBeginFull (s : State) : Result :=
  .next (s.answerEv 0x01 (modeRow 1) (lengthFirst (fun p => p.length = 1) fun q e => e.editBegin q))

/-- Release of the grant; in mode FULL the load is abandoned (R10, R11). -/
def Ev.releaseGrant (e : Ev) (g : Grant) : Ev :=
  let e : Ev := { e with p.net.grant := none }
  match g.mode with
  | .links => e
  | .full => { e with p.net.state := .unloaded, p.net.nodes := [], p.net.links := [], p.net.load := none }

/-- EDIT_END (R10). -/
def Ev.editEnd (e : Ev) (q : Req) : Ev × Reply :=
  match e.p.net.grant with
  | none => (e, ⟨.wrongState, []⟩)
  | some g => if g.holder = q.origin then (e.releaseGrant g, okReply) else (e, ⟨.editHeld, []⟩)

/-- EDIT_END (R10). -/
def execEditEnd (s : State) : Result :=
  .next (s.answerEv 0x02 wholeKind (lengthFirst (fun p => p.length = 0) fun q e => e.editEnd q))

/-- EDIT_REVOKE (R11). -/
def Ev.editRevoke (e : Ev) (q : Req) : Ev × Reply :=
  if !q.rights.supervise then (e, ⟨.noRight, []⟩)
  else
    match e.p.net.grant with
    | none => (e, ⟨.notFound, []⟩)
    | some g => (e.releaseGrant g, okReply)

/-- EDIT_REVOKE (R11). -/
def execEditRevoke (s : State) : Result :=
  .next (s.answerEv 0x03 wholeKind (lengthFirst (fun p => p.length = 0) fun q e => e.editRevoke q))

/-! ## The full load (R13, R14) -/

/-- The origin holds the grant (R13, R14). -/
def Ev.holds (e : Ev) (origin : Nat) : Bool := e.p.net.grant.any fun g => g.holder = origin

/-- The network enters CHECKING and the grant is released (R13, R14). -/
def Ev.startCheck (e : Ev) : Ev := { e with p.net.state := .checking, p.net.grant := none, p.net.checkViews := [] }

/-- The counts are within the table's capacity (R13, R15). -/
def withinCapacity (n l : Nat) : Bool := n ≤ Config.maxNode + 1 && l ≤ Config.maxLink + 1

/-- An accepted TABLE_BEGIN (R13). -/
def Ev.beginLoad (e : Ev) (n l : Nat) : Ev :=
  let e : Ev := { e with p.net.nodes := [], p.net.links := [], p.net.load := some ⟨n, l, 0⟩ }
  if n + l = 0 || !withinCapacity n l then e.startCheck else e

/-- TABLE_BEGIN, its checks in R13's order. -/
def Ev.tableBegin (e : Ev) (q : Req) : Ev × Reply :=
  if !q.rights.edit then (e, ⟨.noRight, []⟩)
  else if e.p.net.state ≠ .loading then (e, ⟨.wrongState, []⟩)
  else if !e.holds q.origin then (e, ⟨.editHeld, []⟩)
  else (e.beginLoad (field q.payload 0 2) (field q.payload 2 2), okReply)

/-- TABLE_BEGIN (R13). -/
def execTableBegin (s : State) : Result :=
  .next (s.answerEv 0x04 wholeKind (lengthFirst (fun p => p.length = 4) fun q e => e.tableBegin q))

/-- Store the records of a block; none when an id has been received already, in this load or in the block (R14). -/
def NetworkStore.store (n : NetworkStore) : List BlockRecord → Option NetworkStore
  | [] => some n
  | .node id x :: rs => if thas n.nodes id then none else NetworkStore.store { n with nodes := tset n.nodes id x } rs
  | .link id l :: rs => if thas n.links id then none else NetworkStore.store { n with links := tset n.links id l } rs

/-- A block from the length check on (R14, R220); `l` is the load. -/
def Ev.takeBlock (e : Ev) (p : List Byte) (l : Load) : Ev × Reply :=
  let start := field p 0 2
  let k := field p 2 2
  if p.length ≠ blockLength l.nodes start k then (e, ⟨.badLength, []⟩)
  else if l.nodes + l.links < start + k || k = 0 then (e, ⟨.badValue, []⟩)
  else
    match (blockRecords l.nodes k start (p.drop 4)).bind e.p.net.store with
    | none => (e, ⟨.badValue, []⟩)
    | some n =>
      let e : Ev := { e with p.net := { n with load := some { l with expected := start + k } } }
      (if start + k = l.nodes + l.links then e.startCheck else e, okReply)

/-- TABLE_BLOCK, its checks in R14's order; a payload too short for its head is BAD_LENGTH before the head is read
(R200). -/
def Ev.tableBlock (e : Ev) (q : Req) : Ev × Reply :=
  if !q.rights.edit then (e, ⟨.noRight, []⟩)
  else if e.p.net.state ≠ .loading then (e, ⟨.wrongState, []⟩)
  else if !e.holds q.origin then (e, ⟨.editHeld, []⟩)
  else
    match e.p.net.load with
    | none => (e, ⟨.badSequence, []⟩)
    | some l =>
      if q.payload.length < 4 then (e, ⟨.badLength, []⟩)
      else if field q.payload 0 2 ≠ l.expected then (e, ⟨.badSequence, []⟩)
      else e.takeBlock q.payload l

/-- TABLE_BLOCK (R14). -/
def execTableBlock (s : State) : Result := .next (s.answerEv 0x05 wholeKind fun q e => e.tableBlock q)

/-! ## The table check (R15 to R17) -/

/-- A failure of the check: item, reason and object (R15). -/
structure CheckFail where
  item : Nat
  reason : CheckReason
  object : Option Nat
  deriving DecidableEq, Repr

/-- Item 2 of the check for one link (R15). -/
def linkEnds (nodes : Table Node) (l : Link) : Option CheckReason :=
  if !thas nodes l.endA then some .endAMissing
  else if !thas nodes l.endB then some .endBMissing
  else if l.endA = l.endB then some .endsEqual
  else none

/-- The tier of a node. -/
def nodeTier (nodes : Table Node) (n : Nat) : Option Tier := (tget nodes n).map (·.tier)

/-- Item 3 of the check for one link (R15). -/
def linkTiers (nodes : Table Node) (l : Link) : Option CheckReason :=
  if l.kind ≠ .regulator && (nodeTier nodes l.endA ≠ some l.tier || nodeTier nodes l.endB ≠ some l.tier)
  then some .tierMismatch else none

/-- Item 4 of the check for one link (R15). -/
def regulatorTiers (nodes : Table Node) (l : Link) : Option CheckReason :=
  if l.kind = .regulator then
    match nodeTier nodes l.endA, nodeTier nodes l.endB with
    | some a, some b =>
      if !a.above b then some .regNotDownward else if l.tier ≠ b then some .regTierMismatch else none
    | _, _ => some .regNotDownward
  else none

/-- The first object of a table, ascending, that fails an item. -/
def firstFail {α : Type} (item : Nat) (test : Nat → α → Option CheckReason) : Table α → Option CheckFail
  | [] => none
  | (k, x) :: t =>
    match test k x with
    | some r => some ⟨item, r, some k⟩
    | none => firstFail item test t

/-- Item 1: the announced counts (R15). -/
def countsFail (n l : Nat) : Option CheckFail :=
  if Config.maxNode + 1 < n then some ⟨1, .nodesOver, none⟩
  else if Config.maxLink + 1 < l then some ⟨1, .linksOver, none⟩
  else none

/-- An active locator entry (R24). -/
def LocatorEntry.active (x : LocatorEntry) : Bool := x.lo ≤ x.hi

/-- The link is a PIPE of the table (R15, R24). -/
def isPipe (links : Table Link) (k : Nat) : Bool := (tget links k).any fun l => l.kind = .pipe

/-- The table check: the first failing item (R15). -/
def NetworkStore.check (n : NetworkStore) (bindings : Table Nat) (locator : Table LocatorEntry) : Option CheckFail :=
  (countsFail ((n.load.map (·.nodes)).getD 0) ((n.load.map (·.links)).getD 0)).orElse fun _ =>
  (firstFail 2 (fun _ l => linkEnds n.nodes l) n.links).orElse fun _ =>
  (firstFail 3 (fun _ l => linkTiers n.nodes l) n.links).orElse fun _ =>
  (firstFail 4 (fun _ l => regulatorTiers n.nodes l) n.links).orElse fun _ =>
  (if n.nodes.any (fun x => x.2.source) then none else some ⟨5, .noSource, none⟩).orElse fun _ =>
  (firstFail 6 (fun _ b => if thas n.nodes b then none else some .stationNode) bindings).orElse fun _ =>
  firstFail 7 (fun _ x => if x.active && !isPipe n.links x.target then some .locatorTarget else none) locator

/-- Runtime of a controllable link at activation and creation (R5). -/
def newControls (links : Table Link) : Table ControlRt :=
  links.filterMap fun x => x.2.normal?.map fun pos => (x.1, { position := pos })

/-- Runtime of every pipe at activation (R3). -/
def newPipes (links : Table Link) : Table PipeRt :=
  links.filterMap fun x => if x.2.kind = .pipe then some (x.1, {}) else none

/-- A check that passes activates the table (R16, R176). -/
def Ev.activate (e : Ev) : Ev :=
  let e : Ev := { e with
    p.net.state := .active, p.net.generation := 1
    p.net.nodes := e.p.net.nodes.map fun x => (x.1, { x.2 with fed := false })
    p.net.pipes := newPipes e.p.net.links, p.net.controls := newControls e.p.net.links }
  e.openRecordZero.askRecompute

/-- The moments at which the check reached items 6 and 7, the second not before the first: free values [9]. -/
def checkMoments (draw n : Nat) : Nat × Nat :=
  let m6 := Config.checkMoment draw % n
  (m6, m6 + Config.checkMoment (draw + 1) % (n - m6))

/-- What items 6 and 7 of the running check read: bindings and locator (R15). -/
def Ev.checkReads (e : Ev) : Table Nat × Table LocatorEntry :=
  let views := e.p.net.checkViews
  if views.length < 2 then (e.p.checkView.bindings, e.p.checkView.locator)
  else
    let m := checkMoments e.p.draws views.length
    (((views[m.1]?).getD e.p.checkView).bindings, ((views[m.2]?).getD e.p.checkView).locator)

/-- Notice TABLE_CHECK (R15, R221). -/
def Ev.noteCheck (e : Ev) (f : Option CheckFail) : Ev :=
  match f with
  | none => e.note .tableCheck 0xFFFF (be 1 0 ++ be 1 0 ++ be 1 0)
  | some x => e.note .tableCheck (x.object.getD 0xFFFF) (be 1 1 ++ be 1 x.item ++ be 1 x.reason.code)

/-- The running table check completes (R15, R16, R17). -/
def Ev.checkComplete (e : Ev) : Ev :=
  let f := e.p.net.check e.checkReads.1 e.checkReads.2
  let e : Ev := { e with
    p.draws := if e.p.net.checkViews.length < 2 then e.p.draws else e.p.draws + 2
    p.net.checkViews := [] }
  let e := e.noteCheck f
  match f with
  | none => e.activate
  | some _ => { e with p.net.state := .checkFailed }

/-- TABLE_CHECK_COMPLETE (R15). -/
def execTableCheckComplete (s : State) : Result :=
  .next (if s.plant.net.state = .checking then s.event Ev.checkComplete else s)

/-! ## Edits (R18 to R21) -/

/-- What every edit is tested for first: the right, the network state, the LINKS grant (R18, R21). -/
def Ev.edit (e : Ev) (q : Req) (taken : Ev × Reply) : Ev × Reply :=
  if !q.rights.edit then (e, ⟨.noRight, []⟩)
  else if !e.active then (e, ⟨.notActive, []⟩)
  else if !e.p.net.grant.any fun g => g.holder = q.origin && g.mode = .links then (e, ⟨.editHeld, []⟩)
  else taken

/-- A section node of an isolation in PLANNED through RELIGHTING (R19). -/
def Ev.protectedNode (e : Ev) (n : Nat) : Bool := e.p.ctl.isos.any fun x => x.2.state.protects && x.2.nodes.contains n

/-- The runtime of a link as it stands protects it: a claim, a holder, or an outstanding order (R19). -/
def Ev.claimedLink (e : Ev) (id : Nat) : Bool :=
  (e.pipe? id).any (fun p => p.claim.isSome) || (e.control? id).any fun c => !c.holders.isEmpty || c.order.isSome

/-- An edit of a link is protected; `ends` are the ends before and after it (R19). -/
def Ev.protectedLink (e : Ev) (id : Nat) (ends : List Nat) : Bool := e.claimedLink id || ends.any e.protectedNode

/-- The ends of a link. -/
def Link.ends (l : Link) : List Nat := [l.endA, l.endB]

/-- The new record passes items 2, 3 and 4 of the table check (R18). -/
def Ev.linkSound (e : Ev) (l : Link) : Bool :=
  (linkEnds e.p.net.nodes l).isNone && (linkTiers e.p.net.nodes l).isNone && (regulatorTiers e.p.net.nodes l).isNone

/-- An active locator entry targets the link (R18). -/
def Ev.located (e : Ev) (id : Nat) : Bool := e.p.net.locator.any fun x => x.2.active && x.2.target = id

/-- The service counts are not below the pending, class by class (R18). -/
def Counts.covers (a b : Counts) : Bool := b.p ≤ a.p && b.c ≤ a.c && b.d ≤ a.d

/-- A pipe's pending locks an edit: it is removed or changes kind with pending, or a count falls below its pending (R18). -/
def Ev.pendingLocks (e : Ev) (id : Nat) (kept : Option Counts) : Bool :=
  (e.pipe? id).any fun p => match kept with | none => !p.pending.isZero | some sv => !sv.covers p.pending

/-- New runtime for a link (R20). -/
def Ev.newRuntime (e : Ev) (id : Nat) (l : Link) : Ev :=
  match l.normal? with
  | none => Ev.created { e with p.net.pipes := tset e.p.net.pipes id {} } none (some id)
  | some pos => { e with p.net.controls := tset e.p.net.controls id { position := pos } }

/-- The runtime of a link is discarded (R20, R187). -/
def Ev.dropRuntime (e : Ev) (id : Nat) : Ev :=
  { e with p.net.pipes := terase e.p.net.pipes id, p.net.controls := terase e.p.net.controls id }

/-- What each accepted edit does besides: one bump and a recompute request (R20, R21). -/
def Ev.edited (e : Ev) : Ev × Reply := (e.bump.askRecompute, okReply)

/-- LINK_EDIT CREATE, from the slot check on (R18, R20). -/
def Ev.createLink (e : Ev) (p : List Byte) (id : Nat) : Ev × Reply :=
  if (e.link? id).isSome then (e, ⟨.badValue, []⟩)
  else
    match editedLink p with
    | none => (e, ⟨.badValue, []⟩)
    | some l =>
      if !e.linkSound l then (e, ⟨.badValue, []⟩)
      else if e.protectedLink id l.ends then (e, ⟨.claimed, []⟩)
      else (Ev.newRuntime { e with p.net.links := tset e.p.net.links id l } id l).edited

/-- A removal or a change of kind is refused by a tag, pending, or the locator (R18). DESIGN CHOICE [51]: R18 speaks of a
pipe that an active entry targets; an entry written in CHECKING after item 7 of the check was read can target a valve
or a regulator, and its removal or change of kind is refused alike. -/
def Ev.uproot (e : Ev) (id : Nat) (taken : Ev × Reply) : Ev × Reply :=
  if e.p.net.tags.any fun t => t.2.link = id then (e, ⟨.tagged, be 2 id⟩)
  else if e.pendingLocks id none then (e, ⟨.locked, []⟩)
  else if e.located id then (e, ⟨.badValue, []⟩)
  else taken

/-- LINK_EDIT CHANGE, from the slot check on (R18, R20). DESIGN CHOICE [44]: an id above 6143 has no slot, and is
answered as an ABSENT one. -/
def Ev.changeLink (e : Ev) (p : List Byte) (id : Nat) : Ev × Reply :=
  match e.link? id with
  | none => (e, ⟨.notFound, []⟩)
  | some old =>
    match editedLink p with
    | none => (e, ⟨.badValue, []⟩)
    | some l =>
      let changed : Ev := { e with p.net.links := tset e.p.net.links id l }
      if !e.linkSound l then (e, ⟨.badValue, []⟩)
      else if e.protectedLink id (old.ends ++ l.ends) then (e, ⟨.claimed, []⟩)
      else if l.kind ≠ old.kind then e.uproot id ((changed.dropRuntime id).newRuntime id l).edited
      else if e.pendingLocks id (some l.service) then (e, ⟨.locked, []⟩)
      else changed.edited

/-- LINK_EDIT REMOVE, from the slot check on (R18, R20); an id above 6143 as for CHANGE [44]. -/
def Ev.removeLink (e : Ev) (id : Nat) : Ev × Reply :=
  match e.link? id with
  | none => (e, ⟨.notFound, []⟩)
  | some old =>
    if e.protectedLink id old.ends then (e, ⟨.claimed, []⟩)
    else e.uproot id (Ev.dropRuntime { e with p.net.links := terase e.p.net.links id } id).edited

/-- LINK_EDIT, its checks in R18's order. -/
def Ev.linkEdit (e : Ev) (q : Req) : Ev × Reply :=
  e.edit q
    (match field q.payload 2 1 with
    | 0 => e.createLink q.payload (field q.payload 0 2)
    | 1 => e.changeLink q.payload (field q.payload 0 2)
    | 2 => e.removeLink (field q.payload 0 2)
    | _ => (e, ⟨.badValue, []⟩))

/-- The rows of LINK_EDIT and NODE_EDIT, by the action byte. -/
def editRow (action : Nat) (p : List Byte) : Bool := selects action [0, 1, 2] p 2

/-- LINK_EDIT CREATE (R20). -/
def execLinkEditCreate (s : State) : Result :=
  .next (s.answerEv 0x06 (editRow 0) (lengthFirst (editLengthOk 16) fun q e => e.linkEdit q))

/-- LINK_EDIT CHANGE (R20). -/
def execLinkEditChange (s : State) : Result :=
  .next (s.answerEv 0x06 (editRow 1) (lengthFirst (editLengthOk 16) fun q e => e.linkEdit q))

/-- LINK_EDIT REMOVE (R20). -/
def execLinkEditRemove (s : State) : Result :=
  .next (s.answerEv 0x06 (editRow 2) (lengthFirst (editLengthOk 16) fun q e => e.linkEdit q))

/-- The nodes after an edit still have one with its source flag set (R21). -/
def hasSource (nodes : Table Node) : Bool := nodes.any fun x => x.2.source

/-- NODE_EDIT CREATE, from the slot check on (R21). -/
def Ev.createNode (e : Ev) (p : List Byte) (id : Nat) : Ev × Reply :=
  if thas e.p.net.nodes id then (e, ⟨.badValue, []⟩)
  else
    match editedNode p with
    | none => (e, ⟨.badValue, []⟩)
    | some n =>
      let nodes := tset e.p.net.nodes id n
      if !hasSource nodes then (e, ⟨.badValue, []⟩)
      else if e.protectedNode id then (e, ⟨.claimed, []⟩)
      else (Ev.created { e with p.net.nodes := nodes } (some id) none).edited

/-- A present link fails item 3 or 4 over some nodes (R21). -/
def tiersBroken (nodes : Table Node) (links : Table Link) (id : Nat) : Bool :=
  links.any fun x => (x.2.endA = id || x.2.endB = id)
    && ((linkTiers nodes x.2).isSome || (regulatorTiers nodes x.2).isSome)

/-- NODE_EDIT CHANGE, from the slot check on (R21). -/
def Ev.changeNode (e : Ev) (p : List Byte) (id : Nat) : Ev × Reply :=
  match tget e.p.net.nodes id with
  | none => (e, ⟨.notFound, []⟩)
  | some old =>
    match editedNode p with
    | none => (e, ⟨.badValue, []⟩)
    | some n =>
      let nodes := tset e.p.net.nodes id { n with fed := old.fed }
      if n.tier ≠ old.tier && tiersBroken nodes e.p.net.links id then (e, ⟨.badValue, []⟩)
      else if !hasSource nodes then (e, ⟨.badValue, []⟩)
      else if e.protectedNode id then (e, ⟨.claimed, []⟩)
      else Ev.edited { e with p.net.nodes := nodes }

/-- NODE_EDIT REMOVE, from the slot check on (R21). -/
def Ev.removeNode (e : Ev) (id : Nat) : Ev × Reply :=
  if !thas e.p.net.nodes id then (e, ⟨.notFound, []⟩)
  else
    let nodes := terase e.p.net.nodes id
    if !hasSource nodes then (e, ⟨.badValue, []⟩)
    else if e.p.net.links.any (fun x => x.2.endA = id || x.2.endB = id)
        || e.p.mon.stations.any (fun x => x.2.cfg.node = some id) then (e, ⟨.badValue, []⟩)
    else if e.protectedNode id then (e, ⟨.claimed, []⟩)
    else Ev.edited { e with p.net.nodes := nodes }

/-- NODE_EDIT, its checks in R21's order. -/
def Ev.nodeEdit (e : Ev) (q : Req) : Ev × Reply :=
  e.edit q
    (match field q.payload 2 1 with
    | 0 => e.createNode q.payload (field q.payload 0 2)
    | 1 => e.changeNode q.payload (field q.payload 0 2)
    | 2 => e.removeNode (field q.payload 0 2)
    | _ => (e, ⟨.badValue, []⟩))

/-- NODE_EDIT CREATE (R21). -/
def execNodeEditCreate (s : State) : Result :=
  .next (s.answerEv 0x07 (editRow 0) (lengthFirst (editLengthOk 4) fun q e => e.nodeEdit q))

/-- NODE_EDIT CHANGE (R21). -/
def execNodeEditChange (s : State) : Result :=
  .next (s.answerEv 0x07 (editRow 1) (lengthFirst (editLengthOk 4) fun q e => e.nodeEdit q))

/-- NODE_EDIT REMOVE (R21). -/
def execNodeEditRemove (s : State) : Result :=
  .next (s.answerEv 0x07 (editRow 2) (lengthFirst (editLengthOk 4) fun q e => e.nodeEdit q))

/-! ## Tags (R22, R23, R153) -/

/-- An accepted TAG_SET; a DO_NOT_OPERATE tag bumps the generation once and makes the link unworkable (R22, R153). -/
def Ev.placeTag (e : Ev) (id origin link : Nat) (kind : TagKind) : Ev :=
  let e : Ev := { e with p.net.tags := tset e.p.net.tags id ⟨link, kind, origin, e.now⟩ }
  match kind with
  | .doNotOperate => e.bump.unworkable link .tagged
  | .workInProgress => e

/-- The kind of tag a link can carry (R22). -/
def tagFits (l : Link) (kind : TagKind) : Bool := (l.kind = .pipe) == (kind = .workInProgress)

/-- TAG_SET of a present link, from the kind check on (R22). -/
def Ev.tagLink (e : Ev) (origin link : Nat) (l : Link) (kind : TagKind) : Ev × Reply :=
  if !tagFits l kind then (e, ⟨.badValue, []⟩)
  else if e.tagged link kind then (e, ⟨.duplicate, []⟩)
  else
    match lowestFree e.p.net.tags 0 Config.tagSlots with
    | none => (e, ⟨.full, []⟩)
    | some id => (e.placeTag id origin link kind, ⟨.ok, be 2 id⟩)

/-- TAG_SET, its checks in R22's order. -/
def Ev.tagSet (e : Ev) (q : Req) : Ev × Reply :=
  let link := field q.payload 0 2
  if !q.rights.operate then (e, ⟨.noRight, []⟩)
  else if !e.active then (e, ⟨.notActive, []⟩)
  else if Config.maxLink < link then (e, ⟨.badValue, []⟩)
  else
    match coded tagKindOf q.payload 2 with
    | none => (e, ⟨.badValue, []⟩)
    | some kind =>
      match e.link? link with
      | none => (e, ⟨.notFound, []⟩)
      | some l => e.tagLink q.origin link l kind

/-- TAG_SET (R22): link (2), kind (1). -/
def execTagSet (s : State) : Result :=
  .next (s.answerEv 0x08 wholeKind (lengthFirst refLengthOk fun q e => e.tagSet q))

/-- An accepted TAG_CLEAR (R23). -/
def Ev.removeTag (e : Ev) (id : Nat) (t : Tag) : Ev :=
  let e : Ev := { e with p.net.tags := terase e.p.net.tags id }
  match t.kind with
  | .doNotOperate => e.bump
  | .workInProgress => e

/-- TAG_CLEAR, its checks in R23's order. -/
def Ev.tagClear (e : Ev) (q : Req) : Ev × Reply :=
  let id := field q.payload 0 2
  if !q.rights.operate then (e, ⟨.noRight, []⟩)
  else if !e.active then (e, ⟨.notActive, []⟩)
  else if Config.tagSlots ≤ id then (e, ⟨.badValue, []⟩)
  else
    match tget e.p.net.tags id with
    | none => (e, ⟨.notFound, []⟩)
    | some t => (e.removeTag id t, okReply)

/-- TAG_CLEAR (R23): tag id (2). -/
def execTagClear (s : State) : Result :=
  .next (s.answerEv 0x09 wholeKind (lengthFirst (fun p => p.length = 2) fun q e => e.tagClear q))

/-! ## The locator (R24) -/

/-- Write one entry; the power-on entry is not listed. -/
def writeEntry (t : Table LocatorEntry) (k : Nat) (x : LocatorEntry) : Table LocatorEntry :=
  if x = {} then terase t k else tset t k x

/-- Write entries to consecutive indices. -/
def writeEntries : Nat → List LocatorEntry → Table LocatorEntry → Table LocatorEntry
  | _, [], t => t
  | k, x :: xs, t => writeEntries (k + 1) xs (writeEntry t k x)

/-- An entry that LOCATOR_SET may write: its target is an id, and while ACTIVE an active entry's target is a PIPE (R24). -/
def Ev.entrySound (e : Ev) (x : LocatorEntry) : Bool :=
  x.target ≤ Config.maxLink && !(e.active && x.active && !isPipe e.p.net.links x.target)

/-- LOCATOR_SET, its checks in R24's order; a count of 0 is no count of 1–512 (DESIGN CHOICE [21]). -/
def Ev.locatorSet (e : Ev) (q : Req) : Ev × Reply :=
  let start := field q.payload 0 2
  let xs := locatorEntriesOf q.payload
  if !q.rights.edit then (e, ⟨.noRight, []⟩)
  else if field q.payload 2 2 = 0 || Config.locatorEntries < start + field q.payload 2 2 || !xs.all e.entrySound
  then (e, ⟨.badValue, []⟩)
  else ({ e with p.net.locator := writeEntries start xs e.p.net.locator }, okReply)

/-- The payload length of a LOCATOR_SET with the count it sends. -/
def locatorLengthOk (p : List Byte) : Bool := 4 ≤ p.length && p.length = 4 + 8 * field p 2 2

/-- LOCATOR_SET (R24). -/
def execLocatorSet (s : State) : Result :=
  .next (s.answerEv 0x0A wholeKind (lengthFirst locatorLengthOk fun q e => e.locatorSet q))

end Sys2Proof.Machine
end

