-- ==== Sys2Proof/Machine/Reading.lean ====
section
/-! DEFINITION. LIST and STATUS (10_the_control_link.md, 10.7 and 10.8; R222) with the records each block offers them.
Records not laid out in Message Formats go in the order of their rule's fields, in R216's widths (PRESUMED [34]). R216
gives all ones for an absent identifier; an absent time, deadline or step count of these records is written the same
way, as all ones of its four bytes (DESIGN CHOICE [48]). R216's list of widths names no origin and no grade: each is one
byte, as in the frame header and in the notices (DESIGN CHOICE [55]). Nor does it name a raw reading, a scale factor, the
smoothing k, a duration or a class weight: each is written as a count of its range (DESIGN CHOICE [56]). -/

namespace Sys2Proof.Machine

/-! ## Records of the collections (R207) -/

/-- Slot and serial of an isolation that may be absent. -/
def beRef (r : Option IsoRef) : List Byte := beOpt 1 (r.map (·.slot)) ++ beOpt 2 (r.map (·.serial))

/-- An incident, in R82's order of fields (R106); an absent last call time is all ones (DESIGN CHOICE [48]), and the grade
is one byte (DESIGN CHOICE [55]). -/
def Incident.bytes (i : Incident) : List Byte :=
  be 2 i.id ++ be 1 i.kind.code ++ be 1 i.grade ++ beOpt 2 i.pipe ++ beOpt 2 i.station ++ beOpt 1 (i.tier.map Tier.code)
    ++ be 1 i.state.code ++ be 4 i.opened ++ beOpt 4 i.lastCall ++ be 4 i.lastState ++ be 4 i.deadline
    ++ beFlag i.overdue ++ beFlag i.inSection ++ beFlag i.truncated ++ be 2 i.calls ++ beList (be 4) i.refs ++ beRef i.iso

/-- A ramp record, in R160's order, as LIST shows it (R174); an absent t0, stall time or frozen step count is all ones
(DESIGN CHOICE [48]); the step interval, a duration, is two bytes (DESIGN CHOICE [56]). -/
def Ramp.bytes (r : Ramp) : List Byte :=
  bePu r.increment ++ be 2 r.interval ++ bePu r.target ++ bePu r.band ++ beOpt 4 r.t0 ++ beFlag r.stall.isSome
    ++ beOpt 1 (r.stall.map (·.cause.code)) ++ beOpt 2 (r.stall.bind (·.object)) ++ beOpt 4 (r.stall.map (·.time))
    ++ beOpt 4 r.frozen ++ be 4 r.openGen ++ be 2 r.stations.length ++ beFlag r.complete

/-- A plan as LIST shows it: traced generation, lengths, counts (R135). -/
def Plan.bytes (p : Plan) : List Byte :=
  be 4 p.gen ++ be 2 p.pipes.length ++ be 2 p.nodes.length ++ be 2 p.closure.length ++ be 2 p.passed.length
    ++ be 2 p.cutoff.length ++ beCounts 4 p.pipeCounts ++ beCounts 4 p.cutoffCounts

/-- A part that may be absent: a presence flag, then the part when there is one (DESIGN CHOICE [34]). -/
def bePart {α : Type} (f : α → List Byte) (x : Option α) : List Byte := beFlag x.isSome ++ (x.map f).getD []

/-- An isolation, in R135's order (R135, R174). DESIGN CHOICE [34]: its target pipes are not among the fixed fields of
the entry, and ISOLATION_READ returns them. DESIGN CHOICE [48]: an absent time is all ones. DESIGN CHOICE [55]: the
requester, the authoriser and the pending authoriser, origins, are one byte each. -/
def Isolation.bytes (slot : Nat) (i : Isolation) : List Byte :=
  be 1 slot ++ be 2 i.serial ++ be 1 i.requester ++ beOpt 1 i.authoriser ++ beOpt 2 i.incident ++ beFlag i.hold
    ++ beOpt 2 i.outage ++ be 1 i.state.code ++ beOpt 1 (i.failure.map fun f => f.cause.code) ++ be 2 i.restarts
    ++ be 1 i.result.code ++ beFlag i.carry.isSome ++ beOpt 1 i.carry ++ beRef i.waitingOn ++ be 4 i.requestTime
    ++ beOpt 4 i.authTime ++ beOpt 4 i.effectTime ++ beOpt 4 i.endTime ++ bePart Plan.bytes i.plan
    ++ be 2 i.holds.length ++ be 2 i.toIssue.length ++ bePart Ramp.bytes i.ramp

/-- An order, in R138's order of fields (R154); an absent accept or finish time is all ones (DESIGN CHOICE [48]). -/
def Order.bytes (id : Nat) (o : Order) : List Byte :=
  be 2 id ++ be 1 o.iso.slot ++ be 2 o.iso.serial ++ be 2 o.link ++ be 1 o.action.code ++ be 1 o.state.code
    ++ be 4 o.issued ++ beOpt 4 o.acceptTime ++ beFlag o.overdue ++ beOpt 4 o.finishTime
    ++ beOpt 1 (o.cause.map FinishCause.code)

/-- An outage record, in R175's order of fields, its pending and owned pipes read from the pipes (R193). DESIGN CHOICE
[48]: the absent closed time of an OPEN record is all ones. -/
def Outage.bytes (pipes : Table PipeRt) (id : Nat) (o : Outage) : List Byte :=
  be 2 id ++ beRef o.iso ++ be 1 o.state.code ++ be 4 o.opened ++ beOpt 4 o.closed ++ beCounts 4 (recordPending pipes id)
    ++ beCounts 4 o.peak ++ be 2 (recordOwned pipes id) ++ beCounters o.relights ++ beCounters o.deferred
    ++ beCtr o.absorbed ++ be 5 o.weighted ++ be 5 o.service

/-- The fields of a link that belong to its kind, in the widths of the link record (R2, R220). -/
def LinkBody.bytes : LinkBody → List Byte
  | .pipe sv len => beCounts 2 sv ++ be 2 len
  | .valve n o => be 1 n.code ++ be 1 o.code
  | .regulator n o => be 1 n.code ++ be 1 o.code

/-- Runtime of a pipe, in R3's order of fields. -/
def PipeRt.bytes (p : PipeRt) : List Byte :=
  be 1 p.supply.code ++ beFlag p.isNew ++ beOpt 1 p.claim ++ beCounts 2 p.pending ++ beOpt 2 p.owner ++ beFlag p.fed

/-- Runtime of a valve or regulator, in R5's order of fields: position, holder count and list, outstanding order. -/
def ControlRt.bytes (c : ControlRt) : List Byte := be 1 c.position.code ++ beList (be 1) c.holders ++ beOpt 2 c.order

/-- A link with its runtime (R2, R3, R5). -/
def NetworkStore.linkBytes (n : NetworkStore) (id : Nat) (l : Link) : List Byte :=
  be 2 id ++ be 1 l.kind.code ++ be 2 l.endA ++ be 2 l.endB ++ be 1 l.tier.code ++ l.body.bytes
    ++ ((tget n.pipes id).map PipeRt.bytes).getD [] ++ ((tget n.controls id).map ControlRt.bytes).getD []

/-- A tag (R22). DESIGN CHOICE [55]: its origin is one byte. -/
def Tag.bytes (id : Nat) (t : Tag) : List Byte := be 2 id ++ be 2 t.link ++ be 1 t.kind.code ++ be 1 t.origin ++ be 4 t.time

/-- A locator entry (R24). -/
def LocatorEntry.bytes (k : Nat) (x : LocatorEntry) : List Byte := be 2 k ++ be 3 x.lo ++ be 3 x.hi ++ be 2 x.target

/-- A tier's census record: six counts and the tier-low condition (R73). -/
def StationMonitor.censusBytes (m : StationMonitor) (t : Tier) : List Byte :=
  be 1 t.code ++ (m.census t).flatMap (be 2) ++ beFlag (m.tierLow.at t)

/-- A table as keys and record bytes. -/
def entries {α : Type} (f : Nat → α → List Byte) (t : Table α) : List (Nat × List Byte) := t.map fun x => (x.1, f x.1 x.2)

/-- The incidents by id, ascending (R106). -/
def IncidentRegister.byIds (r : IncidentRegister) : Table Incident := r.table.foldl (fun t x => tset t x.2.id x.2) []

/-- A collection in ascending key; none for an unknown one (R207). -/
def Plant.collection (p : Plant) : Nat → Option (List (Nat × List Byte))
  | 0 => some (entries (fun _ i => i.bytes) p.reg.byIds)
  | 1 => some (entries Isolation.bytes p.ctl.isos)
  | 2 => some (entries Order.bytes p.ctl.orders)
  | 3 => some (entries (Outage.bytes p.net.pipes) p.led.records)
  | 4 => some (entries Station.bytes p.mon.stations)
  | 5 => some (if p.net.state = .active then entries p.net.linkBytes p.net.links else [])
  | 6 => some (entries Tag.bytes p.net.tags)
  | 7 => some ((List.range Config.locatorEntries).map fun k => (k, ((tget p.net.locator k).getD {}).bytes k))
  | 8 => some ([Tier.lp, .mp, .ip].map fun t => (t.code, p.mon.censusBytes t))
  | _ => none

/-! ## LIST (R206, R222): collection (1), start key (2), n (2) -/

/-- A record and the length field before it (R222). -/
def listed (x : Nat × List Byte) : List Byte := be 2 x.2.length ++ x.2

/-- The header of a LIST reply after its status byte, and the records (R222). -/
def listReply (coll : Nat) (next : Option Nat) (returned residual : Nat) (recs : List (List Byte)) : Reply :=
  ⟨.ok, be 1 coll ++ beFlag next.isSome ++ be 2 returned ++ be 2 residual ++ be 2 (next.getD 0) ++ recs.flatten⟩

/-- The bytes the records of one reply may take with their length fields (R222). -/
abbrev listRoom : Nat := 1007

/-- A LIST of a collection read from its start record on (R206). -/
def listFrom (coll n : Nat) (rs : List (Nat × List Byte)) : Reply :=
  if n = 0 then listReply coll (rs.head?.map (·.1)) 0 0 []
  else
    let out := fitting listRoom ((rs.take n).map listed)
    listReply coll (((rs.drop out.length).head?).map (·.1)) out.length (n - out.length) out

/-- A LIST of a known collection from a start key (R206). -/
def listAt (coll start n : Nat) (rs : List (Nat × List Byte)) : Reply :=
  if start = 0 then listFrom coll n rs
  else
    match rs.dropWhile fun x => x.1 < start with
    | [] => ⟨.notFound, []⟩
    | x :: xs => if x.1 = start then listFrom coll n (x :: xs) else ⟨.notFound, []⟩

/-- LIST over the blocks (R206). -/
def Plant.list (p : Plant) (payload : List Byte) : Reply :=
  match p.collection (field payload 0 1) with
  | none => ⟨.badValue, []⟩
  | some rs => listAt (field payload 0 1) (field payload 1 2) (field payload 3 2) rs

/-- LIST (R206). -/
def execList (s : State) : Result :=
  .next (s.answer 0x1E wholeKind (lengthFirst (fun p => p.length = 5) fun q s => (s, s.plant.list q.payload)))

/-! ## STATUS (R208) -/

/-- The link counters, in R209's order. -/
def LinkCounters.bytes (c : LinkCounters) : List Byte :=
  beCtr c.good ++ beCtr c.crc ++ beCtr c.length ++ beCtr c.gaps ++ beCtr c.badOrigin ++ beCtr c.busy
    ++ beCtr c.repliesDropped ++ beCtr c.noticesDropped ++ beCtr c.breaks

/-- A refusal record; no last code is 0xFF (R211, R218). -/
def Refusals.bytes (r : Refusals) : List Byte := beCtr r.count ++ beOpt 1 (r.last.map Status.code)

/-- The Control Link's part of STATUS (R208); the mask has the four bytes of NOTICE_MASK (R217). -/
def ControlLink.statusBytes (l : ControlLink) (origin : Nat) : List Byte :=
  be 4 l.rate.bitsPerSecond ++ be 4 l.partTime ++ be 8 l.wallOffset.toNat ++ be 2 l.inbound.length ++ be 2 l.replies.length
    ++ be 2 l.notices.length ++ beFlag l.resync.isSome ++ be 4 l.mask.toNat ++ l.counters.bytes
    ++ l.rights.flatMap (fun r => be 1 r.code) ++ ((l.refusals[origin]?).getD {}).bytes

/-- The Network Store's part of STATUS (R208). DESIGN CHOICE [55]: the holder of the grant, an origin, is one byte. -/
def NetworkStore.statusBytes (n : NetworkStore) : List Byte :=
  be 1 n.state.code ++ be 4 n.generation ++ beOpt 1 (n.grant.map (·.holder)) ++ beOpt 1 (n.grant.map (·.mode.code))

/-- The telemetry counters, in R81's order (R208). -/
def TelemetryCounters.bytes (c : TelemetryCounters) : List Byte :=
  beCtr c.reports ++ beCtr c.short ++ beCtr c.unknown ++ beCtr c.accepted ++ beCtr c.outOfOrder ++ beCtr c.faults
    ++ beCtr c.clamps ++ beCtr c.degraded

/-- The running job, its slot and serial for a trace (R53). DESIGN CHOICE [45]: kind 0 is a trace, 1 a recompute, and
0xFF an idle engine. -/
def jobBytes : Option Job → List Byte
  | none => beOpt 1 none ++ beRef none
  | some (.trace r ..) => be 1 0 ++ beRef (some r)
  | some (.recompute ..) => be 1 1 ++ beRef none

/-- The Trace Engine's part of STATUS (R53). -/
def TraceEngine.statusBytes (t : TraceEngine) : List Byte :=
  jobBytes t.running ++ be 2 t.fifo.length ++ be 2 t.deferred.length ++ beFlag t.pendingRecompute ++ be 4 t.applied

/-- The Incident Register's part of STATUS (R106). -/
def IncidentRegister.statusBytes (r : IncidentRegister) : List Byte :=
  be 2 (tcount r.table Incident.uncleared) ++ be 2 (tcount r.table fun i => !i.uncleared)
    ++ be 2 (Config.incidentSlots - r.table.length) ++ be 2 (tcount r.table fun i => i.uncleared && i.overdue)
    ++ be 2 r.serial

/-- The eleven states, in their order of value (R216). -/
def isoStates : List IsoState :=
  [.planning, .waiting, .planned, .closing, .verifying, .effective, .restoring, .relighting, .ended, .failed, .cancelled]

/-- The Isolation Controller's part of STATUS (R135, R154). -/
def IsolationController.statusBytes (c : IsolationController) : List Byte :=
  isoStates.flatMap (fun st => be 2 (tcount c.isos fun i => i.state = st)) ++ be 2 c.serial
    ++ be 2 (tcount c.orders Order.outstanding) ++ be 2 (tcount c.orders fun o => !o.outstanding)
    ++ be 2 (tcount c.orders fun o => o.outstanding && o.overdue) ++ be 2 ((c.isos.map fun x => x.2.toIssue.length).sum)
    ++ be 2 c.orderSerial

/-- WEIGHTS_SET is locked: some pipe has pending above zero (R190). -/
def Plant.weightsLocked (p : Plant) : Bool := p.net.pipes.any fun x => !x.2.pending.isZero

/-- The Outage Ledger's part of STATUS (R193). DESIGN CHOICE [56]: a class weight is two bytes. -/
def Plant.ledgerBytes (p : Plant) : List Byte :=
  be 2 (tcount p.led.records fun o => o.state = .opened) ++ be 2 (tcount p.led.records fun o => o.state = .closed)
    ++ be 2 (Config.outageSlots - 1 - (tkeysWhere p.led.records fun k _ => k ≠ 0).length)
    ++ beCounts 4 (totalPending p.net.pipes) ++ beCounts 2 p.led.weights ++ beFlag p.weightsLocked

/-- What STATUS reports to an origin (R208). -/
def State.statusBytes (s : State) (origin : Nat) : List Byte :=
  s.link.statusBytes origin ++ s.plant.net.statusBytes ++ s.plant.mon.counters.bytes ++ s.plant.trace.statusBytes
    ++ s.plant.reg.statusBytes ++ s.plant.ctl.statusBytes ++ s.plant.ledgerBytes

/-- STATUS: the report, after which the caller's refusal record is cleared (R208, R211). -/
def State.status (q : Req) (s : State) : State × Reply :=
  ({ s with link.refusals := s.link.refusals.modify q.origin fun _ => {} }, ⟨.ok, s.statusBytes q.origin⟩)

/-- STATUS (R208). -/
def execStatus (s : State) : Result :=
  .next (s.answer 0x1F wholeKind (lengthFirst (fun p => p.length = 0) State.status))

end Sys2Proof.Machine
end

