-- ==== Sys2Proof/Machine/Control.lean ====
section
/-! DEFINITION. The requests that set the part up and clear it (10_the_control_link.md, 10.5, 10.9 to 10.12; R179, R190
of 08_outage_ledger.md): rights, mask, wall offset, settings, weights, the release of an outage record, and RESET. -/

namespace Sys2Proof.Machine

/-! ## The Outage Ledger's requests (R179, R190) -/

/-- OUTAGE_RELEASE of a record id, from the range check on (R179). -/
def Ev.releaseRecord (e : Ev) (k : Nat) : Ev × Reply :=
  if k = 0 || Config.outageSlots ≤ k then (e, ⟨.badValue, []⟩)
  else
    match e.record? k with
    | none => (e, ⟨.notFound, []⟩)
    | some o =>
      if o.state = .opened then (e, ⟨.wrongState, []⟩)
      else (Ev.forgetRecord { e with p.led.records := terase e.p.led.records k } o.iso, okReply)

/-- OUTAGE_RELEASE, its checks in R179's order: record id (2). -/
def Ev.outageRelease (e : Ev) (q : Req) : Ev × Reply :=
  if !q.rights.operate then (e, ⟨.noRight, []⟩)
  else if q.payload.length ≠ 2 then (e, ⟨.badLength, []⟩)
  else e.releaseRecord (field q.payload 0 2)

/-- OUTAGE_RELEASE (R179). -/
def execOutageRelease (s : State) : Result := .next (s.answerEv 0x1C wholeKind fun q e => e.outageRelease q)

/-- WEIGHTS_SET, its checks in R190's order: P (2), C (2), D (2), a weight being two bytes by DESIGN CHOICE [56]. -/
def Ev.weightsSet (e : Ev) (q : Req) : Ev × Reply :=
  let w : Counts := ⟨field q.payload 0 2, field q.payload 2 2, field q.payload 4 2⟩
  if !q.rights.supervise then (e, ⟨.noRight, []⟩)
  else if q.payload.length ≠ 6 then (e, ⟨.badLength, []⟩)
  else if 255 < w.p || 255 < w.c || 255 < w.d then (e, ⟨.badValue, []⟩)
  else if e.p.weightsLocked then (e, ⟨.locked, beCounts 4 (totalPending e.p.net.pipes)⟩)
  else ({ e with p.led.weights := w }, okReply)

/-- WEIGHTS_SET (R190). -/
def execWeightsSet (s : State) : Result := .next (s.answerEv 0x1D wholeKind fun q e => e.weightsSet q)

/-! ## Rights, mask, wall offset (R204, R210, R212) -/

/-- No right at all: what an origin outside the table would hold. -/
def noRights : Rights := ⟨false, false, false, false, false⟩

/-- RIGHTS_SET, its checks in R210's order: origin (1, DESIGN CHOICE [55]), rights (1). -/
def State.rightsSet (q : Req) (s : State) : State × Reply :=
  let who := field q.payload 0 1
  if !q.rights.supervise then (s, ⟨.noRight, []⟩)
  else
    match (q.payload[1]?).bind rightsOf with
    | none => (s, ⟨.badValue, []⟩)
    | some r =>
      let rights := s.link.rights.set who r
      if 7 < who || !rights.any (·.supervise) then (s, ⟨.badValue, []⟩)
      else ({ s with link.rights := rights }, ⟨.ok, be 1 ((s.link.rights[who]?).getD noRights).code⟩)

/-- RIGHTS_SET (R210). -/
def execRightsSet (s : State) : Result :=
  .next (s.answer 0x20 wholeKind (lengthFirst (fun p => p.length = 2) State.rightsSet))

/-- The mask a NOTICE_MASK gives: bits 1 to 18 as sent, RESYNC always enabled, the ignored bits 0 (R204, R217, [28]). -/
def maskOf (p : List Byte) : BitVec 32 := (BitVec.ofNat 32 (field p 0 4) &&& 0x0007FFFE#32) ||| 0x00080000#32

/-- NOTICE_MASK (R204): mask (4, R217). -/
def State.noticeMask (q : Req) (s : State) : State × Reply :=
  if !q.rights.supervise then (s, ⟨.noRight, []⟩)
  else ({ s with link.mask := maskOf q.payload }, ⟨.ok, be 4 s.link.mask.toNat⟩)

/-- NOTICE_MASK (R204). -/
def execNoticeMask (s : State) : Result :=
  .next (s.answer 0x21 wholeKind (lengthFirst (fun p => p.length = 4) State.noticeMask))

/-- TIME_SET (R212): wall offset (8). -/
def State.timeSet (q : Req) (s : State) : State × Reply :=
  if !q.rights.supervise then (s, ⟨.noRight, []⟩)
  else ({ s with link.wallOffset := BitVec.ofNat 64 (field q.payload 0 8) }, ⟨.ok, be 4 s.link.partTime⟩)

/-- TIME_SET (R212). -/
def execTimeSet (s : State) : Result :=
  .next (s.answer 0x22 wholeKind (lengthFirst (fun p => p.length = 8) State.timeSet))

/-! ## Settings (R213): group (1), values -/

/-- What the owner of a group does with new values: a new tier-low threshold is applied at once (R74, R81). -/
def Ev.applyGroup (e : Ev) (group : Nat) : Ev := if group = 1 then e.tierChecks else e

/-- SETTINGS_SET of a group, from the group check on (R213). -/
def Ev.setGroup (e : Ev) (p : List Byte) (group : Nat) : Ev × Reply :=
  match groupLength group with
  | none => (e, ⟨.badValue, []⟩)
  | some n =>
    if p.length ≠ 1 + n then (e, ⟨.badLength, []⟩)
    else if !groupInRange (p.drop 1) group then (e, ⟨.badValue, []⟩)
    else (Ev.applyGroup { e with p := writeGroup e.p (p.drop 1) group } group, ⟨.ok, groupBytes e.p group⟩)

/-- SETTINGS_SET, its checks in R213's order. -/
def Ev.settingsSet (e : Ev) (q : Req) : Ev × Reply :=
  if !q.rights.supervise then (e, ⟨.noRight, []⟩)
  else if q.payload.isEmpty then (e, ⟨.badLength, []⟩)
  else e.setGroup q.payload (field q.payload 0 1)

/-- SETTINGS_SET (R213). -/
def execSettingsSet (s : State) : Result := .next (s.answerEv 0x23 wholeKind fun q e => e.settingsSet q)

/-- SETTINGS_READ (R213): group (1). -/
def State.settingsRead (q : Req) (s : State) : State × Reply :=
  match groupLength (field q.payload 0 1) with
  | none => (s, ⟨.badValue, []⟩)
  | some _ => (s, ⟨.ok, groupBytes s.plant (field q.payload 0 1)⟩)

/-- SETTINGS_READ (R213). -/
def execSettingsRead (s : State) : Result :=
  .next (s.answer 0x24 wholeKind (lengthFirst (fun p => p.length = 1) State.settingsRead))

/-! ## RESET (R214) -/

/-- What RESET OPERATIONS clears while the network is ACTIVE: the Network Store, the Trace Engine, the ledger's open
records after the claims are released, and the order table (R26, R50, R155, R191). -/
def Ev.resetActive (e : Ev) : Ev :=
  let e := e.mapPipes fun _ p => if p.claim.isSome then { p with claim := none, supply := p.supply.released } else p
  let e : Ev := { e with
    p.net.controls := e.p.net.controls.map fun x => (x.1, { x.2 with holders := [], order := none })
    p.trace.running := none, p.trace.fifo := [], p.trace.deferred := []
    p.ctl.orders := [] }
  e.bump.askRecompute.closeIsolationRecords

/-- RESET OPERATIONS at the blocks (R214): isolations and incidents go in every network state (R107, R137). -/
def Ev.resetOperations (e : Ev) : Ev :=
  let e := if e.active then e.resetActive else e
  { e with p.ctl.isos := [], p.reg.table := [] }

/-- The kind a RESET carries: OPERATIONS is 0, LINK 1 (R214, R216). -/
def resetKindKnown (p : List Byte) : Bool := field p 0 1 ≤ 1

/-- The rows of RESET, by the kind byte. -/
def resetRow (kind : Nat) (p : List Byte) : Bool := selects kind [0, 1] p 0

/-- RESET of kind OPERATIONS, its checks in R214's order. -/
def Ev.reset (e : Ev) (q : Req) : Ev × Reply :=
  if !q.rights.supervise then (e, ⟨.noRight, []⟩)
  else if !resetKindKnown q.payload then (e, ⟨.badValue, []⟩)
  else (e.resetOperations, okReply)

/-- RESET OPERATIONS (R214). -/
def execResetOperations (s : State) : Result :=
  .next (s.answerEv 0x25 (resetRow 0) (lengthFirst (fun p => p.length = 1) fun q e => e.reset q))

/-- RESET of kind LINK, its checks in R214's order; of the inbound queue only the RESET itself stays. -/
def State.resetLink (q : Req) (s : State) : State × Reply :=
  if !q.rights.supervise then (s, ⟨.noRight, []⟩)
  else if !resetKindKnown q.payload then (s, ⟨.badValue, []⟩)
  else ({ s with link := s.link.resetLink }, okReply)

/-- RESET LINK (R214). -/
def execResetLink (s : State) : Result :=
  .next (s.answer 0x25 (resetRow 1) (lengthFirst (fun p => p.length = 1) State.resetLink))

/-! ## Part time (R188, R212) -/

/-- A minute boundary is taken: each OPEN record accrues (R188). -/
def Ev.minute (e : Ev) : Ev := { e with p.led := e.p.led.minute e.p.net.pipes }

/-- The due boundary is taken, unless none is due or the clock has ended (R188, R212). -/
def State.takeMinute (s : State) : State :=
  if s.link.boundaryDue && !s.link.clockEnded then
    State.event { s with link.boundaryDue := false } Ev.minute
  else s

/-- MINUTE_BOUNDARY (R188). -/
def execMinuteBoundary (s : State) : Result := .next s.takeMinute

/-- Each of some timers takes its expiry as an event of its own. -/
def State.expire (s : State) (keys : List Nat) (f : Nat → Ev → Ev) : State := keys.foldl (fun s k => s.event (f k)) s

/-- The second ends: what fell at its part time and has not been taken is taken now, so that nothing is passed over
(R212, DESIGN CHOICE [5]). -/
def State.takeDue (s : State) : State :=
  let now := s.link.partTime
  let s := s.takeMinute
  let s := s.expire (tkeysWhere s.plant.mon.stations fun _ x => x.rt.deadline.any (· ≤ now)) fun k e => e.stalenessExpiry k
  let s := s.expire
    ((s.plant.reg.table.filter fun x => x.2.timed && x.2.deadline ≤ now).map fun x => x.2.id) fun k e => e.deadlineExpiry k
  let s := s.expire (tkeysWhere s.plant.ctl.isos fun _ i => i.verifyTimer.any (· ≤ now)) fun k e => e.verifyExpiry k
  let s := s.expire
    (tkeysWhere s.plant.ctl.orders fun _ o => o.state = .issued && !o.overdue && o.expiry ≤ now) fun k e => e.orderOverdue k
  s.expire (tkeysWhere s.plant.ctl.isos fun _ i => (i.ramp.bind (·.startTimer)).any (· ≤ now)) fun k e =>
    e.rampStartExpiry k

/-- PART_TIME_TICK: one second ends. An advance from 4,294,967,295 leaves part time there, and nothing expires after
it (R212). -/
def execPartTimeTick (s : State) : Result :=
  .next (if s.link.clockEnded then s
    else
      let s := s.takeDue
      if s.link.partTime = max32 then { s with link.clockEnded := true }
      else
        let t := s.link.partTime + 1
        { s with link.partTime := t, link.boundaryDue := t % 60 = 0 })

/-- INCIDENT_DEADLINE_EXPIRY: taken when part time has reached the deadline (R102, R212). -/
def execIncidentDeadlineExpiry (incident : Nat) (s : State) : Result :=
  .next (if s.link.clockEnded then s else s.event fun e => e.deadlineExpiry incident)

/-! ## Requests of the Incident Register (R85, R100) -/

/-- CALL (R85). -/
def execCall (s : State) : Result := .next (s.answerEv 0x0E wholeKind fun q e => e.call q)

/-- INCIDENT_UPDATE (R100). -/
def execIncidentUpdate (s : State) : Result := .next (s.answerEv 0x0F wholeKind fun q e => e.incidentUpdate q)

end Sys2Proof.Machine
end

