-- ==== Sys2Proof/Machine/Dispatch.lean ====
section
/-! DEFINITION. One arm per command: its meaning. -/

namespace Sys2Proof.Machine

open Sys2Proof

/-- The effect of a command on everything but the queue of commands that wait. -/
def exec (i : Instr) (s : State) : Host.Outcome State Fault Refusal :=
  match i with
  | .powerOn strap => Sys2Proof.Machine.execPowerOn strap s
  | .partTimeTick => Sys2Proof.Machine.execPartTimeTick s
  | .minuteBoundary => Sys2Proof.Machine.execMinuteBoundary s
  | .frameReceived bytes => Sys2Proof.Machine.execFrameReceived bytes s
  | .gapAbort => Sys2Proof.Machine.execGapAbort s
  | .lineBreak => Sys2Proof.Machine.execLineBreak s
  | .requestDispatch => Sys2Proof.Machine.execRequestDispatch s
  | .unknownKind => Sys2Proof.Machine.execUnknownKind s
  | .transmitComplete => Sys2Proof.Machine.execTransmitComplete s
  | .editBeginLinks => Sys2Proof.Machine.execEditBeginLinks s
  | .editBeginFull => Sys2Proof.Machine.execEditBeginFull s
  | .editEnd => Sys2Proof.Machine.execEditEnd s
  | .editRevoke => Sys2Proof.Machine.execEditRevoke s
  | .tableBegin => Sys2Proof.Machine.execTableBegin s
  | .tableBlock => Sys2Proof.Machine.execTableBlock s
  | .tableCheckComplete => Sys2Proof.Machine.execTableCheckComplete s
  | .linkEditCreate => Sys2Proof.Machine.execLinkEditCreate s
  | .linkEditChange => Sys2Proof.Machine.execLinkEditChange s
  | .linkEditRemove => Sys2Proof.Machine.execLinkEditRemove s
  | .nodeEditCreate => Sys2Proof.Machine.execNodeEditCreate s
  | .nodeEditChange => Sys2Proof.Machine.execNodeEditChange s
  | .nodeEditRemove => Sys2Proof.Machine.execNodeEditRemove s
  | .tagSet => Sys2Proof.Machine.execTagSet s
  | .tagClear => Sys2Proof.Machine.execTagClear s
  | .locatorSet => Sys2Proof.Machine.execLocatorSet s
  | .stationSetDefine => Sys2Proof.Machine.execStationSetDefine s
  | .stationSetRemove => Sys2Proof.Machine.execStationSetRemove s
  | .stationRead => Sys2Proof.Machine.execStationRead s
  | .stationReadClear => Sys2Proof.Machine.execStationReadClear s
  | .telemetry => Sys2Proof.Machine.execTelemetry s
  | .stalenessExpiry station => Sys2Proof.Machine.execStalenessExpiry station s
  | .call => Sys2Proof.Machine.execCall s
  | .incidentUpdate => Sys2Proof.Machine.execIncidentUpdate s
  | .incidentDeadlineExpiry incident => Sys2Proof.Machine.execIncidentDeadlineExpiry incident s
  | .isolate => Sys2Proof.Machine.execIsolate s
  | .traceCompletion => Sys2Proof.Machine.execTraceCompletion s
  | .recomputeCompletion => Sys2Proof.Machine.execRecomputeCompletion s
  | .authorise => Sys2Proof.Machine.execAuthorise s
  | .cancel => Sys2Proof.Machine.execCancel s
  | .accept => Sys2Proof.Machine.execAccept s
  | .isolationRelease => Sys2Proof.Machine.execIsolationRelease s
  | .isolationRead => Sys2Proof.Machine.execIsolationRead s
  | .verifyTimerExpiry slot => Sys2Proof.Machine.execVerifyTimerExpiry slot s
  | .valveReportAccept => Sys2Proof.Machine.execValveReportAccept s
  | .valveReportOperated => Sys2Proof.Machine.execValveReportOperated s
  | .valveReportCannotOperate => Sys2Proof.Machine.execValveReportCannotOperate s
  | .valveReportFound => Sys2Proof.Machine.execValveReportFound s
  | .orderOverdue order => Sys2Proof.Machine.execOrderOverdue order s
  | .restore => Sys2Proof.Machine.execRestore s
  | .rampStartTimerExpiry slot => Sys2Proof.Machine.execRampStartTimerExpiry slot s
  | .rampResume => Sys2Proof.Machine.execRampResume s
  | .reclose => Sys2Proof.Machine.execReclose s
  | .relightReport => Sys2Proof.Machine.execRelightReport s
  | .closeOut => Sys2Proof.Machine.execCloseOut s
  | .outageRelease => Sys2Proof.Machine.execOutageRelease s
  | .weightsSet => Sys2Proof.Machine.execWeightsSet s
  | .list => Sys2Proof.Machine.execList s
  | .status => Sys2Proof.Machine.execStatus s
  | .rightsSet => Sys2Proof.Machine.execRightsSet s
  | .noticeMask => Sys2Proof.Machine.execNoticeMask s
  | .timeSet => Sys2Proof.Machine.execTimeSet s
  | .settingsSet => Sys2Proof.Machine.execSettingsSet s
  | .settingsRead => Sys2Proof.Machine.execSettingsRead s
  | .resetOperations => Sys2Proof.Machine.execResetOperations s
  | .resetLink => Sys2Proof.Machine.execResetLink s
  | .lineReturnsHigh => Sys2Proof.Machine.execLineReturnsHigh s

end Sys2Proof.Machine
end

