-- ==== Sys2Proof/Safety.lean ====
section
/-! DEFINITION. The terms the statements are written in: the current request and the rights behind it, the state an
event and an answered request leave, and the invariants of the part. -/

namespace Sys2Proof

/-- A command that is a request's row (R217): the owner's step on the current request. -/
def Instr.isRequest : Instr → Bool
  | .powerOn _ | .partTimeTick | .minuteBoundary | .frameReceived _ | .gapAbort | .lineBreak | .requestDispatch
  | .unknownKind | .transmitComplete | .tableCheckComplete | .stalenessExpiry _ | .incidentDeadlineExpiry _
  | .traceCompletion | .recomputeCompletion | .verifyTimerExpiry _ | .orderOverdue _ | .rampStartTimerExpiry _
  | .lineReturnsHigh => false
  | .editBeginLinks | .editBeginFull | .editEnd | .editRevoke | .tableBegin | .tableBlock | .linkEditCreate
  | .linkEditChange | .linkEditRemove | .nodeEditCreate | .nodeEditChange | .nodeEditRemove | .tagSet | .tagClear
  | .locatorSet | .stationSetDefine | .stationSetRemove | .stationRead | .stationReadClear | .telemetry | .call
  | .incidentUpdate | .isolate | .authorise | .cancel | .accept | .isolationRelease | .isolationRead
  | .valveReportAccept | .valveReportOperated | .valveReportCannotOperate | .valveReportFound | .restore
  | .rampResume | .reclose | .relightReport | .closeOut | .outageRelease | .weightsSet | .list | .status
  | .rightsSet | .noticeMask | .timeSet | .settingsSet | .settingsRead | .resetOperations | .resetLink => true

end Sys2Proof

namespace Sys2Proof.Machine

/-! ## Requests and events -/

/-- `f` is the current request, handed to its owner, and of a kind (R200). -/
abbrev State.handles (s : State) (f : Frame) (kind : Nat) : Prop :=
  s.link.handling = true ∧ s.link.inbound.head? = some f ∧ f.kind = kind

/-- The origin of a request holds a right (R210). -/
abbrev State.allows (s : State) (f : Frame) (r : Right) : Prop := (s.req f).rights.has r = true

/-- What an event leaves that brings the blocks to `p` and queues `ns`: the end of the event (`Ev.settle`), and the
notices at the notice queue in their order (R202). -/
def State.after (s : State) (p : Plant) (ns : List Notice) : State :=
  let e := Ev.settle (Ev.start p s.link.partTime ns)
  { s with plant := e.p, link := e.out.foldl ControlLink.queue s.link }

/-- What a request leaves that brings the blocks to `p`, queues `ns` and is answered `r` (R200, R201). -/
def State.answered (s : State) (f : Frame) (p : Plant) (ns : List Notice) (r : Reply) : State :=
  let t := s.after p ns
  { t with link := t.link.finish f r }

/-- What a request leaves that only the Control Link takes part in: its registers, then the reply (R200, R201). -/
def State.replied (s : State) (f : Frame) (l : ControlLink) (r : Reply) : State := { s with link := l.finish f r }

/-- A notice as an event at the present part time queues it (R202). -/
abbrev State.notice (s : State) (kind : NoticeKind) (object : Nat) (detail : List Byte) : Notice :=
  ⟨kind, object, detail, s.link.partTime⟩

/-- No link waits in a to-issue list (R141), so the end of an event issues no order. -/
abbrev Plant.noneToIssue (p : Plant) : Prop := p.ctl.isos.all (fun x => x.2.toIssue.isEmpty) = true

/-- Nothing is due at the present second: no minute boundary, staleness deadline, incident deadline, verify timer, overdue
timer or ramp start timer has been reached and not taken (R212). -/
abbrev State.nothingDue (s : State) : Prop :=
  s.link.boundaryDue = false
    ∧ s.plant.mon.stations.all (fun x => !x.2.rt.deadline.any (· ≤ s.link.partTime)) = true
    ∧ s.plant.reg.table.all (fun x => !(x.2.timed && x.2.deadline ≤ s.link.partTime)) = true
    ∧ s.plant.ctl.isos.all (fun x => !x.2.verifyTimer.any (· ≤ s.link.partTime)) = true
    ∧ s.plant.ctl.orders.all (fun x => !(x.2.state = .issued && !x.2.overdue && x.2.expiry ≤ s.link.partTime)) = true
    ∧ s.plant.ctl.isos.all (fun x => !(x.2.ramp.bind (·.startTimer)).any (· ≤ s.link.partTime)) = true

/-- One record for a key, keys ascending, in the tables of pipes, valves and regulators, isolations, orders, incidents and outage
records: what `Plant.TablesInv` says of their form. -/
abbrev Plant.keyed (p : Plant) : Prop :=
  tableWf p.net.pipes ∧ tableWf p.net.controls ∧ tableWf p.ctl.isos ∧ tableWf p.ctl.orders ∧ tableWf p.reg.table
    ∧ tableWf p.led.records

/-- Gas gets from one node to another over a link as it stands: over a pipe and an open valve both ways, over an open
regulator from its inlet, end A, to its outlet, end B (R38). -/
def Edge.carries (x : Edge) (a b : Nat) : Prop :=
  ((x.kind = .pipe ∨ (x.kind = .valve ∧ x.isOpen = true)) ∧ ((x.endA = a ∧ x.endB = b) ∨ (x.endA = b ∧ x.endB = a)))
    ∨ (x.kind = .regulator ∧ x.isOpen = true ∧ x.endA = a ∧ x.endB = b)

/-- An isolation is given back to the Trace Engine: its trace runs, or its entry waits (R28, R31). -/
def State.awaitsTrace (t : State) (r : IsoRef) : Prop :=
  t.plant.trace.running.any (fun j => j.tracesSlot r.slot) = true ∨ r ∈ t.plant.trace.fifo ∨ r ∈ t.plant.trace.deferred

/-- What R150 leaves of the orders, the to-issue lists and the isolations when a link becomes unworkable: `t` after `s`. -/
structure State.LeftUnworkable (s t : State) (link : Nat) (cause : FinishCause) : Prop where
  /-- No entry for the link is in any to-issue list (R141). -/
  entries : ∀ k j, tget t.plant.ctl.isos k = some j → ∀ x ∈ j.toIssue, x.link ≠ link
  /-- The link has no outstanding order any more. -/
  order : ∀ c id o, tget s.plant.net.controls link = some c → c.order = some id → tget s.plant.ctl.orders id = some o →
    o.link = link → (tget t.plant.net.controls link).bind (·.order) = none
  /-- Its order is FAILED with the cause, where no order of the event can take a record's place: with at most one
  isolation in CLOSING and nothing to issue. -/
  failed : ∀ c id o, tget s.plant.net.controls link = some c → c.order = some id → tget s.plant.ctl.orders id = some o →
    s.plant.noneToIssue → (s.plant.ctl.isos.filter fun x => x.2.state = .closing).length ≤ 1 →
    tget t.plant.ctl.orders id
      = some { o with state := .failed, finishTime := some s.link.partTime, cause := some cause }
  /-- Each isolation in CLOSING that holds the link under a CLOSE order, or waits to issue one for it, is sent back to
  planning: it keeps the holds on its CLOSED members, its list is empty, and its trace is requested (R124). -/
  closers : ∀ c k i, tget s.plant.net.controls link = some c → c.position = .opened → tget s.plant.ctl.isos k = some i →
    i.state = .closing →
    ((link ∈ i.holds ∧ ∃ id o, c.order = some id ∧ tget s.plant.ctl.orders id = some o ∧ o.action = .close)
      ∨ ∃ x ∈ i.toIssue, x.link = link ∧ x.action = .close) →
    ∃ j, tget t.plant.ctl.isos k = some j ∧ j.state = .planning ∧ j.carry = some (i.authoriser.getD i.requester)
      ∧ j.holds = i.holds.filter (fun l => (tget s.plant.net.controls l).any fun d => d.position = .closed)
      ∧ j.toIssue = [] ∧ j.result = .none ∧ j.plan = i.plan ∧ j.authTime = i.authTime ∧ j.outage = i.outage
      ∧ t.awaitsTrace ⟨k, i.serial⟩
  /-- An isolation in another state keeps its state and its holds. -/
  others : ∀ k i, tget s.plant.ctl.isos k = some i → i.state ≠ .closing →
    ∃ j, tget t.plant.ctl.isos k = some j ∧ j.state = i.state ∧ j.holds = i.holds

/-! ## The invariant of the Control Link -/

/-- The receiver holds no more bytes than its state can (R198). -/
def Receiver.bounded : Receiver → Prop
  | .hunting => True
  | .header got => got.length ≤ 1
  | .body len got => len ≤ Config.maxPayload ∧ got.length < len + 5

/-- What holds of the Control Link after every command (10_the_control_link.md). -/
structure ControlLink.Inv (l : ControlLink) : Prop where
  /-- The receiver is in one of its three states, with no more bytes than it takes (R198). -/
  receiver : l.receiver.bounded
  /-- The inbound queue holds at most 16 frames (R200). -/
  inbound : l.inbound.length ≤ Config.inboundFrames
  /-- Every frame queued passed admission: its origin is 0 to 7 and its payload 0 to 1016 bytes (R197, R199). -/
  admitted : ∀ f ∈ l.inbound, f.origin ≤ 7 ∧ f.payload.length ≤ Config.maxPayload
  /-- A request that is handled is at the head of the queue (R200). -/
  current : l.handling = true → l.inbound ≠ []
  /-- The reply buffer holds at most 8, one place kept for the request that is handled (R201). -/
  replies : l.replies.length + l.handling.toNat ≤ Config.replyBuffer
  /-- The notice queue holds at most 64 (R202). -/
  notices : l.notices.length ≤ Config.noticeQueue
  /-- The transmitter is idle only while no reply and no notice waits (R205). -/
  idle : l.sending = none → l.replies = [] ∧ l.notices = []
  /-- The resync condition is set only while fewer than 16 entries of the notice queue are free; what it carries is 1 to
  65535 (R203). -/
  resync : ∀ r, l.resync = some r → Config.noticeQueue - l.notices.length < Config.resyncFree ∧ 1 ≤ r.dropped ∧ r.dropped ≤ 65535
  /-- RESYNC is always enabled (R204). -/
  mask : l.enables .resync = true
  /-- There are eight origins, and some origin has the SUPERVISE right (R210). -/
  rights : l.rights.length = 8 ∧ l.rights.any (·.supervise) = true
  /-- There are eight refusal records (R211). -/
  refusals : l.refusals.length = 8
  /-- Part time is a 32-bit count, and the clock ends only at its last value (R212). -/
  clock : l.partTime ≤ max32 ∧ (l.clockEnded = true → l.partTime = max32)
  /-- A minute boundary is due only at a multiple of 60 (R188, R212). -/
  boundary : l.boundaryDue = true → l.partTime % 60 = 0

/-! ## The invariants of the blocks -/

/-- Every table has one record for a key, keys ascending, and every key is an id of its kind (0.7 of 00_scope.md). -/
structure Plant.TablesInv (p : Plant) : Prop where
  nodes : tableWf p.net.nodes ∧ ∀ k ∈ tkeys p.net.nodes, k ≤ Config.maxNode
  links : tableWf p.net.links ∧ ∀ k ∈ tkeys p.net.links, k ≤ Config.maxLink
  pipes : tableWf p.net.pipes
  controls : tableWf p.net.controls
  tags : tableWf p.net.tags ∧ ∀ k ∈ tkeys p.net.tags, k < Config.tagSlots
  /-- The locator lists no entry that has its power-on value (R24). -/
  locator : tableWf p.net.locator ∧ (∀ k ∈ tkeys p.net.locator, k < Config.locatorEntries)
    ∧ ∀ x ∈ p.net.locator, x.2 ≠ {}
  stations : tableWf p.mon.stations ∧ ∀ k ∈ tkeys p.mon.stations, k ≤ Config.maxStation
  incidents : tableWf p.reg.table ∧ ∀ k ∈ tkeys p.reg.table, k < Config.incidentSlots
  isolations : tableWf p.ctl.isos ∧ ∀ k ∈ tkeys p.ctl.isos, k < Config.isolationSlots
  orders : tableWf p.ctl.orders
  records : tableWf p.led.records ∧ ∀ k ∈ tkeys p.led.records, k < Config.outageSlots

/-- Every count, setting and accumulator that a rule bounds is within its bounds. -/
structure Plant.LimitsInv (p : Plant) : Prop where
  /-- The generation stays at 4,294,967,295 (R8). -/
  generation : p.net.generation ≤ max32
  /-- The trace FIFO holds at most 8 entries (R28). -/
  fifo : p.trace.fifo.length ≤ Config.traceFifo
  /-- The trace limit is 1 to 1024 (R52). -/
  limit : 1 ≤ p.trace.limit ∧ p.trace.limit ≤ 1024
  /-- The tier-low threshold is 1 to 512 (R81). -/
  threshold : 1 ≤ p.mon.threshold ∧ p.mon.threshold ≤ 512
  /-- The response times are in order (R108). -/
  response : 60 ≤ p.reg.response1 ∧ p.reg.response1 ≤ p.reg.response2 ∧ p.reg.response2 ≤ p.reg.response3
    ∧ p.reg.response3 ≤ 604800
  /-- The verify time and the order-accept time are 60 to 14400 (R136). -/
  times : (60 ≤ p.ctl.verifyTime ∧ p.ctl.verifyTime ≤ 14400) ∧ 60 ≤ p.ctl.acceptTime ∧ p.ctl.acceptTime ≤ 14400
  /-- Each class weight is 0 to 255 (R190). -/
  weights : p.led.weights.p ≤ 255 ∧ p.led.weights.c ≤ 255 ∧ p.led.weights.d ≤ 255
  /-- Every station's record is in range, with its limits in order (R54, R56); its trend ring holds at most 8 pairs (R68). -/
  stations : ∀ x ∈ p.mon.stations, x.2.cfg.inRange = true ∧ x.2.rt.ring.length ≤ 8
  /-- The call count stays at 65535, and at most 16 calls are listed (R82, R95). -/
  calls : ∀ x ∈ p.reg.table, x.2.calls ≤ 65535 ∧ x.2.refs.length ≤ Config.callRefs
  /-- The accumulators stay at 2^40 − 1 (R189). -/
  accumulators : ∀ x ∈ p.led.records, x.2.weighted ≤ max40 ∧ x.2.service ≤ max40

/-- An idle Trace Engine has no job to take: its FIFO is empty, and no recompute is pending while the network is ACTIVE
(R30). -/
def Plant.EngineInv (p : Plant) : Prop :=
  p.trace.running = none → p.trace.fifo = [] ∧ ¬(p.trace.pendingRecompute = true ∧ p.net.state = .active)

end Sys2Proof.Machine
end

