-- ==== Sys2Proof/Certificates/Slice0/Obligations.lean ====
section
/-! DEFINITION. The statements for the provers. `Machine.exec`, `Machine.step` and the named reads of the state are the
model's; every value a rule gives is written out. Where chapter 11 gives no layout, the bytes of a request are the model's
by log entry [13] and those of a reply by [14], and the widths R216 does not name are [55] and [56]. -/

open Sys2Proof Sys2Proof.Machine

/-! ## The queue of commands, power-on and the clock -/

/-- The command at the front runs on the state with the queue's rest. On an empty queue the part idles: the model's
choice, log entry [2]. -/
def Obligations.StepRunsFrontCommand : Prop :=
  (∀ (s : State) (c : Instr) (rest : List Instr),
      s.pending = c :: rest → step s = exec c { s with pending := rest })
  ∧ ∀ s : State, s.pending = [] → step s = .next s

/-- What power-on leaves, value by value (section 10.13 and each chapter's table of values). The line rate is left
out: the strap at reset is the model's choice, log entry [3]. That the receive line is high and the transmitter idle
is the model's choice, log entry [53]. POWER_ON from any state: the blocks and the link at
their power-on values, the rate from the strap, low 115200 and high 921600 bit/s (R196). That the commands that
wait and the count of drawn free values stay is the model's choice, log entries [1] and [27]. -/
def Obligations.PowerOnValues : Prop :=
  (let l := State.reset.link
   let p := State.reset.plant
   (l.receiver = .hunting ∧ l.lineLow = false ∧ l.inbound = [] ∧ l.handling = false ∧ l.replies = [] ∧ l.notices = []
     ∧ l.sending = none ∧ l.resync = none ∧ (∀ k : NoticeKind, l.enables k = true)
     ∧ l.counters = ⟨0, 0, 0, 0, 0, 0, 0, 0, 0⟩
     ∧ l.rights[0]? = some ⟨true, true, true, true, true⟩
     ∧ (∀ o : Fin 7, l.rights[o.val + 1]? = some ⟨true, true, false, false, false⟩) ∧ l.rights.length = 8
     ∧ l.refusals = List.replicate 8 ⟨0, none⟩
     ∧ l.partTime = 0 ∧ l.wallOffset = 0)
   ∧ (p.net.state = .unloaded ∧ p.net.generation = 0 ∧ p.net.grant = none ∧ p.net.load = none ∧ p.net.nodes = []
     ∧ p.net.links = [] ∧ p.net.pipes = [] ∧ p.net.controls = [] ∧ p.net.tags = []
     ∧ ∀ k, (tget p.net.locator k).getD {} = ⟨16777215, 0, 0⟩)
   ∧ (p.trace.running = none ∧ p.trace.fifo = [] ∧ p.trace.deferred = [] ∧ p.trace.pendingRecompute = false
     ∧ p.trace.applied = 0 ∧ p.trace.limit = 256)
   ∧ (p.mon.stations = [] ∧ p.mon.tierLow = ⟨false, false, false⟩ ∧ p.mon.counters = ⟨0, 0, 0, 0, 0, 0, 0, 0⟩
     ∧ p.mon.threshold = 5 ∧ p.mon.dead = ⟨20, 500, 2000⟩)
   ∧ (p.reg.table = [] ∧ p.reg.serial = 1 ∧ p.reg.mergeWindow = 1800 ∧ p.reg.response1 = 3600
     ∧ p.reg.response2 = 7200 ∧ p.reg.response3 = 86400)
   ∧ (p.ctl.isos = [] ∧ p.ctl.serial = 0 ∧ p.ctl.orders = [] ∧ p.ctl.orderSerial = 1 ∧ p.ctl.verifyTime = 1800
     ∧ p.ctl.acceptTime = 900 ∧ p.ctl.target = ⟨400, 12000, 45000⟩)
   ∧ (p.led.records = [] ∧ p.led.weights = ⟨10, 4, 1⟩))
  ∧ (∀ (strap : Strap) (s : State), ∃ t, exec (.powerOn strap) s = .next t
       ∧ t.link = { State.reset.link with rate := if strap = .low then .r115200 else .r921600 }
       ∧ t.plant = { State.reset.plant with draws := s.plant.draws } ∧ t.pending = s.pending)

/-- PART_TIME_TICK: part time advances by one; at 4,294,967,295 it stays and the clock has ended. A boundary is due at
a multiple of 60 (R212). Where nothing is due at the second that ends, nothing else changes. Once the clock has
ended no timer expires and no minute boundary is taken (R212). -/
def Obligations.TickAdvancesPartTime : Prop :=
  ((∀ s : State, s.link.clockEnded = false → s.link.partTime < 4294967295 →
     ∃ t, exec .partTimeTick s = .next t ∧ t.link.partTime = s.link.partTime + 1 ∧ t.link.clockEnded = false
       ∧ t.link.boundaryDue = decide ((s.link.partTime + 1) % 60 = 0) ∧ t.link.wallOffset = s.link.wallOffset)
   ∧ (∀ s : State, s.link.clockEnded = false → s.link.partTime = 4294967295 →
     ∃ t, exec .partTimeTick s = .next t ∧ t.link.partTime = 4294967295 ∧ t.link.clockEnded = true)
   ∧ (∀ s : State, s.link.clockEnded = true → exec .partTimeTick s = .next s)
   ∧ ∀ s : State, s.link.clockEnded = false → s.link.partTime < 4294967295 → s.nothingDue →
       exec .partTimeTick s
         = .next { s with link := { s.link with
             partTime := s.link.partTime + 1, boundaryDue := decide ((s.link.partTime + 1) % 60 = 0) } })
  ∧ (∀ s : State, s.link.clockEnded = true →
       exec .minuteBoundary s = .next s ∧ (∀ k, exec (.stalenessExpiry k) s = .next s)
       ∧ (∀ k, exec (.incidentDeadlineExpiry k) s = .next s) ∧ (∀ k, exec (.verifyTimerExpiry k) s = .next s)
       ∧ (∀ k, exec (.orderOverdue k) s = .next s) ∧ ∀ k, exec (.rampStartTimerExpiry k) s = .next s)

/-- MINUTE_BOUNDARY: each OPEN record adds the weighted sum and the plain sum of its pending over the classes, up to
2^40 − 1; a CLOSED record accrues nothing (R188, R189). Peaks follow R180; pipes, stations and incidents stay. -/
def Obligations.MinuteBoundaryAccrues : Prop :=
  ∀ s : State, s.link.boundaryDue = true → s.link.clockEnded = false →
    ∃ t, exec .minuteBoundary s = .next t ∧ t.link.boundaryDue = false ∧ t.link.partTime = s.link.partTime
      ∧ (∀ k, tget t.plant.led.records k = (tget s.plant.led.records k).map fun o =>
          let pd := recordPending s.plant.net.pipes k
          let w := s.plant.led.weights
          { o with
            peak := o.peak.most pd
            weighted := if o.state = .opened
              then min 1099511627775 (o.weighted + (w.p * pd.p + w.c * pd.c + w.d * pd.d)) else o.weighted
            service := if o.state = .opened
              then min 1099511627775 (o.service + (pd.p + pd.c + pd.d)) else o.service })
      ∧ t.plant.led.weights = s.plant.led.weights ∧ t.plant.net.pipes = s.plant.net.pipes
      ∧ t.plant.mon = s.plant.mon ∧ t.plant.reg = s.plant.reg

/-! ## The receiver and admission -/

/-- A request frame of any kind, tag, origin 0 to 7 and payload of 0 to 1016 bytes, laid out by R197 and received in
HUNTING, joins the tail of an inbound queue with room; the good-frame counter goes up by one and nothing else
changes (R198, R199). -/
def Obligations.FrameRoundTrip : Prop :=
  ∀ (s : State) (kind : Nat) (tag : Byte) (origin : Nat) (payload : List Byte),
    s.link.lineLow = false → s.link.receiver = .hunting → kind < 256 → origin ≤ 7 → payload.length ≤ 1016 →
    s.link.inbound.length < 16 →
    exec (.frameReceived ((frameBytes kind tag origin payload).map .byte)) s
      = .next { s with link := { s.link with
          inbound := s.link.inbound ++ [⟨kind, tag, origin, payload⟩]
          counters := { s.link.counters with good := s.link.counters.good + 1 } } }

/-- A frame whose CRC does not match is discarded with the CRC-error counter alone. A good frame of an origin above 7
is answered BAD_ORIGIN, one that finds 16 frames queued BUSY, each at once where the reply buffer has a place for
it, and counted as a dropped reply where it has none; a BUSY is recorded for its origin either way (R198, R199,
R201). -/
def Obligations.FramesTurnedAway : Prop :=
  ∀ (s : State) (kind : Nat) (tag : Byte) (origin : Nat) (payload : List Byte),
    s.link.lineLow = false → s.link.receiver = .hunting → kind < 256 → origin < 256 → payload.length ≤ 1016 →
    (∀ c1 c2 : Byte,
      let covered := be 2 payload.length ++ be 1 kind ++ [tag] ++ be 1 origin ++ payload
      beVal [c1, c2] ≠ (crc16 covered).toNat →
      exec (.frameReceived ((0xA5#8 :: covered ++ [c1, c2]).map .byte)) s
        = .next { s with link := { s.link with
            counters := { s.link.counters with crc := s.link.counters.crc + 1 } } })
    ∧ (7 < origin →
      exec (.frameReceived ((frameBytes kind tag origin payload).map .byte)) s
        = .next { s with link :=
            let c := { s.link.counters with good := s.link.counters.good + 1, badOrigin := s.link.counters.badOrigin + 1 }
            if s.link.replies.length + s.link.handling.toNat < 8 then
              ({ s.link with
                counters := c
                replies := s.link.replies ++ [⟨replyKind kind, tag, [0x14]⟩] } : ControlLink).pump
            else { s.link with counters := { c with repliesDropped := s.link.counters.repliesDropped + 1 } } })
    ∧ (origin ≤ 7 → 16 ≤ s.link.inbound.length →
      exec (.frameReceived ((frameBytes kind tag origin payload).map .byte)) s
        = .next { s with link :=
            let c := { s.link.counters with good := s.link.counters.good + 1, busy := s.link.counters.busy + 1 }
            let noted := s.link.refusals.modify origin fun r => ⟨r.count + 1, some .busy⟩
            if s.link.replies.length + s.link.handling.toNat < 8 then
              ({ s.link with
                counters := c, refusals := noted
                replies := s.link.replies ++ [⟨replyKind kind, tag, [0x10]⟩] } : ControlLink).pump
            else
              { s.link with
                counters := { c with repliesDropped := s.link.counters.repliesDropped + 1 }, refusals := noted } })

/-- A length above 1016 is a length error, after which the two length bytes are examined again; a framing error is a
byte 0x00; a gap of 100 ms abandons a frame in HEADER or BODY and does nothing in HUNTING (R198). A line break
discards every frame not passed to its owning block, empties the notice queue, clears the resync condition, leaves
the receiver HUNTING and is counted; until the line returns high no byte is taken, and the return changes nothing
else (R214, R215). That a current request of an unknown kind has no owner and goes is the model's choice, log entry
[33]. -/
def Obligations.ReceiverErrorsAndLineBreak : Prop :=
  ((∀ (s : State) (hi lo : Byte), s.link.lineLow = false → s.link.receiver = .hunting → 1016 < beVal [hi, lo] →
     exec (.frameReceived [.byte 0xA5, .byte hi, .byte lo]) s
       = .next { s with link := { s.link with
           receiver := if hi = 0xA5 then .header [lo] else if lo = 0xA5 then .header [] else .hunting
           counters := { s.link.counters with length := s.link.counters.length + 1 } } })
   ∧ (∀ s : State, exec (.frameReceived [.framingError]) s = exec (.frameReceived [.byte 0]) s)
   ∧ (∀ s : State, s.link.receiver ≠ .hunting →
     exec .gapAbort s = .next { s with link := { s.link with
       receiver := .hunting, counters := { s.link.counters with gaps := s.link.counters.gaps + 1 } } })
   ∧ ∀ s : State, s.link.receiver = .hunting → exec .gapAbort s = .next s)
  ∧ ((∀ s : State, s.link.lineLow = false →
       exec .lineBreak s = .next { s with link :=
         let keep := s.link.handling && (s.link.inbound.head?).any fun f => 1 ≤ f.kind && f.kind ≤ 0x25
         { s.link with
           receiver := .hunting, lineLow := true, notices := [], resync := none
           inbound := if keep then s.link.inbound.take 1 else [], handling := keep
           counters := { s.link.counters with breaks := s.link.counters.breaks + 1 } } })
     ∧ (∀ (s : State) (bs : List LineByte), s.link.lineLow = true → exec (.frameReceived bs) s = .next s)
     ∧ ∀ s : State, exec .lineReturnsHigh s = .next { s with link := { s.link with lineLow := false } })

/-! ## The current request, replies and notices -/

/-- REQUEST_DISPATCH hands the frame at the head over while the reply buffer has room, and none while it is full or a
request is being handled. UNKNOWN_KIND answers a kind outside 0x01 to 0x25 with that code (R200, R201, R217). The
reply of the current request: its kind is the request's with the top bit set (0x80 where that would be a
notice's), its tag the request's, its payload the status code and what follows; the frame leaves the inbound
queue. The reply waits behind those in the buffer, and an idle transmitter takes the oldest. A refusal raises the
origin's count and is its last code, an accepting code leaves the record (R200, R201, R205, R211, R217). -/
def Obligations.DispatchAndReply : Prop :=
  ((∀ s : State, s.link.handling = false → s.link.inbound ≠ [] → s.link.replies.length < 8 →
     exec .requestDispatch s = .next { s with link := { s.link with handling := true } })
   ∧ (∀ s : State, s.link.handling = true ∨ s.link.inbound = [] ∨ 8 ≤ s.link.replies.length →
     exec .requestDispatch s = .next s)
   ∧ (∀ (s : State) (f : Frame), s.handles f f.kind → (f.kind = 0 ∨ 0x25 < f.kind) →
     exec .unknownKind s = .next (s.replied f s.link ⟨.unknownKind, []⟩))
   ∧ ∀ (s : State) (f : Frame), s.handles f f.kind → 1 ≤ f.kind → f.kind ≤ 0x25 → exec .unknownKind s = .next s)
  ∧ (∀ (l : ControlLink) (f : Frame) (r : Reply),
       let kind := if f.kind = 0x70 ∨ f.kind = 0xF0 then 0x80 else f.kind ||| 0x80
       let x : OutFrame := ⟨kind, f.tag, BitVec.ofNat 8 r.status.code :: r.body⟩
       let m := { l with
         inbound := l.inbound.tail, handling := false
         refusals := if 0x10 ≤ r.status.code
           then l.refusals.modify f.origin (fun k => ⟨k.count + 1, some r.status⟩) else l.refusals }
       (l.sending.isSome → l.finish f r = { m with replies := l.replies ++ [x] })
       ∧ (l.sending = none → l.replies = [] → l.finish f r = { m with sending := some x, replies := [] })
       ∧ ∀ a rest, l.sending = none → l.replies = a :: rest →
           l.finish f r = { m with sending := some a, replies := rest ++ [x] })

/-- A notice of a disabled kind is neither queued nor counted; under a set resync condition it is dropped and counted;
a full queue drops it and sets the condition with a count of one and the present part time; else it joins the
tail, or goes out at once from an idle link (R202, R203, R204). That it goes out at once is log entry [12].
TRANSMIT_COMPLETE: the oldest reply is sent next, else the oldest notice, else the transmitter is idle (R205).
When a notice leaves the queue under a set resync condition and 16 or more places are free, RESYNC joins the tail
with the count and the time of the first drop, and the condition clears (R203). -/
def Obligations.NoticesAndTransmitter : Prop :=
  (∀ (l : ControlLink) (n : Notice),
     (l.mask.getLsbD n.kind.code = false → l.queue n = l)
     ∧ (∀ r, l.mask.getLsbD n.kind.code = true → l.resync = some r →
       l.queue n = { l with
         resync := some ⟨min 65535 (r.dropped + 1), r.first⟩
         counters := { l.counters with noticesDropped := l.counters.noticesDropped + 1 } })
     ∧ (l.mask.getLsbD n.kind.code = true → l.resync = none → 64 ≤ l.notices.length →
       l.queue n = { l with
         resync := some ⟨1, l.partTime⟩
         counters := { l.counters with noticesDropped := l.counters.noticesDropped + 1 } })
     ∧ (l.mask.getLsbD n.kind.code = true → l.resync = none → l.notices.length < 64 → l.sending.isSome →
       l.queue n = { l with notices := l.notices ++ [n] })
     ∧ (l.mask.getLsbD n.kind.code = true → l.resync = none → l.sending = none → l.replies = [] → l.notices = [] →
       l.queue n = { l with sending := some n.frame }))
  ∧ (∀ (s : State) (x : OutFrame), s.link.sending = some x →
       (∀ a rest, s.link.replies = a :: rest →
         exec .transmitComplete s = .next { s with link := { s.link with sending := some a, replies := rest } })
       ∧ (∀ n rest, s.link.replies = [] → s.link.notices = n :: rest → s.link.resync = none →
         exec .transmitComplete s = .next { s with link := { s.link with sending := some n.frame, notices := rest } })
       ∧ (∀ n rest r, s.link.replies = [] → s.link.notices = n :: rest → s.link.resync = some r → 16 ≤ 64 - rest.length →
         exec .transmitComplete s = .next { s with link := { s.link with
           sending := some n.frame, resync := none
           notices := rest ++ [⟨.resync, 0, be 2 r.dropped ++ be 4 r.first, s.link.partTime⟩] } })
       ∧ (∀ n rest r, s.link.replies = [] → s.link.notices = n :: rest → s.link.resync = some r → 64 - rest.length < 16 →
         exec .transmitComplete s = .next { s with link := { s.link with sending := some n.frame, notices := rest } })
       ∧ (s.link.replies = [] → s.link.notices = [] →
         exec .transmitComplete s = .next { s with link := { s.link with sending := none } }))

/-! ## Requests of the Control Link -/

/-- RIGHTS_SET replaces the rights of one origin and answers the set as it stood; without SUPERVISE it is refused
NO_RIGHT, and a set that would leave no origin with SUPERVISE, an origin above 7 or a right outside the five
BAD_VALUE, with nothing changed (R210). The bits of the rights byte are log entry [15], the one byte of
its origin [55]. NOTICE_MASK replaces the
flag of every kind but RESYNC, which stays enabled, and answers the mask as it stood; without SUPERVISE it is
refused NO_RIGHT (R204, R217). TIME_SET replaces the wall offset and answers the part time at which it was taken;
without SUPERVISE it is refused NO_RIGHT. SETTINGS_READ answers the values of a known group to any origin and
refuses an unknown one BAD_VALUE (R212, R213). The model's choices in it: the layouts are log entries [13] and [14], the
width of a duration [56]. -/
def Obligations.LinkSettingRequests : Prop :=
  ((∀ (s : State) (f : Frame) (b : Byte), s.handles f 0x20 → f.payload.length = 2 → f.payload[1]? = some b →
      let who := field f.payload 0 1
      let r : Rights := ⟨b.getLsbD 0, b.getLsbD 1, b.getLsbD 2, b.getLsbD 3, b.getLsbD 4⟩
      let new := s.link.rights.set who r
      (¬ s.allows f .supervise → exec .rightsSet s = .next (s.replied f s.link ⟨.noRight, []⟩))
      ∧ (s.allows f .supervise → (7 < who ∨ 32 ≤ b.toNat ∨ new.any (·.supervise) = false) →
        exec .rightsSet s = .next (s.replied f s.link ⟨.badValue, []⟩))
      ∧ ∀ old : Rights, s.allows f .supervise → who ≤ 7 → b.toNat < 32 → new.any (·.supervise) = true →
          s.link.rights[who]? = some old →
          exec .rightsSet s = .next (s.replied f { s.link with rights := new } ⟨.ok, [BitVec.ofNat 8 old.code]⟩))
   ∧ (∀ (s : State) (f : Frame), s.handles f 0x21 → f.payload.length = 4 →
        (¬ s.allows f .supervise → exec .noticeMask s = .next (s.replied f s.link ⟨.noRight, []⟩))
        ∧ (s.allows f .supervise →
          ∃ m : BitVec 32, exec .noticeMask s = .next (s.replied f { s.link with mask := m } ⟨.ok, be 4 s.link.mask.toNat⟩)
            ∧ (∀ k : NoticeKind, k ≠ .resync → m.getLsbD k.code = (field f.payload 0 4).testBit k.code)
            ∧ m.getLsbD 19 = true)))
  ∧ ((∀ (s : State) (f : Frame), s.handles f 0x22 → f.payload.length = 8 →
       (¬ s.allows f .supervise → exec .timeSet s = .next (s.replied f s.link ⟨.noRight, []⟩))
       ∧ (s.allows f .supervise →
         exec .timeSet s = .next (s.replied f
           { s.link with wallOffset := BitVec.ofNat 64 (field f.payload 0 8) } ⟨.ok, be 4 s.link.partTime⟩)))
     ∧ ∀ (s : State) (f : Frame), s.handles f 0x24 → f.payload.length = 1 →
         let p := s.plant
         let r : Reply :=
           match field f.payload 0 1 with
           | 0 => ⟨.ok, be 2 p.trace.limit⟩
           | 1 => ⟨.ok, be 2 p.mon.threshold ++ bePu p.mon.dead.lp ++ bePu p.mon.dead.mp ++ bePu p.mon.dead.ip⟩
           | 2 => ⟨.ok, be 2 p.reg.mergeWindow ++ be 4 p.reg.response1 ++ be 4 p.reg.response2 ++ be 4 p.reg.response3⟩
           | 3 => ⟨.ok, be 2 p.ctl.verifyTime ++ be 2 p.ctl.acceptTime ++ bePu p.ctl.target.lp ++ bePu p.ctl.target.mp
               ++ bePu p.ctl.target.ip⟩
           | _ => ⟨.badValue, []⟩
         exec .settingsRead s = .next (s.replied f s.link r))

/-- SETTINGS_SET: a group in range replaces every value of the group together and answers the group as it stood; a
value out of range, values in the wrong relation, an unknown group or a wrong length leave every group, and so does a
request without SUPERVISE (R213, R52, R81, R108, R136). New station settings apply the tier-low test of each tier at
once (R74). The model's choices in it: the layout of a group is log entries [13] and [14], the width of a duration
[56]. -/
def Obligations.SettingsSetReplacesGroup : Prop :=
  (∀ (s : State) (f : Frame), s.handles f 0x23 → ¬ s.allows f .supervise →
    exec .settingsSet s = .next (s.answered f s.plant [] ⟨.noRight, []⟩))
  ∧ ∀ (s : State) (f : Frame), s.handles f 0x23 → s.allows f .supervise →
    let p := f.payload
    let q := s.plant
    (p.length = 3 → field p 0 1 = 0 → 1 ≤ field p 1 2 → field p 1 2 ≤ 1024 →
      exec .settingsSet s = .next (s.answered f
        { q with trace := { q.trace with limit := field p 1 2 } } [] ⟨.ok, be 2 q.trace.limit⟩))
    ∧ (p.length = 15 → field p 0 1 = 2 → 60 ≤ field p 1 2 → field p 1 2 ≤ 7200 → 60 ≤ field p 3 4 →
      field p 3 4 ≤ field p 7 4 → field p 7 4 ≤ field p 11 4 → field p 11 4 ≤ 604800 →
      exec .settingsSet s = .next (s.answered f
        { q with reg := { q.reg with
            mergeWindow := field p 1 2, response1 := field p 3 4, response2 := field p 7 4, response3 := field p 11 4 } } []
        ⟨.ok, be 2 q.reg.mergeWindow ++ be 4 q.reg.response1 ++ be 4 q.reg.response2 ++ be 4 q.reg.response3⟩))
    ∧ (p.length = 14 → field p 0 1 = 3 → 60 ≤ field p 1 2 → field p 1 2 ≤ 14400 → 60 ≤ field p 3 2 →
      field p 3 2 ≤ 14400 →
      (∀ n ∈ [5, 8, 11], -1000 ≤ puField p n ∧ puField p n ≤ 100000) →
      exec .settingsSet s = .next (s.answered f
        { q with ctl := { q.ctl with
            verifyTime := field p 1 2, acceptTime := field p 3 2, target := ⟨puField p 5, puField p 8, puField p 11⟩ } } []
        ⟨.ok, be 2 q.ctl.verifyTime ++ be 2 q.ctl.acceptTime ++ bePu q.ctl.target.lp ++ bePu q.ctl.target.mp
          ++ bePu q.ctl.target.ip⟩))
    ∧ (p.length = 12 → field p 0 1 = 1 → 1 ≤ field p 1 2 → field p 1 2 ≤ 512 →
      (∀ n ∈ [3, 6, 9], -1000 ≤ puField p n ∧ puField p n ≤ 100000) →
      ∃ t, exec .settingsSet s = .next t ∧ t.plant.mon.threshold = field p 1 2
        ∧ t.plant.mon.dead = ⟨puField p 3, puField p 6, puField p 9⟩
        ∧ (∀ x : Tier, t.plant.mon.tierLow.at x = tierLowOf (q.mon.tierLow.at x) (q.mon.lowCount x) (field p 1 2))
        ∧ t.plant.mon.stations = q.mon.stations ∧ t.plant.net.nodes = q.net.nodes ∧ t.plant.net.pipes = q.net.pipes)
    ∧ (4 ≤ field p 0 1 → 1 ≤ p.length → exec .settingsSet s = .next (s.answered f q [] ⟨.badValue, []⟩))
    ∧ (∀ x ∈ [(0, 3), (1, 12), (2, 15), (3, 14)], field p 0 1 = x.1 → p.length ≠ x.2 →
      exec .settingsSet s = .next (s.answered f q [] ⟨.badLength, []⟩))
    ∧ ((p.length = 3 ∧ field p 0 1 = 0 ∧ (field p 1 2 = 0 ∨ 1024 < field p 1 2))
        ∨ (p.length = 12 ∧ field p 0 1 = 1 ∧ (field p 1 2 = 0 ∨ 512 < field p 1 2
          ∨ ∃ n ∈ [3, 6, 9], puField p n < -1000 ∨ 100000 < puField p n))
        ∨ (p.length = 15 ∧ field p 0 1 = 2 ∧ (field p 1 2 < 60 ∨ 7200 < field p 1 2 ∨ field p 3 4 < 60
          ∨ field p 7 4 < field p 3 4 ∨ field p 11 4 < field p 7 4 ∨ 604800 < field p 11 4))
        ∨ (p.length = 14 ∧ field p 0 1 = 3 ∧ (field p 1 2 < 60 ∨ 14400 < field p 1 2 ∨ field p 3 2 < 60
          ∨ 14400 < field p 3 2 ∨ ∃ n ∈ [5, 8, 11], puField p n < -1000 ∨ 100000 < puField p n)) →
      exec .settingsSet s = .next (s.answered f q [] ⟨.badValue, []⟩))

/-- What one LIST reply holds of the records of a collection from its start key on: it returns the first of them in
their order, as many as were asked for, as there are, or as fit, whichever is least; it tells what is left of the
number asked, and names the next key exactly when a record is left (R206, R222). -/
def Obligations.ListReturnsRecordsInOrder : Prop :=
  ∀ (coll n : Nat) (rs : List (Nat × List Byte)), (∀ x ∈ rs, x.2.length ≤ 1005) →
    ∃ k, k ≤ n ∧ k ≤ rs.length
      ∧ listFrom coll n rs
        = ⟨.ok, be 1 coll ++ beFlag (rs[k]?).isSome ++ be 2 k ++ be 2 (n - k) ++ be 2 (((rs[k]?).map (·.1)).getD 0)
            ++ (rs.take k).flatMap fun x => be 2 x.2.length ++ x.2⟩
      ∧ ((rs.take k).map fun x => x.2.length + 2).sum ≤ 1007
      ∧ (k = n ∨ k = rs.length ∨ 1007 < ((rs.take (k + 1)).map fun x => x.2.length + 2).sum)
      ∧ (0 < n → rs ≠ [] → 0 < k)

/-- LIST changes nothing but the link's queues: it answers its collection from the start key, NOT_FOUND for a start
key other than 0 that no record has, BAD_VALUE for an unknown collection (R206). STATUS answers its report and clears
the caller's refusal record alone (R208, R211). RESET LINK: of the inbound queue only the RESET stays, to be answered;
the notice queue is emptied, the resync condition cleared, the receiver HUNTING; replies already formed, rights,
records, mask, counters, part time and every block stay (R214). The report and the records are the model's own bytes,
log entries [14], [15], [34], [45], [48], [55] and [56]; the layout of the request of LIST is [13]. -/
def Obligations.ListStatusAndResetLink : Prop :=
  ((∀ (s : State) (f : Frame), s.handles f 0x1E → f.payload.length = 5 →
     let coll := field f.payload 0 1
     let start := field f.payload 1 2
     let n := field f.payload 3 2
     (s.plant.collection coll = none → exec .list s = .next (s.replied f s.link ⟨.badValue, []⟩))
     ∧ ∀ rs, s.plant.collection coll = some rs →
       (start = 0 → exec .list s = .next (s.replied f s.link (listFrom coll n rs)))
       ∧ (start ≠ 0 → (∀ x ∈ rs, x.1 ≠ start) → exec .list s = .next (s.replied f s.link ⟨.notFound, []⟩))
       ∧ ∀ lower x upper, start ≠ 0 → rs = lower ++ x :: upper → x.1 = start → (∀ y ∈ lower, y.1 < start) →
           exec .list s = .next (s.replied f s.link (listFrom coll n (x :: upper))))
   ∧ ∀ (s : State) (f : Frame), s.handles f 0x1F → f.payload = [] →
       exec .status s = .next (s.replied f
         { s.link with refusals := s.link.refusals.modify f.origin fun _ => ⟨0, none⟩ } ⟨.ok, s.statusBytes f.origin⟩))
  ∧ (∀ (s : State) (f : Frame), s.handles f 0x25 → f.payload = [1] →
       (s.allows f .supervise →
         exec .resetLink s = .next (s.replied f
           { s.link with receiver := .hunting, inbound := [f], notices := [], resync := none } ⟨.ok, []⟩))
       ∧ (¬ s.allows f .supervise → exec .resetLink s = .next (s.replied f s.link ⟨.noRight, []⟩)))

/-- RESET OPERATIONS removes every isolation and incident in any network state. While ACTIVE it also releases every
claim with its supply change, empties the holder lists and order fields, the order table and the Trace Engine,
closes the OPEN records 1 to 63, whose pipes pass to record 0 or lose their owner, bumps the generation and starts
a recompute; tables, tags, locator and stations stay (R26, R50, R107, R137, R155, R191, R214). -/
def Obligations.ResetOperationsRequest : Prop :=
  ∀ (s : State) (f : Frame), s.handles f 0x25 → f.payload = [0] → s.allows f .supervise → s.plant.keyed →
    let n := s.plant.net
    let rec0 : Nat → Option Outage := fun k => tget s.plant.led.records k
    (n.state ≠ .active →
      exec .resetOperations s = .next (s.answered f
        { s.plant with
          ctl := { s.plant.ctl with isos := [] }, reg := { s.plant.reg with table := [] } } [] ⟨.ok, []⟩))
    ∧ (n.state = .active →
      ∃ t, exec .resetOperations s = .next t
        ∧ t.plant.ctl = { s.plant.ctl with isos := [], orders := [] }
        ∧ t.plant.reg = { s.plant.reg with table := [] }
        ∧ t.plant.mon = s.plant.mon
        ∧ (t.plant.net.state = .active ∧ t.plant.net.generation = min 4294967295 (n.generation + 1)
          ∧ t.plant.net.nodes = n.nodes ∧ t.plant.net.links = n.links ∧ t.plant.net.tags = n.tags
          ∧ t.plant.net.locator = n.locator ∧ t.plant.net.grant = n.grant)
        ∧ (∀ k, tget t.plant.net.controls k = (tget n.controls k).map fun c => { c with holders := [], order := none })
        ∧ (∀ k, tget t.plant.net.pipes k = (tget n.pipes k).map fun p =>
            let supply := if p.claim.isSome then p.supply.released else p.supply
            let closing := p.owner.any fun j => j ≠ 0 && (rec0 j).any fun o => o.state = .opened
            { p with
              claim := none, supply := supply
              owner := if closing then
                  (if (supply = .live ∨ supply = .recharging) ∧ p.pending.isZero then none else some 0)
                else p.owner })
        ∧ (∀ k, (tget t.plant.led.records k).map (fun o => (o.state, o.closed)) = (rec0 k).map fun o =>
            if k ≠ 0 ∧ o.state = .opened then (.closed, some s.link.partTime) else (o.state, o.closed))
        ∧ t.plant.trace.fifo = [] ∧ t.plant.trace.deferred = []
        ∧ (∃ views, t.plant.trace.running = some (.recompute (min 4294967295 (n.generation + 1)) [] [] views))
        ∧ t.link.partTime = s.link.partTime ∧ t.link.mask = s.link.mask ∧ t.link.rights = s.link.rights)

/-! ## The Network Store -/

/-- EDIT_BEGIN LINKS gives the grant to the origin of an ACTIVE network's request while no one holds it; EDIT_END by
the holder, and EDIT_REVOKE under SUPERVISE, end a LINKS grant and keep the table, and abandon the load of a FULL
one, with the network back in UNLOADED; while no one holds the grant EDIT_END is WRONG_STATE and EDIT_REVOKE
NOT_FOUND (R9, R10, R11). Each refusal leaves the grant. EDIT_BEGIN FULL, from any state but CHECKING and with no
isolation non- terminal: the network enters LOADING under the origin's FULL grant, the table, its runtime and the
tags go, a running job and a pending recompute are abandoned, the applied generation is 0, the orders go, and from
ACTIVE record 0 closes; the generation, the locator, the stations, the incidents and the isolations stay (R9, R12,
R51, R155, R192). -/
def Obligations.EditGrants : Prop :=
  ((∀ (s : State) (f : Frame), s.handles f 0x01 → f.payload = [0] → s.allows f .edit →
     let n := s.plant.net
     (n.grant = none → n.state = .active →
       exec .editBeginLinks s = .next (s.answered f
         { s.plant with net := { n with grant := some ⟨f.origin, .links⟩ } } [] ⟨.ok, []⟩))
     ∧ (n.grant = none → n.state ≠ .active →
       exec .editBeginLinks s = .next (s.answered f s.plant [] ⟨.notActive, []⟩))
     ∧ (∀ g, n.grant = some g → exec .editBeginLinks s
         = .next (s.answered f s.plant [] ⟨if g.holder = f.origin then .wrongState else .editHeld, []⟩)))
   ∧ (∀ (s : State) (f : Frame), f.payload = [] → s.plant.net.grant = none →
     (s.handles f 0x02 → exec .editEnd s = .next (s.answered f s.plant [] ⟨.wrongState, []⟩))
     ∧ (s.handles f 0x03 → s.allows f .supervise →
       exec .editRevoke s = .next (s.answered f s.plant [] ⟨.notFound, []⟩))
     ∧ (s.handles f 0x03 → ¬ s.allows f .supervise →
       exec .editRevoke s = .next (s.answered f s.plant [] ⟨.noRight, []⟩)))
   ∧ ∀ (s : State) (f : Frame) (g : Grant), f.payload = [] → s.plant.net.grant = some g →
     let n := s.plant.net
     let released : NetworkStore :=
       match g.mode with
       | .links => { n with grant := none }
       | .full => { n with grant := none, state := .unloaded, nodes := [], links := [], load := none }
     (s.handles f 0x02 → g.holder = f.origin →
       exec .editEnd s = .next (s.answered f { s.plant with net := released } [] ⟨.ok, []⟩))
     ∧ (s.handles f 0x02 → g.holder ≠ f.origin →
       exec .editEnd s = .next (s.answered f s.plant [] ⟨.editHeld, []⟩))
     ∧ (s.handles f 0x03 → s.allows f .supervise →
       exec .editRevoke s = .next (s.answered f { s.plant with net := released } [] ⟨.ok, []⟩))
     ∧ (s.handles f 0x03 → ¬ s.allows f .supervise →
       exec .editRevoke s = .next (s.answered f s.plant [] ⟨.noRight, []⟩)))
  ∧ (∀ (s : State) (f : Frame), s.handles f 0x01 → f.payload = [1] → s.allows f .edit → s.plant.net.grant = none →
       s.plant.net.state ≠ .checking →
       (s.plant.net.state = .active → s.plant.ctl.isos.all (fun x => x.2.state.terminal) = true) →
       exec .editBeginFull s = .next (s.answered f
         { s.plant with
           net := { s.plant.net with
             state := .loading, grant := some ⟨f.origin, .full⟩, load := none, nodes := [], links := [], pipes := []
             controls := [], tags := [], checkViews := [] }
           trace := { s.plant.trace with running := none, pendingRecompute := false, applied := 0 }
           ctl := { s.plant.ctl with orders := [] }
           led := if s.plant.net.state = .active
             then { s.plant.led with records := tmod s.plant.led.records 0 fun o =>
               if o.state = .opened then { o with state := .closed, closed := some s.link.partTime } else o }
             else s.plant.led } [] ⟨.ok, []⟩))

/-- TABLE_BEGIN from the holder in LOADING stores the counts with index 0 expected and discards what had been
received; when it expects no record, because N + L is 0 or a count is over capacity, the network enters CHECKING and
the grant is released (R13). TABLE_BLOCK of the expected index: `k` whole records in range, of ids not yet received,
are all stored and the index advances by their number; the last record of the load brings CHECKING and releases the
grant. A block with a record out of range or an id received twice changes nothing, and one from another index is
refused BAD_SEQUENCE (R14, R220). The layout of TABLE_BEGIN is log entry [13]. -/
def Obligations.TableLoad : Prop :=
  (∀ (s : State) (f : Frame) (g : Grant), s.handles f 0x04 → f.payload.length = 4 → s.allows f .edit →
     s.plant.net.state = .loading → s.plant.net.grant = some g →
     let n := field f.payload 0 2
     let l := field f.payload 2 2
     let begun : NetworkStore := { s.plant.net with nodes := [], links := [], load := some ⟨n, l, 0⟩ }
     (g.holder = f.origin → 0 < n + l → n ≤ 4096 → l ≤ 6144 →
       exec .tableBegin s = .next (s.answered f { s.plant with net := begun } [] ⟨.ok, []⟩))
     ∧ (g.holder = f.origin → (n + l = 0 ∨ 4096 < n ∨ 6144 < l) →
       ∃ t, exec .tableBegin s = .next t ∧ t.plant.net.state = .checking ∧ t.plant.net.grant = none
         ∧ t.plant.net.load = some ⟨n, l, 0⟩ ∧ t.plant.net.nodes = [] ∧ t.plant.net.links = []
         ∧ t.plant.net.generation = s.plant.net.generation)
     ∧ (g.holder ≠ f.origin → exec .tableBegin s = .next (s.answered f s.plant [] ⟨.editHeld, []⟩)))
  ∧ (∀ (s : State) (f : Frame) (g : Grant) (l : Load), s.handles f 0x05 → s.allows f .edit → s.plant.net.state = .loading →
       s.plant.net.grant = some g → g.holder = f.origin → s.plant.net.load = some l → 4 ≤ f.payload.length →
       let start := field f.payload 0 2
       let k := field f.payload 2 2
       let rs := blockRecords l.nodes k start (f.payload.drop 4)
       (start ≠ l.expected → exec .tableBlock s = .next (s.answered f s.plant [] ⟨.badSequence, []⟩))
       ∧ (start = l.expected → f.payload.length = blockLength l.nodes start k → 0 < k → start + k ≤ l.nodes + l.links →
         (∀ n, rs.bind s.plant.net.store = some n → start + k < l.nodes + l.links →
           exec .tableBlock s = .next (s.answered f
             { s.plant with net := { n with load := some { l with expected := start + k } } } [] ⟨.ok, []⟩))
         ∧ (∀ n, rs.bind s.plant.net.store = some n → start + k = l.nodes + l.links →
           ∃ t, exec .tableBlock s = .next t ∧ t.plant.net.state = .checking ∧ t.plant.net.grant = none
             ∧ t.plant.net.nodes = n.nodes ∧ t.plant.net.links = n.links
             ∧ t.plant.net.load = some { l with expected := start + k })
         ∧ (rs.bind s.plant.net.store = none →
           exec .tableBlock s = .next (s.answered f s.plant [] ⟨.badValue, []⟩))))

/-- A block that is stored holds every record of it under its id, none of the ids was there before or comes twice, and
no other record and no other part of the store changes (R14). -/
def Obligations.BlockStoresEveryRecord : Prop :=
  ∀ (n n' : NetworkStore) (rs : List BlockRecord), n.store rs = some n' →
    (∀ id x, .node id x ∈ rs → tget n.nodes id = none ∧ tget n'.nodes id = some x)
    ∧ (∀ id l, .link id l ∈ rs → tget n.links id = none ∧ tget n'.links id = some l)
    ∧ (∀ id, (∀ x, .node id x ∉ rs) → tget n'.nodes id = tget n.nodes id)
    ∧ (∀ id, (∀ l, .link id l ∉ rs) → tget n'.links id = tget n.links id)
    ∧ rs.Nodup
    ∧ n' = { n with nodes := n'.nodes, links := n'.links }

/-- TABLE_CHECK_COMPLETE. A check in which nothing fails activates the table: ACTIVE, generation 1, every pipe DEAD,
NEW and free, every valve and regulator at its normal position with no holder and no order, every fed flag clear,
record 0 OPEN, and a recompute asked for. One in which an item fails leaves CHECK_FAILED, with the generation, the
records and the ledger as they were. Either way notice TABLE_CHECK tells the result (R15, R16, R17, R176). -/
def Obligations.TableCheckResult : Prop :=
  ∀ s : State, s.plant.net.state = .checking → s.plant.net.checkViews.length < 2 →
    let n := s.plant.net
    let found := n.check s.plant.mon.bindings n.locator
    let zero : Outage := { iso := none, state := .opened, opened := s.link.partTime }
    (found = none →
      exec .tableCheckComplete s = .next (s.after
        { s.plant with
          net := { n with
            state := .active, generation := 1, checkViews := []
            nodes := n.nodes.map fun x => (x.1, { x.2 with fed := false })
            pipes := n.links.filterMap fun x =>
              if x.2.kind = .pipe then some (x.1, ⟨.dead, true, none, ⟨0, 0, 0⟩, none, false⟩) else none
            controls := n.links.filterMap fun x => x.2.normal?.map fun pos => (x.1, ⟨pos, [], none⟩) }
          led := { s.plant.led with records := tset s.plant.led.records 0 zero }
          trace := { s.plant.trace with pendingRecompute := true } }
        [s.notice .tableCheck 0xFFFF [0, 0, 0]]))
    ∧ ∀ x : CheckFail, found = some x →
      exec .tableCheckComplete s = .next (s.after
        { s.plant with net := { n with state := .checkFailed, checkViews := [] } }
        [s.notice .tableCheck (x.object.getD 0xFFFF) [1, BitVec.ofNat 8 x.item, BitVec.ofNat 8 x.reason.code]])

/-- What the table check finds: nothing exactly when the counts are within capacity, every link's ends exist and
differ and their tiers suit it, some node is a source, every bound node exists and every active locator entry
targets a pipe; over capacity is found first (R15). -/
def Obligations.TableCheckPassesExactlySoundTables : Prop :=
  ∀ (n : NetworkStore) (b : Table Nat) (loc : Table LocatorEntry) (l : Load), n.load = some l →
    (n.check b loc = none ↔
      (l.nodes ≤ 4096 ∧ l.links ≤ 6144)
      ∧ (∀ x ∈ n.links, ∃ a c, tget n.nodes x.2.endA = some a ∧ tget n.nodes x.2.endB = some c
          ∧ x.2.endA ≠ x.2.endB
          ∧ (x.2.kind ≠ .regulator → a.tier = x.2.tier ∧ c.tier = x.2.tier)
          ∧ (x.2.kind = .regulator → c.tier.code < a.tier.code ∧ x.2.tier = c.tier))
      ∧ (∃ x ∈ n.nodes, x.2.source = true)
      ∧ (∀ x ∈ b, (tget n.nodes x.2).isSome)
      ∧ ∀ x ∈ loc, x.2.lo ≤ x.2.hi → ∃ k, tget n.links x.2.target = some k ∧ k.kind = .pipe)
    ∧ (4096 < l.nodes → n.check b loc = some ⟨1, .nodesOver, none⟩)

/-- LINK_EDIT under a LINKS grant, of a link that no claim, holder, order or protected section node touches: CREATE of
an ABSENT slot writes the record and fresh runtime; CHANGE that keeps the kind, with service counts that cover the
pending, writes the record alone; CHANGE of kind, of a link with no tag, no pending and no active locator entry,
writes the record, takes the old runtime away and makes the new; REMOVE of such a link takes the record and its
runtime away. Each bumps the generation once and asks for a recompute. A removal or a change of kind is refused TAGGED
with the link id where a tag stands on the link, else LOCKED where it has pending, else BAD_VALUE where an active
locator entry targets it; a CHANGE that leaves a service count below the pending is LOCKED; a protected REMOVE is
CLAIMED (R18, R19, R20). That a TAGGED reply carries the link id is log entry [40]; that an entry on a valve or a
regulator, which only a write in CHECKING can leave, refuses like one on a pipe is log entry [51]. The layout of the
request before its record is log entry [13], that the record must
name the same id [20]. -/
def Obligations.LinkEditsChangeOneLink : Prop :=
  ∀ (s : State) (f : Frame) (g : Grant), s.handles f 0x06 → s.allows f .edit → s.plant.net.state = .active →
    s.plant.net.grant = some g → g.holder = f.origin → g.mode = .links →
    let n := s.plant.net
    let e := s.ev
    let id := field f.payload 0 2
    let gen := min 4294967295 (n.generation + 1)
    let asked : TraceEngine := { s.plant.trace with pendingRecompute := true }
    (∀ l pos, f.payload.length = 19 → field f.payload 2 1 = 0 → tget n.links id = none → editedLink f.payload = some l →
      l.normal? = some pos → e.linkSound l = true → e.protectedLink id l.ends = false →
      exec .linkEditCreate s = .next (s.answered f
        { s.plant with trace := asked, net := { n with
            links := tset n.links id l, controls := tset n.controls id ⟨pos, [], none⟩, generation := gen } } [] ⟨.ok, []⟩))
    ∧ (∀ l sv len, f.payload.length = 19 → field f.payload 2 1 = 0 → tget n.links id = none →
      editedLink f.payload = some l → l.body = .pipe sv len → e.linkSound l = true → e.protectedLink id l.ends = false →
      ∃ t, exec .linkEditCreate s = .next t ∧ tget t.plant.net.links id = some l
        ∧ tget t.plant.net.pipes id = some ⟨.dead, true, none, ⟨0, 0, 0⟩, none, false⟩
        ∧ (∀ k, k ≠ id → tget t.plant.net.links k = tget n.links k ∧ tget t.plant.net.pipes k = tget n.pipes k)
        ∧ t.plant.net.generation = gen ∧ t.plant.net.tags = n.tags ∧ t.plant.net.nodes = n.nodes)
    ∧ (∀ old l, f.payload.length = 19 → field f.payload 2 1 = 1 → tget n.links id = some old →
      editedLink f.payload = some l → l.kind = old.kind → e.linkSound l = true →
      e.protectedLink id (old.ends ++ l.ends) = false →
      (∀ p, tget n.pipes id = some p → p.pending.p ≤ l.service.p ∧ p.pending.c ≤ l.service.c ∧ p.pending.d ≤ l.service.d) →
      exec .linkEditChange s = .next (s.answered f
        { s.plant with trace := asked, net := { n with links := tset n.links id l, generation := gen } } [] ⟨.ok, []⟩))
    ∧ (∀ old, f.payload.length = 3 → field f.payload 2 1 = 2 → tget n.links id = some old →
      e.protectedLink id old.ends = false → (∀ x ∈ n.tags, x.2.link ≠ id) →
      (∀ p, tget n.pipes id = some p → p.pending = ⟨0, 0, 0⟩) →
      (∀ x ∈ n.locator, x.2.lo ≤ x.2.hi → x.2.target ≠ id) →
      exec .linkEditRemove s = .next (s.answered f
        { s.plant with trace := asked, net := { n with
            links := terase n.links id, pipes := terase n.pipes id, controls := terase n.controls id
            generation := gen } } [] ⟨.ok, []⟩))
    ∧ (∀ old, f.payload.length = 3 → field f.payload 2 1 = 2 → tget n.links id = some old →
      e.protectedLink id old.ends = true →
      exec .linkEditRemove s = .next (s.answered f s.plant [] ⟨.claimed, []⟩))
    ∧ (∀ old l p, f.payload.length = 19 → field f.payload 2 1 = 1 → tget n.links id = some old →
      editedLink f.payload = some l → l.kind = old.kind → e.linkSound l = true →
      e.protectedLink id (old.ends ++ l.ends) = false → tget n.pipes id = some p →
      (l.service.p < p.pending.p ∨ l.service.c < p.pending.c ∨ l.service.d < p.pending.d) →
      exec .linkEditChange s = .next (s.answered f s.plant [] ⟨.locked, []⟩))
    ∧ (let tagged : Prop := ∃ x ∈ n.tags, x.2.link = id
      let locked : Prop := ∃ p, tget n.pipes id = some p ∧ p.pending ≠ ⟨0, 0, 0⟩
      let targeted : Prop := ∃ x ∈ n.locator, x.2.lo ≤ x.2.hi ∧ x.2.target = id
      let rekinds : Link → Link → Prop := fun old l =>
        f.payload.length = 19 ∧ field f.payload 2 1 = 1 ∧ tget n.links id = some old ∧ editedLink f.payload = some l
          ∧ l.kind ≠ old.kind ∧ e.linkSound l = true ∧ e.protectedLink id (old.ends ++ l.ends) = false
      let removes : Prop := f.payload.length = 3 ∧ field f.payload 2 1 = 2
        ∧ ∃ old, tget n.links id = some old ∧ e.protectedLink id old.ends = false
      (∀ old l pos, rekinds old l → ¬ tagged → ¬ locked → ¬ targeted → l.normal? = some pos →
        exec .linkEditChange s = .next (s.answered f
          { s.plant with trace := asked, net := { n with
              links := tset n.links id l, pipes := terase n.pipes id
              controls := tset (terase n.controls id) id ⟨pos, [], none⟩, generation := gen } } [] ⟨.ok, []⟩))
      ∧ (∀ old l sv len, rekinds old l → ¬ tagged → ¬ locked → ¬ targeted → l.body = .pipe sv len →
        ∃ t, exec .linkEditChange s = .next t ∧ tget t.plant.net.links id = some l
          ∧ tget t.plant.net.pipes id = some ⟨.dead, true, none, ⟨0, 0, 0⟩, none, false⟩
          ∧ tget t.plant.net.controls id = none
          ∧ (∀ k, k ≠ id → tget t.plant.net.links k = tget n.links k ∧ tget t.plant.net.pipes k = tget n.pipes k)
          ∧ t.plant.net.generation = gen ∧ t.plant.net.tags = n.tags ∧ t.plant.net.nodes = n.nodes)
      ∧ ∀ c, ((c = .linkEditChange ∧ ∃ old l, rekinds old l) ∨ (c = .linkEditRemove ∧ removes)) →
        (tagged → exec c s = .next (s.answered f s.plant [] ⟨.tagged, be 2 id⟩))
        ∧ (¬ tagged → locked → exec c s = .next (s.answered f s.plant [] ⟨.locked, []⟩))
        ∧ (¬ tagged → ¬ locked → targeted → exec c s = .next (s.answered f s.plant [] ⟨.badValue, []⟩)))

/-- NODE_EDIT under a LINKS grant, of a node that is no protected section node, with a source left in the table:
CREATE writes a record with its fed flag clear, CHANGE writes the record and keeps the fed flag, REMOVE of a node that
no link and no station names takes it away. Each bumps the generation once and asks for a recompute (R21). The layout
of the request before its record is log entry [13], that the record must
name the same id [20]. -/
def Obligations.NodeEditsChangeOneNode : Prop :=
  ∀ (s : State) (f : Frame) (g : Grant), s.handles f 0x07 → s.allows f .edit → s.plant.net.state = .active →
    s.plant.net.grant = some g → g.holder = f.origin → g.mode = .links →
    let n := s.plant.net
    let e := s.ev
    let id := field f.payload 0 2
    let gen := min 4294967295 (n.generation + 1)
    let asked : TraceEngine := { s.plant.trace with pendingRecompute := true }
    e.protectedNode id = false →
    (∀ x, f.payload.length = 7 → field f.payload 2 1 = 0 → tget n.nodes id = none → editedNode f.payload = some x →
      hasSource (tset n.nodes id x) = true →
      x.fed = false ∧ ∃ t, exec .nodeEditCreate s = .next t ∧ tget t.plant.net.nodes id = some x
        ∧ (∀ k, k ≠ id → tget t.plant.net.nodes k = tget n.nodes k)
        ∧ t.plant.net.links = n.links ∧ t.plant.net.pipes = n.pipes ∧ t.plant.net.generation = gen)
    ∧ (∀ old x, f.payload.length = 7 → field f.payload 2 1 = 1 → tget n.nodes id = some old →
      editedNode f.payload = some x → x.tier = old.tier → hasSource (tset n.nodes id { x with fed := old.fed }) = true →
      exec .nodeEditChange s = .next (s.answered f
        { s.plant with trace := asked, net := { n with
            nodes := tset n.nodes id { x with fed := old.fed }, generation := gen } } [] ⟨.ok, []⟩))
    ∧ (∀ old, f.payload.length = 3 → field f.payload 2 1 = 2 → tget n.nodes id = some old →
      hasSource (terase n.nodes id) = true → (∀ x ∈ n.links, x.2.endA ≠ id ∧ x.2.endB ≠ id) →
      (∀ x ∈ s.plant.mon.stations, x.2.cfg.node ≠ some id) →
      exec .nodeEditRemove s = .next (s.answered f
        { s.plant with trace := asked, net := { n with nodes := terase n.nodes id, generation := gen } } [] ⟨.ok, []⟩))
    ∧ (f.payload.length = 3 → field f.payload 2 1 = 2 → (tget n.nodes id).isSome →
      hasSource (terase n.nodes id) = false →
      exec .nodeEditRemove s = .next (s.answered f s.plant [] ⟨.badValue, []⟩))

/-- A WORK_IN_PROGRESS tag is set on a pipe under the lowest free tag id, with the origin and the part time, and
answered with the id; a second of its kind on the link is DUPLICATE. TAG_CLEAR takes a tag away; a DO_NOT_OPERATE tag
bumps the generation, a WORK_IN_PROGRESS tag does not (R22, R23). The layouts of the requests and of the replies are
log entries [13] and [14]. -/
def Obligations.TagsSetAndCleared : Prop :=
  (∀ (s : State) (f : Frame) (l : Link), s.handles f 0x08 → f.payload.length = 3 → s.allows f .operate →
    s.plant.net.state = .active → field f.payload 0 2 ≤ 6143 → field f.payload 2 1 = 1 →
    tget s.plant.net.links (field f.payload 0 2) = some l → l.kind = .pipe →
    let n := s.plant.net
    let link := field f.payload 0 2
    (∀ id, (∀ x ∈ n.tags, ¬(x.2.link = link ∧ x.2.kind = .workInProgress)) → id < 64 → tget n.tags id = none →
      (∀ k < id, (tget n.tags k).isSome) →
      exec .tagSet s = .next (s.answered f
        { s.plant with net := { n with tags := tset n.tags id ⟨link, .workInProgress, f.origin, s.link.partTime⟩ } } []
        ⟨.ok, be 2 id⟩))
    ∧ ((∃ x ∈ n.tags, x.2.link = link ∧ x.2.kind = .workInProgress) →
      exec .tagSet s = .next (s.answered f s.plant [] ⟨.duplicate, []⟩)))
  ∧ ∀ (s : State) (f : Frame) (t : Tag), s.handles f 0x09 → f.payload.length = 2 → s.allows f .operate →
    s.plant.net.state = .active → field f.payload 0 2 < 64 → tget s.plant.net.tags (field f.payload 0 2) = some t →
    let n := s.plant.net
    exec .tagClear s = .next (s.answered f
      { s.plant with net := { n with
          tags := terase n.tags (field f.payload 0 2)
          generation := if t.kind = .doNotOperate then min 4294967295 (n.generation + 1) else n.generation } } []
      ⟨.ok, []⟩)

/-- A DO_NOT_OPERATE tag on a valve or regulator bumps the generation exactly once, whatever members it fails; nodes,
links, positions, pipes, stations and incidents stay. An outstanding order of the link is FAILED with cause TAGGED and
its ORDER_END is the first notice, entries for the link leave every to-issue list, and the isolations in CLOSING whose
CLOSE order or entry it was go back to planning (`State.LeftUnworkable`; R22, R124, R150, R153). An OPEN order of an
isolation in RESTORING brings RESTORE_BLOCKED next (R150). The layouts of the requests and of the replies are log
entries [13] and [14]. -/
def Obligations.DoNotOperateTagMakesUnworkable : Prop :=
  ∀ (s : State) (f : Frame) (l : Link) (id : Nat), s.handles f 0x08 → f.payload.length = 3 → s.allows f .operate →
    s.plant.net.state = .active → field f.payload 0 2 ≤ 6143 → field f.payload 2 1 = 0 →
    tget s.plant.net.links (field f.payload 0 2) = some l → l.kind ≠ .pipe →
    (∀ x ∈ s.plant.net.tags, ¬(x.2.link = field f.payload 0 2 ∧ x.2.kind = .doNotOperate)) →
    lowestFree s.plant.net.tags 0 64 = some id → s.plant.keyed →
    let n := s.plant.net
    let link := field f.payload 0 2
    ∃ t, exec .tagSet s = .next t
      ∧ t.plant.net.tags = tset n.tags id ⟨link, .doNotOperate, f.origin, s.link.partTime⟩
      ∧ t.plant.net.generation = min 4294967295 (n.generation + 1)
      ∧ t.plant.net.nodes = n.nodes ∧ t.plant.net.links = n.links
      ∧ (∀ k, (tget t.plant.net.controls k).map (·.position) = (tget n.controls k).map (·.position))
      ∧ t.plant.net.pipes = n.pipes ∧ t.plant.mon = s.plant.mon ∧ t.plant.reg = s.plant.reg
      ∧ t.plant.led.weights = s.plant.led.weights
      ∧ s.LeftUnworkable t link .tagged
      ∧ (∀ c oid o, tget n.controls link = some c → c.order = some oid → tget s.plant.ctl.orders oid = some o →
        let ended := s.notice .orderEnd oid
          (be 2 o.link ++ be 1 o.action.code ++ [3, 2] ++ be 1 o.iso.slot ++ be 2 o.iso.serial)
        (∃ more, t.link = ((ended :: more).foldl ControlLink.queue s.link).finish f ⟨.ok, be 2 id⟩)
        ∧ (∀ i, o.action = .reopen → s.plant.noneToIssue → tget s.plant.ctl.isos o.iso.slot = some i →
          i.serial = o.iso.serial → i.state = .restoring →
          ∃ more, t.link = ((ended :: s.notice .restoreBlocked o.iso.slot (be 2 o.iso.serial ++ be 2 link) :: more).foldl
            ControlLink.queue s.link).finish f ⟨.ok, be 2 id⟩))

/-- LOCATOR_SET writes its entries to consecutive indices from the start index and no other. One that would run past
512, that aims an entry at an id above 6143, or that while ACTIVE would aim an active entry at a link that is no pipe,
changes nothing, and neither does one without EDIT (R24). That one of no entries is refused too is the model's choice,
log entry [21]. The layout of the request is log entry [13]. -/
def Obligations.LocatorSetWritesItsRange : Prop :=
  (∀ (s : State) (f : Frame), s.handles f 0x0A → 4 ≤ f.payload.length →
    f.payload.length = 4 + 8 * field f.payload 2 2 → ¬ s.allows f .edit →
    exec .locatorSet s = .next (s.answered f s.plant [] ⟨.noRight, []⟩))
  ∧ ∀ (s : State) (f : Frame), s.handles f 0x0A → 4 ≤ f.payload.length →
    f.payload.length = 4 + 8 * field f.payload 2 2 → s.allows f .edit →
    let n := s.plant.net
    let start := field f.payload 0 2
    let count := field f.payload 2 2
    let at_ : Table LocatorEntry → Nat → LocatorEntry := fun t k => (tget t k).getD ⟨16777215, 0, 0⟩
    (0 < count → start + count ≤ 512 →
      (∀ x ∈ locatorEntriesOf f.payload, x.target ≤ 6143 ∧ (n.state = .active → x.lo ≤ x.hi →
        ∃ l, tget n.links x.target = some l ∧ l.kind = .pipe)) →
      ∃ t, exec .locatorSet s = .next t
        ∧ (∀ i, i < count → at_ t.plant.net.locator (start + i)
            = ⟨field f.payload (4 + 8 * i) 3, field f.payload (7 + 8 * i) 3, field f.payload (10 + 8 * i) 2⟩)
        ∧ (∀ k, (k < start ∨ start + count ≤ k) → at_ t.plant.net.locator k = at_ n.locator k)
        ∧ t.plant.net.links = n.links ∧ t.plant.net.pipes = n.pipes ∧ t.plant.net.generation = n.generation
        ∧ t.plant.mon = s.plant.mon ∧ t.plant.reg = s.plant.reg)
    ∧ (count = 0 ∨ 512 < start + count ∨ (∃ x ∈ locatorEntriesOf f.payload, 6143 < x.target)
        ∨ (n.state = .active ∧ ∃ x ∈ locatorEntriesOf f.payload, x.lo ≤ x.hi
          ∧ ∀ l, tget n.links x.target = some l → l.kind ≠ .pipe) →
      exec .locatorSet s = .next (s.answered f s.plant [] ⟨.badValue, []⟩))

/-! ## The Station Monitor -/

/-- STATION_SET DEFINE with every field in range, bound (while ACTIVE) to a node that exists, writes the record with
fresh runtime: freshness NEVER, band NORMAL, an empty ring, no time, no deadline, counts zero. REMOVE takes a
defined station away and is refused NOT_FOUND on an undefined one. No other station changes, and no counter of the
monitor, node, link record or position (R54, R56, R57, R58). The model's choices in it: the layout of the request is log
entry [13], its default mask and flags [15], the widths of its fields [56]. -/
def Obligations.StationDefinedAndRemoved : Prop :=
  (∀ (s : State) (f : Frame) (c : StationRec), s.handles f 0x0B → f.payload.length = 44 → s.allows f .edit →
    field f.payload 2 1 = 0 → field f.payload 0 2 ≤ 511 → stationRecord f.payload = some c →
    (s.plant.net.state = .active → ∀ n, c.node = some n → (tget s.plant.net.nodes n).isSome) →
    ∃ t, exec .stationSetDefine s = .next t
      ∧ tget t.plant.mon.stations (field f.payload 0 2)
        = some ⟨c, ⟨.never, false, 0, 0, 0, .normal, false, [], 0, 0, none, none⟩⟩
      ∧ (∀ k, k ≠ field f.payload 0 2 → tget t.plant.mon.stations k = tget s.plant.mon.stations k)
      ∧ t.plant.mon.counters = s.plant.mon.counters ∧ t.plant.net.nodes = s.plant.net.nodes
      ∧ t.plant.net.links = s.plant.net.links
      ∧ ∀ k, (tget t.plant.net.controls k).map (·.position) = (tget s.plant.net.controls k).map (·.position))
  ∧ ∀ (s : State) (f : Frame), s.handles f 0x0B → f.payload.length = 3 → s.allows f .edit →
    field f.payload 2 1 = 1 → field f.payload 0 2 ≤ 511 →
    ((tget s.plant.mon.stations (field f.payload 0 2)).isSome →
      ∃ t, exec .stationSetRemove s = .next t ∧ tget t.plant.mon.stations (field f.payload 0 2) = none
        ∧ (∀ k, k ≠ field f.payload 0 2 → tget t.plant.mon.stations k = tget s.plant.mon.stations k)
        ∧ t.plant.mon.counters = s.plant.mon.counters ∧ t.plant.net.nodes = s.plant.net.nodes
        ∧ t.plant.net.links = s.plant.net.links
        ∧ ∀ k, (tget t.plant.net.controls k).map (·.position) = (tget s.plant.net.controls k).map (·.position))
    ∧ (tget s.plant.mon.stations (field f.payload 0 2) = none →
      exec .stationSetRemove s = .next (s.answered f s.plant [] ⟨.notFound, []⟩))

/-- STATION_READ answers a station's record and runtime to any origin. With the clear option it needs OPERATE, and
clears LOST after reading it and nothing else (R72). STALENESS_EXPIRY at a reached deadline makes the station STALE
and LOST, with no deadline, its last values and its ring kept, and queues STATION_STALE first; before the deadline
nothing happens (R71). The model's choices in it: the order and widths of the read record are log entry [14], the
widths R216 does not name [56], the four bytes of an absent time in it [48], the flag byte of the clear option, after
the id [13], and each flag of the record, in bit 0 of a byte of its own [15], and those of STATION_STALE [16]. -/
def Obligations.StationReadAndStaleness : Prop :=
  (∀ (s : State) (f : Frame) (x : Station), s.handles f 0x0C → f.payload.length = 3 →
     tget s.plant.mon.stations (field f.payload 0 2) = some x →
     let id := field f.payload 0 2
     (flagAt f.payload 2 0 = false →
       exec .stationRead s = .next (s.answered f s.plant [] ⟨.ok, x.bytes id⟩))
     ∧ (flagAt f.payload 2 0 = true → s.allows f .operate →
       exec .stationReadClear s = .next (s.answered f
         { s.plant with mon := { s.plant.mon with
             stations := tmod s.plant.mon.stations id fun y => { y with rt := { y.rt with lost := false } } } } []
         ⟨.ok, x.bytes id⟩))
     ∧ (flagAt f.payload 2 0 = true → ¬ s.allows f .operate →
       exec .stationReadClear s = .next (s.answered f s.plant [] ⟨.noRight, []⟩)))
  ∧ (∀ (s : State) (id : Nat) (x : Station) (d : Nat), s.link.clockEnded = false → tget s.plant.mon.stations id = some x →
       x.rt.deadline = some d →
       (d ≤ s.link.partTime →
         ∃ t more, exec (.stalenessExpiry id) s = .next t
           ∧ tget t.plant.mon.stations id
             = some { x with rt := { x.rt with freshness := .stale, deadline := none, lost := true } }
           ∧ (∀ k, k ≠ id → tget t.plant.mon.stations k = tget s.plant.mon.stations k)
           ∧ t.link = (s.notice .stationStale id (be 1 0 ++ beFlag x.rt.lastTime.isSome ++ be 4 (x.rt.lastTime.getD 0)
               ++ bePu (roundDiv x.rt.s16 16)) :: more).foldl ControlLink.queue s.link)
       ∧ (s.link.partTime < d → exec (.stalenessExpiry id) s = .next (s.after s.plant [])))

/-- TELEMETRY with one accepted sample over an OK path: the sample is converted and clamped, smoothed (or set afresh
when the station was stale or new), banded, put on the trend ring and makes the station FRESH at its sample time,
with a new staleness deadline; the reports and samples are counted, and no other station changes (R60, R63 to R70,
R81). With room for three incidents, an entry to LOW_LOW and a setting of FALLING open a PRESSURE_LOSS and a
PRESSURE_FALL incident unless the station is suppressed, an entry to HIGH_HIGH an OVER_PRESSURE incident in any case,
each of grade 1 for the station and its tier, unless an uncleared one of its kind for the station is there; no other
incident of these kinds appears for the station. A tier-low condition that becomes set opens a TIER_LOW incident for
the tier unless an uncleared one is there (R75 to R77, R97). -/
def Obligations.TelemetrySampleAccepted : Prop :=
  ∀ (s : State) (f : Frame) (x : Station), s.handles f 0x0D → f.payload.length = 8 → field f.payload 2 1 = 0 →
    field f.payload 3 1 = 1 → tget s.plant.mon.stations (field f.payload 0 2) = some x →
    let id := field f.payload 0 2
    let raw := field f.payload 4 2
    let time := s.link.partTime - field f.payload 6 2
    11796 ≤ raw → raw ≠ 65535 → (∀ t0, x.rt.lastTime = some t0 → t0 < time) →
    let p := clampPu (scaleRaw x.cfg raw)
    let live := x.rt.freshness = .fresh ∨ x.rt.freshness = .suspect
    let s16 := if live then smooth x.cfg.k x.rt.s16 p else 16 * p
    let value := roundDiv s16 16
    let ring := pushRing (if live then x.rt.ring else []) value time
    let rate := ringRate ring (if live then x.rt.rate else 0)
    ∃ t, exec .telemetry s = .next t
      ∧ tget t.plant.mon.stations id = some { x with rt := { x.rt with
          freshness := .fresh, lastRaw := raw, lastConverted := p, s16 := s16, band := bandOf x.cfg x.rt.band value
          ring := ring, rate := rate
          falling := fallingOf x.cfg.alarm rate (if live then x.rt.falling else false)
          accepted := x.rt.accepted + 1, lastTime := some time
          deadline := some (s.link.partTime + x.cfg.interval * x.cfg.multiple) } }
      ∧ (∀ k, k ≠ id → tget t.plant.mon.stations k = tget s.plant.mon.stations k)
      ∧ t.plant.mon.counters = { s.plant.mon.counters with
          reports := s.plant.mon.counters.reports + 1, accepted := s.plant.mon.counters.accepted + 1
          clamps := s.plant.mon.counters.clamps + if p = scaleRaw x.cfg raw then 0 else 1 }
      ∧ t.plant.net.nodes = s.plant.net.nodes ∧ t.plant.net.links = s.plant.net.links
      ∧ (s.plant.keyed → s.plant.reg.table.length ≤ 253 →
        let entered : Band → Prop := fun b => bandOf x.cfg x.rt.band value = b ∧ x.rt.band ≠ b
        let fell : Prop := fallingOf x.cfg.alarm rate (if live then x.rt.falling else false) = true
          ∧ ¬(live ∧ x.rt.falling = true)
        let quiet : Prop := ∃ n, x.cfg.node = some n
          ∧ ((s.plant.net.state = .active ∧ ∃ y, tget s.plant.net.nodes n = some y ∧ y.fed = false)
            ∨ ∃ y ∈ s.plant.ctl.isos, n ∈ y.2.nodes ∧ (y.2.state = .verifying ∨ y.2.state = .effective
              ∨ y.2.state = .restoring ∨ y.2.state = .relighting))
        let wanted : IncidentKind → Prop := fun kind =>
          (kind = .pressureLoss ∧ entered .lowLow ∧ ¬ quiet) ∨ (kind = .pressureFall ∧ fell ∧ ¬ quiet)
            ∨ (kind = .overPressure ∧ entered .highHigh)
        let there : IncidentKind → Prop := fun kind => ∃ k i, tget s.plant.reg.table k = some i ∧ i.state ≠ .cleared
          ∧ i.kind = kind ∧ i.station = some id
        let isNew : Incident → Nat → Prop := fun i k => tget s.plant.reg.table k = none ∧ i.grade = 1
          ∧ i.tier = some x.cfg.tier ∧ i.pipe = none ∧ i.opened = s.link.partTime
          ∧ i.deadline = s.link.partTime + s.plant.reg.response1 ∧ i.calls = 0 ∧ i.refs = []
        (∀ kind ∈ [IncidentKind.pressureLoss, .pressureFall, .overPressure],
          (wanted kind → ¬ there kind → ∃ k i, tget t.plant.reg.table k = some i ∧ i.kind = kind ∧ i.station = some id
            ∧ isNew i k)
          ∧ (¬ wanted kind ∨ there kind → ∀ k i, tget t.plant.reg.table k = some i → i.kind = kind → i.station = some id →
            ∃ j, tget s.plant.reg.table k = some j ∧ j.kind = kind ∧ j.station = some id))
        ∧ (s.plant.mon.tierLow.at x.cfg.tier = false → t.plant.mon.tierLow.at x.cfg.tier = true →
          (∀ k i, tget s.plant.reg.table k = some i → i.state ≠ .cleared → i.kind = .tierLow → i.tier ≠ some x.cfg.tier) →
          ∃ k i, tget t.plant.reg.table k = some i ∧ i.kind = .tierLow ∧ i.station = none ∧ isNew i k))

/-- TELEMETRY whose sample is not used. Out of order: counted, nothing else of the station. A faulty raw value:
counted, kept as the last raw value, FRESH becomes SUSPECT. A degraded path the station does not accept: its
samples are counted as discarded and FRESH becomes SUSPECT. RELAY_LOST: its samples are ignored, and the station is
STALE and LOST with no deadline; STATION_STALE is queued first with cause 1 where the station was not STALE already,
and no notice where it was. An unknown station and a short report count and are refused (R59 to R62, R71, R81). The
bytes of STATION_STALE for an absent time are log entry [16], the counts of the reply [17]. -/
def Obligations.TelemetrySampleTurnedAway : Prop :=
  ∀ (s : State) (f : Frame), s.handles f 0x0D → 4 ≤ f.payload.length →
    let id := field f.payload 0 2
    let raw := field f.payload 4 2
    let time := s.link.partTime - field f.payload 6 2
    let m := s.plant.mon
    let suspected : Freshness → Freshness := fun x => if x = .fresh then .suspect else x
    (∀ x, f.payload.length = 8 → field f.payload 3 1 = 1 → tget m.stations id = some x →
      (field f.payload 2 1 = 0 → (∃ t0, x.rt.lastTime = some t0 ∧ time ≤ t0) →
        exec .telemetry s = .next (s.answered f
          { s.plant with mon := { m with
              counters := { m.counters with reports := m.counters.reports + 1, outOfOrder := m.counters.outOfOrder + 1 }
              stations := tmod m.stations id fun y => { y with rt := { y.rt with accepted := y.rt.accepted + 1 } } } } []
          ⟨.ok, be 2 0 ++ be 2 1 ++ be 1 x.rt.freshness.code⟩))
      ∧ (field f.payload 2 1 = 0 → (∀ t0, x.rt.lastTime = some t0 → t0 < time) → (raw < 11796 ∨ raw = 65535) →
        ∃ t, exec .telemetry s = .next t
          ∧ tget t.plant.mon.stations id = some { x with rt := { x.rt with
              accepted := x.rt.accepted + 1, lastRaw := raw, freshness := suspected x.rt.freshness } }
          ∧ t.plant.mon.counters = { m.counters with reports := m.counters.reports + 1, faults := m.counters.faults + 1 }
          ∧ t.plant.mon.tierLow = m.tierLow ∧ t.plant.reg = s.plant.reg)
      ∧ (field f.payload 2 1 = 1 → x.cfg.acceptDegraded = false →
        ∃ t, exec .telemetry s = .next t
          ∧ tget t.plant.mon.stations id = some { x with rt := { x.rt with
              accepted := x.rt.accepted + 1, freshness := suspected x.rt.freshness } }
          ∧ t.plant.mon.counters
            = { m.counters with reports := m.counters.reports + 1, degraded := m.counters.degraded + 1 }
          ∧ t.plant.mon.tierLow = m.tierLow ∧ t.plant.reg = s.plant.reg))
    ∧ (∀ x, field f.payload 2 1 = 2 → field f.payload 3 1 ≤ 4 → f.payload.length = 4 + 4 * field f.payload 3 1 →
      tget m.stations id = some x →
      let counted : TelemetryCounters := { m.counters with reports := m.counters.reports + 1 }
      let reply : Reply := ⟨.ok, be 2 0 ++ be 2 0 ++ be 1 3⟩
      (x.rt.freshness ≠ .stale →
        ∃ t more, exec .telemetry s = .next t
          ∧ tget t.plant.mon.stations id = some { x with rt := { x.rt with
              accepted := x.rt.accepted + 1, freshness := .stale, deadline := none, lost := true } }
          ∧ (∀ k, k ≠ id → tget t.plant.mon.stations k = tget m.stations k) ∧ t.plant.mon.counters = counted
          ∧ t.link = ((s.notice .stationStale id (be 1 1 ++ beFlag x.rt.lastTime.isSome ++ be 4 (x.rt.lastTime.getD 0)
              ++ bePu (roundDiv x.rt.s16 16)) :: more).foldl ControlLink.queue s.link).finish f reply)
      ∧ (x.rt.freshness = .stale →
        exec .telemetry s = .next (s.answered f
          { s.plant with mon := { m with
              counters := counted
              stations := tmod m.stations id fun y => { y with rt := { y.rt with
                accepted := y.rt.accepted + 1, lost := true, deadline := none } } } } [] reply)))
    ∧ (field f.payload 2 1 ≤ 2 → field f.payload 3 1 ≤ 4 → f.payload.length = 4 + 4 * field f.payload 3 1 →
      tget m.stations id = none →
      exec .telemetry s = .next (s.answered f
        { s.plant with mon := { m with counters := { m.counters with unknown := m.counters.unknown + 1 } } } []
        ⟨.notFound, []⟩))
    ∧ (field f.payload 2 1 ≤ 2 → field f.payload 3 1 ≤ 4 → f.payload.length ≠ 4 + 4 * field f.payload 3 1 →
      exec .telemetry s = .next (s.answered f
        { s.plant with mon := { m with counters := { m.counters with short := m.counters.short + 1 } } } []
        ⟨.badLength, []⟩))

/-- The conversion of a screened sample: inverted when the flag is set, less the zero, times NUM, divided by DEN and
rounded to the nearest integer, halves away from zero, with the sign of the difference; the magnitudes are in the
ranges the rule gives, and the raw value is kept as the last raw value (R63). -/
def Obligations.SampleConversion : Prop :=
  ∀ (c : StationRec) (r : StationRt) (raw : Nat), c.inRange = true → raw ≤ 65535 →
    let v : Int := if c.invert then 65535 - raw else raw
    let d : Int := v - c.zero
    let q : Int := d * c.num
    let p : Int := scaleRaw c raw
    (-65535 ≤ d ∧ d ≤ 65535) ∧ q.natAbs < 2 ^ 41
      ∧ 2 * p.natAbs * c.den ≤ 2 * q.natAbs + c.den ∧ 2 * q.natAbs < 2 * p.natAbs * c.den + c.den
      ∧ (0 ≤ d → 0 ≤ p) ∧ (d ≤ 0 → p ≤ 0)
      ∧ (r.convert c raw).lastRaw = raw

/-- The band by the nine tests of R66, read as what each band means: outside the outer limits the outer bands; coming
back from an outer band only past its limit by the hysteresis; the same between the inner limits. -/
def Obligations.BandFollowsLimitsAndHysteresis : Prop :=
  ∀ (c : StationRec) (b : Band) (v : Int), c.ll < c.l → c.l < c.h → c.h < c.hh → 0 ≤ c.hyst →
    c.l + c.hyst ≤ c.h - c.hyst → c.ll + c.hyst ≤ c.l → c.h ≤ c.hh - c.hyst →
    (bandOf c b v = .lowLow ↔ v < c.ll ∨ (b = .lowLow ∧ v < c.ll + c.hyst))
    ∧ (bandOf c b v = .highHigh ↔ c.hh < v ∨ (b = .highHigh ∧ c.hh - c.hyst < v))
    ∧ (bandOf c b v = .low ↔
      (c.ll ≤ v ∧ ¬(b = .lowLow ∧ v < c.ll + c.hyst))
        ∧ (v < c.l ∨ ((b = .lowLow ∨ b = .low) ∧ v < c.l + c.hyst)))
    ∧ (bandOf c b v = .high ↔
      (v ≤ c.hh ∧ ¬(b = .highHigh ∧ c.hh - c.hyst < v))
        ∧ (c.h < v ∨ ((b = .highHigh ∨ b = .high) ∧ c.h - c.hyst < v)))

/-! ## The Incident Register -/

/-- CALL with no open incident that lists it, of a call that is not located: a new incident in OPEN under the lowest
empty slot and the next free id, graded by its kind alone, with the call listed and its deadline the response time of
its grade from now; answered OK, opened (R85, R87, R88, R91, R93, R96). CALL that opens nothing: a call id that an
uncleared incident lists is DUPLICATE with that incident's id; a NO_GAS call on a pipe owned by an outage record is
ABSORBED and counted there; without the CALL right it is refused (R85, R87, R89). The model's choices in it: that the
reply writes an opened incident as 0 is log entry [15], the order of the values of a reply [14], and that it writes
the grade in one byte, so that the deadline follows it, [55]. -/
def Obligations.CallOutcomes : Prop :=
  (∀ (s : State) (f : Frame) (kind : IncidentKind) (slot : Nat), s.handles f 0x0E → f.payload.length = 9 → s.allows f .call →
     flagAt f.payload 5 0 = false → callKindOf (field f.payload 4 1) = some kind →
     (∀ x ∈ s.plant.reg.table, x.2.state ≠ .cleared → field f.payload 0 4 ∉ x.2.refs) →
     (∀ x ∈ s.plant.net.locator, ¬(x.2.lo ≤ field f.payload 6 3 ∧ field f.payload 6 3 ≤ x.2.hi)) →
     slot < 256 → tget s.plant.reg.table slot = none → (∀ k < slot, (tget s.plant.reg.table k).isSome) →
     (∀ x ∈ s.plant.reg.table, x.2.id ≠ s.plant.reg.serial) →
     let now := s.link.partTime
     let grade := match kind with | .ignition | .damage | .odourInside => 1 | .odourOutside => 2 | _ => 3
     let response := if grade = 1 then s.plant.reg.response1 else if grade = 2 then s.plant.reg.response2
       else s.plant.reg.response3
     let id := s.plant.reg.serial
     exec .call s = .next (s.answered f
       { s.plant with reg := { s.plant.reg with
           serial := if id = 65535 then 1 else id + 1
           table := tset s.plant.reg.table slot
             { id := id, kind := kind, grade := grade, pipe := none, station := none, tier := none, state := .opened
               opened := now, lastCall := some now, lastState := now, deadline := now + response, overdue := false
               inSection := false, truncated := false, calls := 1, refs := [field f.payload 0 4], iso := none } } } []
       ⟨.ok, be 2 id ++ [0] ++ be 1 grade ++ be 4 (now + response) ++ be 2 1 ++ be 2 65535⟩))
  ∧ (∀ (s : State) (f : Frame), s.handles f 0x0E → f.payload.length = 9 → flagAt f.payload 5 0 = false →
       let call := field f.payload 0 4
       let key := field f.payload 6 3
       (¬ s.allows f .call → exec .call s = .next (s.answered f s.plant [] ⟨.noRight, []⟩))
       ∧ (∀ lower x upper, s.allows f .call → field f.payload 4 1 ≤ 4 → s.plant.reg.table = lower ++ x :: upper →
         (∀ y ∈ lower, y.2.state ≠ .cleared → call ∉ y.2.refs) → x.2.state ≠ .cleared → call ∈ x.2.refs →
         exec .call s = .next (s.answered f s.plant [] ⟨.duplicate, be 2 x.2.id⟩))
       ∧ (∀ pipe l rt k, s.allows f .call → field f.payload 4 1 = 4 →
         (∀ y ∈ s.plant.reg.table, y.2.state ≠ .cleared → call ∉ y.2.refs) →
         s.plant.net.locate key = some pipe → tget s.plant.net.links pipe = some l → tget s.plant.net.pipes pipe = some rt →
         rt.owner = some k →
         exec .call s = .next (s.answered f
           { s.plant with led := { s.plant.led with
               records := tmod s.plant.led.records k fun o => { o with absorbed := o.absorbed + 1 } } } []
           ⟨.absorbed, be 2 k⟩)))

/-- The merge of a call into an incident: the count goes up by one and stays at 65535, the call is listed while fewer
than 16 are and the incident is marked CALLS_TRUNCATED otherwise, the last call time is now. Only a more urgent call
changes the grade; then the deadline is the earlier of the two and the kind follows in a family merge. State and times
of the incident stay (R95). A located CALL that no uncleared incident lists and no outage record absorbs is graded by
its kind, the pipe's tier and the stations at its ends, or 3 and in section for an odour on a pipe ISOLATED or
RECHARGING. It merges so into the candidate of the latest last call time, in the lower slot where that is shared, or
opens an incident with its pipe and tier; a NO_GAS call in a tier that is low merges into the tier's TIER_LOW incident
alone, or opens it. With no empty slot and no CLEARED record an opening is answered FULL, with notice TABLE_FULL. Each
reply echoes the host reference (R84 to R86, R88, R90 to R98). That the reply writes opened as 0 and merged as 1 is
log entry [15], the order of the values of a reply [14], and a grade in one byte [55]. -/
def Obligations.MergeOfCall : Prop :=
  (∀ (i : Incident) (call : Nat) (kind : IncidentKind) (grade deadline now : Nat) (inSec family : Bool),
    let j := i.merge call kind grade deadline now inSec family
    j.calls = min 65535 (i.calls + 1)
    ∧ (i.refs.length < 16 → j.refs = i.refs ++ [call] ∧ j.truncated = i.truncated)
    ∧ (16 ≤ i.refs.length → j.refs = i.refs ∧ j.truncated = true)
    ∧ j.lastCall = some now ∧ j.inSection = (i.inSection || inSec)
    ∧ (grade < i.grade → j.grade = grade ∧ j.deadline = min i.deadline deadline
      ∧ j.kind = if family then kind else i.kind)
    ∧ (i.grade ≤ grade → j.grade = i.grade ∧ j.deadline = i.deadline ∧ j.kind = i.kind)
    ∧ j.id = i.id ∧ j.state = i.state ∧ j.opened = i.opened ∧ j.lastState = i.lastState ∧ j.overdue = i.overdue
    ∧ j.pipe = i.pipe ∧ j.station = i.station ∧ j.tier = i.tier ∧ j.iso = i.iso)
  ∧ ∀ (s : State) (f : Frame) (kind : IncidentKind) (pipe : Nat) (l : Link) (rt : PipeRt), s.handles f 0x0E →
    s.plant.keyed → s.allows f .call → f.payload.length = (if flagAt f.payload 5 0 then 11 else 9) →
    callKindOf (field f.payload 4 1) = some kind →
    (∀ x ∈ s.plant.reg.table, x.2.state ≠ .cleared → field f.payload 0 4 ∉ x.2.refs) →
    s.plant.net.locate (field f.payload 6 3) = some pipe → tget s.plant.net.links pipe = some l →
    tget s.plant.net.pipes pipe = some rt → (kind = .noGas → rt.owner = none) →
    let r := s.plant.reg
    let now := s.link.partTime
    let call := field f.payload 0 4
    let inSec : Bool := (kind = .odourInside || kind = .odourOutside) && (rt.supply = .isolated || rt.supply = .recharging)
    let base : Nat := match kind with | .ignition | .damage | .odourInside => 1 | .odourOutside => 2 | _ => 3
    let beside : Bool := s.plant.mon.stations.any fun x => (x.2.cfg.node = some l.endA || x.2.cfg.node = some l.endB)
      && (x.2.rt.freshness = .fresh || x.2.rt.freshness = .suspect) && (x.2.rt.band = .lowLow || x.2.rt.falling)
    let grade : Nat := if inSec then 3 else max 1 (base - (if l.tier = .lp then 0 else 1) - (if beside then 1 else 0))
    let response : Nat → Nat := fun g => if g = 1 then r.response1 else if g = 2 then r.response2 else r.response3
    let reply : Incident → Byte → Reply := fun j how =>
      ⟨.ok, be 2 j.id ++ [how] ++ be 1 j.grade ++ be 4 j.deadline ++ be 2 j.calls ++ be 2 pipe ++ f.payload.drop 9⟩
    let merges : Nat → Incident → Bool → Prop := fun k i family =>
      let j := i.merge call kind grade (now + response grade) now inSec family
      exec .call s = .next (s.answered f
        { s.plant with reg := { r with table := tmod r.table k fun _ => j } } [] (reply j 1))
    let opens : Incident → Prop := fun i =>
      (∀ slot, slot < 256 → tget r.table slot = none → (∀ k < slot, (tget r.table k).isSome) →
        (∀ x ∈ r.table, x.2.id ≠ r.serial) →
        let j := { i with id := r.serial }
        exec .call s = .next (s.answered f
          { s.plant with reg := { r with
              serial := if r.serial = 65535 then 1 else r.serial + 1, table := tset r.table slot j } } [] (reply j 0)))
      ∧ ((∀ k < 256, (tget r.table k).isSome) → (∀ x ∈ r.table, x.2.state ≠ .cleared) →
        exec .call s = .next (s.answered f s.plant [s.notice .tableFull pipe (be 1 kind.code)]
          ⟨.full, f.payload.drop 9⟩))
    let family : IncidentKind → Prop := fun k => if kind = .noGas then k = .noGas
      else k = .ignition ∨ k = .damage ∨ k = .odourInside ∨ k = .odourOutside
    let candidate : Nat → Incident → Nat → Prop := fun k i last => tget r.table k = some i ∧ i.state ≠ .cleared
      ∧ i.pipe = some pipe ∧ family i.kind ∧ i.lastCall = some last ∧ now - last ≤ r.mergeWindow
    let sagging : Nat → Incident → Prop := fun k i => tget r.table k = some i ∧ i.state ≠ .cleared ∧ i.kind = .tierLow
      ∧ i.tier = some l.tier
    (kind = .noGas ∧ s.plant.mon.tierLow.at l.tier = true →
      (∀ k i, sagging k i → (∀ k' i', sagging k' i' → k' = k) → merges k i false)
      ∧ ((∀ k i, ¬ sagging k i) → opens
        { id := 0, kind := .tierLow, grade := 1, pipe := none, station := none, tier := some l.tier, state := .opened
          opened := now, lastCall := some now, lastState := now, deadline := now + r.response1, overdue := false
          inSection := false, truncated := false, calls := 1, refs := [call], iso := none }))
    ∧ (¬(kind = .noGas ∧ s.plant.mon.tierLow.at l.tier = true) →
      (∀ k i last, candidate k i last →
        (∀ k' i' last', candidate k' i' last' → last' < last ∨ (last' = last ∧ k ≤ k')) → merges k i true)
      ∧ ((∀ k i last, ¬ candidate k i last) → opens
        { id := 0, kind := kind, grade := grade, pipe := some pipe, station := none, tier := some l.tier, state := .opened
          opened := now, lastCall := some now, lastState := now, deadline := now + response grade, overdue := false
          inSection := inSec, truncated := false, calls := 1, refs := [call], iso := none }))

/-- INCIDENT_UPDATE moves an incident forward only, at the present time; the deadline and OVERDUE stay; CLEARED
removes the link to an isolation on both sides. A state that is not later is WRONG_STATE, an unknown id NOT_FOUND
(R99, R100). INCIDENT_DEADLINE_EXPIRY at a reached deadline of an incident in OPEN or DISPATCHED sets OVERDUE and
queues INCIDENT_OVERDUE, and changes nothing else; an incident in a later state, or OVERDUE already, is left alone
(R101, R102). The model's choices in it: the layout of the request is log entry [13], the order of the values of the
reply [14], and OVERDUE in it, as bit 0 of a byte of its own, [15]. -/
def Obligations.IncidentProgress : Prop :=
  (∀ (s : State) (f : Frame) (st : IncidentState), s.handles f 0x0F → f.payload.length = 3 → s.allows f .operate →
     incidentStateOf (field f.payload 2 1) = some st → st ≠ .opened →
     let id := field f.payload 0 2
     let moved : Nat → Table Incident := fun slot =>
       tmod s.plant.reg.table slot fun i =>
         { i with state := st, lastState := s.link.partTime, iso := if st = .cleared then none else i.iso }
     (∀ slot i, s.plant.reg.byId id = some (slot, i) → i.state.code < st.code → (st ≠ .cleared ∨ i.iso = none) →
       exec .incidentUpdate s = .next (s.answered f
         { s.plant with reg := { s.plant.reg with table := moved slot } } []
         ⟨.ok, be 1 st.code ++ beFlag i.overdue⟩))
     ∧ (∀ slot i r, s.plant.reg.byId id = some (slot, i) → i.state.code < st.code → st = .cleared → i.iso = some r →
       exec .incidentUpdate s = .next (s.answered f
         { s.plant with
           reg := { s.plant.reg with table := moved slot }
           ctl := { s.plant.ctl with isos := tmod s.plant.ctl.isos r.slot fun y =>
             if y.serial = r.serial && y.incident = some i.id then { y with incident := none } else y } } []
         ⟨.ok, be 1 st.code ++ beFlag i.overdue⟩))
     ∧ (∀ slot i, s.plant.reg.byId id = some (slot, i) → st.code ≤ i.state.code →
       exec .incidentUpdate s = .next (s.answered f s.plant [] ⟨.wrongState, []⟩))
     ∧ (s.plant.reg.byId id = none → exec .incidentUpdate s = .next (s.answered f s.plant [] ⟨.notFound, []⟩)))
  ∧ (∀ (s : State) (id slot : Nat) (i : Incident), s.link.clockEnded = false → s.plant.reg.byId id = some (slot, i) →
       (i.state = .opened ∨ i.state = .dispatched → i.overdue = false → i.deadline ≤ s.link.partTime →
         exec (.incidentDeadlineExpiry id) s = .next (s.after
           { s.plant with reg := { s.plant.reg with
               table := tmod s.plant.reg.table slot fun x => { x with overdue := true } } }
           [s.notice .incidentOverdue i.id (be 1 i.kind.code ++ be 1 i.grade ++ be 1 i.state.code ++ be 4 i.deadline)]))
       ∧ ((i.state ≠ .opened ∧ i.state ≠ .dispatched) ∨ i.overdue = true ∨ s.link.partTime < i.deadline →
         exec (.incidentDeadlineExpiry id) s = .next (s.after s.plant [])))

/-! ## Isolations -/

/-- ISOLATE of 1 to 4 pipes, or of none and the pipe of the incident it names, by an origin with OPERATE, with no
incident named or one that is uncleared and not yet linked: the lowest empty slot takes a new isolation in PLANNING
with the next serial, the register links the incident, the trace is requested, and ISOLATION_STATE tells its creation
first; answered OK, or HELD with the HOLD flag, with slot and serial (R113, R114). The notice is laid out by R221 of
section 11.6; what it writes where it names no other isolation and no link is log entry [39]. -/
def Obligations.IsolateStartsPlanning : Prop :=
  ∀ (s : State) (f : Frame) (slot : Nat) (inc : Option (Nat × Incident)), s.handles f 0x10 → s.allows f .operate →
    s.plant.net.state = .active → s.plant.keyed →
    let ts := if field f.payload 0 1 = 0 then (inc.bind fun x => x.2.pipe).toList else targetsOf f.payload
    let hold := flagAt f.payload 1 0
    let serial := s.plant.ctl.serial
    let now := s.link.partTime
    f.payload.length = 4 + 2 * field f.payload 0 1 → field f.payload 0 1 ≤ 4 → ts ≠ [] →
    (∀ k ∈ targetsOf f.payload, k ≤ 6143 ∧ ∃ l, tget s.plant.net.links k = some l ∧ l.kind = .pipe) →
    (match inc with
      | none => field f.payload 2 2 = 0
      | some (k, x) => field f.payload 2 2 ≠ 0 ∧ s.plant.reg.byId (field f.payload 2 2) = some (k, x)
          ∧ x.state ≠ .cleared ∧ x.iso = none) →
    s.plant.trace.fifo.length < 8 → slot < 32 → tget s.plant.ctl.isos slot = none →
    (∀ k < slot, (tget s.plant.ctl.isos k).isSome) →
    ∃ t more, exec .isolate s = .next t
      ∧ tget t.plant.ctl.isos slot
        = some { serial := serial, requester := f.origin, incident := inc.map (·.2.id), targets := ts, hold := hold
                 state := .planning, requestTime := now }
      ∧ (∀ k, k ≠ slot → (tget t.plant.ctl.isos k).map (·.state) = (tget s.plant.ctl.isos k).map (·.state))
      ∧ t.plant.ctl.serial = (serial + 1) % 65536
      ∧ (∀ k, tget t.plant.reg.table k = match inc with
          | some (j, _) => if k = j then (tget s.plant.reg.table k).map fun x => { x with iso := some ⟨slot, serial⟩ }
            else tget s.plant.reg.table k
          | none => tget s.plant.reg.table k)
      ∧ (t.plant.trace.running.any (fun j => j.tracesSlot slot) = true ∨ ⟨slot, serial⟩ ∈ t.plant.trace.fifo
        ∨ ⟨slot, serial⟩ ∈ t.plant.trace.deferred)
      ∧ t.plant.net.generation = s.plant.net.generation ∧ t.plant.net.pipes = s.plant.net.pipes
      ∧ t.plant.mon = s.plant.mon
      ∧ t.link = (((s.notice .isolationState slot
          (be 2 serial ++ [0, 1, 0] ++ be 1 0 ++ be 1 255 ++ be 2 65535 ++ [0])) :: more).foldl ControlLink.queue s.link).finish f
          ⟨if hold then .held else .ok, be 1 slot ++ be 2 serial⟩

/-- TRACE_COMPLETION of an isolation in PLANNING that is not yet authorised. With the generation unmoved a plan brings
PLANNED, a failure FAILED with its reason, and a claim conflict FAILED CLAIMED or, with the HOLD flag, WAITING on the
claimer, or a new trace where the claimer has ended; with the generation moved the trace restarts, and at the third
run it fails UNSTABLE (R40, R41, R115, R116). What a plan holds (R32 to R39): the targets are in the section; a pipe
is in it exactly when it ends at a section node, and then both its ends are; of the valves at a section node and the
regulators whose outlet is one, those CLOSED are in the closure set with no order needed, those that can be worked
with one needed, and the others are passed and both their ends are section nodes; no section node is a source and no
section pipe another isolation's; the cut-off set is the LIVE and RECHARGING pipes that a flood without the section
and the closure set does not reach; the counts are sums. A first target that is no pipe fails, one that another
isolation claims conflicts. The run is computed at completion, log entry [7]; bytes of the notices, log entry [39]. -/
def Obligations.TraceCompletionOutcome : Prop :=
  (∀ (s : State) (r : IsoRef) (start restarts limit : Nat) (i : Isolation),
    s.plant.trace.running = some (.trace r start restarts limit) → tget s.plant.ctl.isos r.slot = some i →
    i.serial = r.serial → i.state = .planning → i.authTime = none → i.carry = none → s.plant.noneToIssue → s.plant.keyed →
    let e := Ev.start { s.plant with trace := { s.plant.trace with running := none } } s.link.partTime []
    let out := e.traceOutcome r.slot limit start i.targets
    let others : State → Prop := fun t => ∀ k, k ≠ r.slot → tget t.plant.ctl.isos k = tget s.plant.ctl.isos k
    (∀ p, s.plant.net.generation = start → out = .plan p →
      ∃ t, exec .traceCompletion s = .next t
        ∧ tget t.plant.ctl.isos r.slot = some { i with state := .planned, plan := some p }
        ∧ others t
        ∧ t.plant.net.generation = s.plant.net.generation ∧ t.plant.net.pipes = s.plant.net.pipes
        ∧ t.link = ControlLink.queue s.link (s.notice .isolationState r.slot
            (be 2 i.serial ++ [1, 3, 1] ++ be 1 0 ++ be 1 255 ++ be 2 65535 ++ [0])))
    ∧ (∀ x, s.plant.net.generation = start → out = .failure x →
      ∃ t j, exec .traceCompletion s = .next t ∧ tget t.plant.ctl.isos r.slot = some j
        ∧ j.state = .failed ∧ j.failure = some x ∧ j.endTime = some s.link.partTime ∧ j.incident = none
        ∧ t.plant.net.generation = s.plant.net.generation ∧ t.plant.net.pipes = s.plant.net.pipes)
    ∧ (∀ q, s.plant.net.generation = start → out = .conflict q → q.slot ≠ r.slot → i.hold = true →
      let live := (tget s.plant.ctl.isos q.slot).any fun w => w.serial = q.serial && !w.state.terminal
      ∃ t more, exec .traceCompletion s = .next t ∧ others t
        ∧ (live = true → more = []
          ∧ tget t.plant.ctl.isos r.slot = some { i with state := .waiting, waitingOn := some q })
        ∧ (live = false → (∃ j, tget t.plant.ctl.isos r.slot = some j ∧ j.state = .planning ∧ j.waitingOn = none)
          ∧ t.awaitsTrace r)
        ∧ t.plant.net.generation = s.plant.net.generation ∧ t.plant.net.pipes = s.plant.net.pipes
        ∧ t.link = (s.notice .isolationState r.slot
            (be 2 i.serial ++ [1, 2, 2] ++ be 1 1 ++ be 1 q.slot ++ be 2 q.serial ++ [0]) :: more).foldl
              ControlLink.queue s.link)
    ∧ (∀ q, s.plant.net.generation = start → out = .conflict q → i.hold = false →
      ∃ t j, exec .traceCompletion s = .next t ∧ tget t.plant.ctl.isos r.slot = some j
        ∧ j.state = .failed ∧ j.failure = some .claimed ∧ j.endTime = some s.link.partTime
        ∧ t.plant.net.generation = s.plant.net.generation ∧ t.plant.net.pipes = s.plant.net.pipes)
    ∧ (s.plant.net.generation ≠ start → restarts < 2 →
      exec .traceCompletion s = .next (s.after
        { s.plant with
          ctl := { s.plant.ctl with isos := tmod s.plant.ctl.isos r.slot fun y => { y with restarts := restarts + 1 } }
          trace := { s.plant.trace with
            running := some (.trace r s.plant.net.generation (restarts + 1) s.plant.trace.limit) } } []))
    ∧ (s.plant.net.generation ≠ start → 2 ≤ restarts →
      ∃ t j, exec .traceCompletion s = .next t ∧ tget t.plant.ctl.isos r.slot = some j
        ∧ j.state = .failed ∧ j.failure = some .unstable ∧ j.endTime = some s.link.partTime))
  ∧ ∀ (e : Ev) (slot limit gen : Nat) (targets : List Nat), tableWf e.p.net.links → tableWf e.p.net.pipes →
    let n := e.p.net
    let claimer : Nat → Option Nat := fun k => (tget n.pipes k).bind fun q => q.claim
    (∀ p, e.traceOutcome slot limit gen targets = .plan p →
      let shut : Nat → Prop := fun k => ∃ c, tget n.controls k = some c ∧ c.position = .closed
      let works : Nat → Link → Prop := fun k l => l.operability? = some .operable
        ∧ ∀ x ∈ n.tags, ¬(x.2.link = k ∧ x.2.kind = .doNotOperate)
      let met : Link → Prop := fun l => l.endB ∈ p.nodes ∨ (l.kind = .valve ∧ l.endA ∈ p.nodes)
      let rest : FloodView := { n.floodView with
        edges := (n.floodView.edges.filter fun x => !p.pipes.contains x.id).map fun x =>
          { x with isOpen := x.isOpen && !p.closure.any fun m => m.link = x.id } }
      p.gen = gen ∧ (∀ k ∈ targets, k ∈ p.pipes)
      ∧ (∀ k l, tget n.links k = some l → l.kind = .pipe →
        (k ∈ p.pipes ↔ l.endA ∈ p.nodes ∨ l.endB ∈ p.nodes) ∧ (k ∈ p.pipes → l.endA ∈ p.nodes ∧ l.endB ∈ p.nodes))
      ∧ (∀ k l, tget n.links k = some l → l.kind ≠ .pipe →
        (⟨k, false⟩ ∈ p.closure ↔ met l ∧ shut k) ∧ (⟨k, true⟩ ∈ p.closure ↔ met l ∧ ¬ shut k ∧ works k l)
        ∧ (k ∈ p.passed ↔ met l ∧ ¬ shut k ∧ ¬ works k l) ∧ (k ∈ p.passed → l.endA ∈ p.nodes ∧ l.endB ∈ p.nodes))
      ∧ (∀ k ∈ p.nodes, ∀ x, tget n.nodes k = some x → x.source = false)
      ∧ (∀ k ∈ p.pipes, ∀ c, claimer k = some c → c = slot)
      ∧ (p.pipes.Nodup ∧ p.nodes.Nodup ∧ p.passed.Nodup ∧ (p.closure.map fun m => m.link).Nodup)
      ∧ p.pipes.length + p.passed.length ≤ limit ∧ p.closure.length ≤ 48
      ∧ (∀ k q l, tget n.pipes k = some q → tget n.links k = some l →
        (k ∈ p.cutoff ↔ k ∉ p.pipes ∧ (q.supply = .live ∨ q.supply = .recharging)
          ∧ l.endA ∉ rest.reached ∧ l.endB ∉ rest.reached))
      ∧ p.pipeCounts = sumCounts (p.pipes.map fun k => ((tget n.links k).map Link.service).getD {})
      ∧ p.cutoffCounts = sumCounts (p.cutoff.map fun k => ((tget n.links k).map Link.service).getD {}))
    ∧ (∀ k ts, targets = k :: ts → (∀ l, tget n.links k = some l → l.kind ≠ .pipe) →
      e.traceOutcome slot limit gen targets = .failure .targetNotPipe)
    ∧ ∀ k ts l c i, targets = k :: ts → tget n.links k = some l → l.kind = .pipe → claimer k = some c → c ≠ slot →
      tget e.p.ctl.isos c = some i → e.traceOutcome slot limit gen targets = .conflict ⟨c, i.serial⟩

/-- RECOMPUTE_COMPLETION of a recompute under which nothing it reads has changed and no node or pipe was created: every
pipe is fed exactly when the flood from the feeding sources reaches one of its ends; a pipe claimed in VERIFYING or
EFFECTIVE is ISOLATED, one claimed in RESTORING or RELIGHTING RECHARGING when fed and ISOLATED when not, every other
LIVE when fed and DEAD when not; NEW is cleared; a pipe that loses supply has its service counts pending; every node's
fed flag is written; the applied generation is the start (R43 to R45, R181). An isolation that the checks of the same
event end (R195) releases its claims, with the supply change of R3, and the generation goes up by one for the event
(R8). While none ends, a pipe with gas keeps its owner only with pending; one without gas is owned by its claimer's
record, or keeps record 0 or a record whose isolation still shuts its valves, or passes to that of the isolation that
cut it off and was authorised first, the lowest slot where times are shared, or to record 0 (R182, R183). -/
def Obligations.RecomputeAssignsSupply : Prop :=
  ∀ (s : State) (start : Nat) (v : FloodView), s.plant.trace.running = some (.recompute start [] [] [v]) → s.plant.keyed →
    v = s.plant.net.floodView →
    let reached := v.reached
    let n := s.plant.net
    let iso : Nat → Option Isolation := fun c => tget s.plant.ctl.isos c
    let shuts : Isolation → Prop := fun i => i.state = .closing ∨ i.state = .verifying ∨ i.state = .effective
    let recordOf : Nat → Option Nat := fun c => (iso c).bind (·.outage)
    ∃ t, exec .recomputeCompletion s = .next t ∧
      let ends : Nat → Bool := fun c => (iso c).any (fun i => i.state = .restoring || i.state = .relighting)
        && (tget t.plant.ctl.isos c).any (fun j => j.state = .ended)
      (∀ k l, tget n.links k = some l → ∀ p, tget n.pipes k = some p →
          let fed := v.edges.any fun x => x.id = k && (reached.contains x.endA || reached.contains x.endB)
          let supply : Supply :=
            match (p.claim.bind iso).map Isolation.state with
            | some .verifying | some .effective => .isolated
            | some .restoring | some .relighting => if fed then .recharging else .isolated
            | _ => if fed then .live else .dead
          let gone := p.claim.any ends
          ∃ q, tget t.plant.net.pipes k = some q ∧ q.fed = fed ∧ q.isNew = false
            ∧ q.supply = (if gone then supply.released else supply) ∧ q.claim = (if gone then none else p.claim)
            ∧ q.pending = (if (supply = .dead ∨ supply = .isolated)
                ∧ (p.supply = .live ∨ p.supply = .recharging ∨ p.isNew = true) then l.service else p.pending)
            ∧ ((∀ c, ends c = false) →
              ((supply = .live ∨ supply = .recharging) → q.owner = if q.pending = ⟨0, 0, 0⟩ then none else p.owner)
              ∧ (supply = .dead ∨ supply = .isolated →
                (∀ c, p.claim = some c → q.owner = recordOf c)
                ∧ (p.claim = none → p.owner = some 0 → q.owner = some 0)
                ∧ (p.claim = none → ∀ x, p.owner = some x → x ≠ 0 →
                  let kept : Prop := ∃ o r i, tget s.plant.led.records x = some o ∧ o.iso = some r ∧ iso r.slot = some i
                    ∧ i.serial = r.serial ∧ shuts i
                  kept → q.owner = some x)
                ∧ (p.claim = none →
                  (∀ x, p.owner = some x → x ≠ 0 ∧ ¬ ∃ o r i, tget s.plant.led.records x = some o ∧ o.iso = some r
                    ∧ iso r.slot = some i ∧ i.serial = r.serial ∧ shuts i) →
                  (∀ c i, iso c = some i → shuts i → k ∈ i.cutoff →
                    (∀ d j, iso d = some j → shuts j → k ∈ j.cutoff →
                      i.authTime.getD 0 < j.authTime.getD 0 ∨ (i.authTime.getD 0 = j.authTime.getD 0 ∧ c ≤ d)) →
                    q.owner = recordOf c)
                  ∧ ((∀ c i, iso c = some i → shuts i → k ∉ i.cutoff) → q.owner = some 0)))))
      ∧ (∀ k, tget t.plant.net.nodes k = (tget n.nodes k).map fun x => { x with fed := reached.contains k })
      ∧ t.plant.trace.applied = start ∧ t.plant.net.links = n.links ∧ t.plant.mon = s.plant.mon
      ∧ ((∀ c, ends c = false) → t.plant.net.generation = n.generation ∧ t.plant.reg = s.plant.reg)
      ∧ ((∃ c, ends c = true) → t.plant.net.generation = min 4294967295 (n.generation + 1))

/-- The flood of a recompute reaches exactly the nodes that gas can get to from a feeding source: over a pipe and an
open valve both ways, over an open regulator from its inlet to its outlet (`Edge.carries`, written from the records;
R38, R43). -/
def Obligations.FloodReachesWhatGasReaches : Prop :=
  ∀ (v : FloodView) (n : Nat), n ∈ v.reached ↔
    ∃ src ∈ v.sources, Relation.ReflTransGen (fun a b => ∃ x ∈ v.edges, x.carries a b) src n

/-- Every request that acts on an existing isolation names it by slot and serial: a slot above 31 is BAD_VALUE, and a
slot that is empty or holds another serial NOT_FOUND, after the right check of the request and before any check of
state (R112). The model's choices in it: the layouts of the requests are log entry [13], the 15 bytes of every RESTORE
[57]. -/
def Obligations.IsolationNamedBySlotAndSerial : Prop :=
  ∀ (s : State) (f : Frame) (c : Instr) (kind len : Nat) (right : Option Right),
    (c, kind, len, right) ∈
      [(.authorise, 0x11, 3, some .authorise), (.cancel, 0x12, 3, some .operate), (.accept, 0x13, 3, some .authorise),
       (.isolationRelease, 0x14, 3, some .operate), (.isolationRead, 0x15, 6, none), (.restore, 0x17, 15, some .operate),
       (.rampResume, 0x18, 3, some .operate), (.reclose, 0x19, 3, some .operate), (.closeOut, 0x1B, 3, some .authorise)] →
    s.handles f kind → f.payload.length = len →
    (∀ x, right = some x → ¬ s.allows f x → exec c s = .next (s.answered f s.plant [] ⟨.noRight, []⟩))
    ∧ ((∀ x, right = some x → s.allows f x) →
      (31 < field f.payload 0 1 → exec c s = .next (s.answered f s.plant [] ⟨.badValue, []⟩))
      ∧ (field f.payload 0 1 ≤ 31 →
        (∀ i, tget s.plant.ctl.isos (field f.payload 0 1) = some i → i.serial ≠ field f.payload 1 2) →
        exec c s = .next (s.answered f s.plant [] ⟨.notFound, []⟩)))

/-- AUTHORISE of a PLANNED isolation by an origin with the right, other than its requester or in an emergency, with a
plan of the present generation and no member it does not hold at four holders: it is authorised by that origin, now if
it was not before, with the mark clear; it is CLOSING while a member stands OPEN and past it when all are CLOSED; the
members not held before are held, and with the holds kept from an earlier authorisation, when they are members, the
hold set is the closure set; each section pipe present is claimed by it and no other pipe is; the outage record it has
is kept, or one opened in its name; the generation goes up by one (R118, R119, R121, R122; the orders of step 6
apart). The layout of the request is log entry [13]. -/
def Obligations.AuthoriseClaimsAndHolds : Prop :=
  ∀ (s : State) (f : Frame) (i : Isolation) (pl : Plan), s.handles f 0x11 → s.plant.keyed → f.payload.length = 3 → s.allows f .authorise →
    field f.payload 0 1 ≤ 31 → tget s.plant.ctl.isos (field f.payload 0 1) = some i → i.serial = field f.payload 1 2 →
    i.state = .planned → i.plan = some pl → pl.gen = s.plant.net.generation → i.closure.Nodup →
    let slot := field f.payload 0 1
    let urgent : Prop := ∃ id k x, i.incident = some id ∧ s.plant.reg.byId id = some (k, x) ∧ x.grade = 1
    let fresh : Nat → Prop := fun l => l ∈ i.closure ∧ l ∉ i.holds
    (f.origin ≠ i.requester ∨ urgent) →
    (∀ l ∈ i.closure, ∀ c, tget s.plant.net.controls l = some c → c.holders.length < 4 ∨ slot ∈ c.holders) →
    ∃ t j, exec .authorise s = .next t ∧ tget t.plant.ctl.isos slot = some j
      ∧ j.authoriser = some f.origin ∧ j.authTime = some (i.authTime.getD s.link.partTime)
      ∧ j.carry = none ∧ j.holds = i.holds ++ i.closure.filter (fun l => l ∉ i.holds)
      ∧ ((∀ l ∈ i.holds, l ∈ i.closure) → ∀ l, l ∈ j.holds ↔ l ∈ i.closure)
      ∧ ((∃ l ∈ i.closure, ∃ c, tget s.plant.net.controls l = some c ∧ c.position = .opened) → j.state = .closing)
      ∧ ((∀ l ∈ i.closure, ∃ c, tget s.plant.net.controls l = some c ∧ c.position = .closed) →
          j.state = .verifying ∨ j.state = .effective)
      ∧ (∀ k p, tget s.plant.net.pipes k = some p → ∃ q, tget t.plant.net.pipes k = some q
          ∧ q.claim = (if k ∈ pl.pipes then some slot else if p.claim = some slot then none else p.claim)
          ∧ q.pending = p.pending)
      ∧ (∀ l, fresh l → (tget t.plant.net.controls l).map (·.holders)
          = (tget s.plant.net.controls l).map fun c => c.holders ++ [slot])
      ∧ (∀ l, ¬ fresh l → (tget t.plant.net.controls l).map (·.holders)
          = (tget s.plant.net.controls l).map (·.holders))
      ∧ (∀ k, i.outage = some k → j.outage = some k)
      ∧ (i.outage = none → (∃ k, 1 ≤ k ∧ k ≤ 63 ∧ tget s.plant.led.records k = none) →
        ∃ k o, j.outage = some k ∧ 1 ≤ k ∧ k ≤ 63 ∧ tget s.plant.led.records k = none ∧ tget t.plant.led.records k = some o
          ∧ o.iso = some ⟨slot, i.serial⟩ ∧ o.state = .opened ∧ o.opened = s.link.partTime)
      ∧ t.plant.net.generation = min 4294967295 (s.plant.net.generation + 1)
      ∧ t.plant.net.links = s.plant.net.links ∧ t.plant.net.nodes = s.plant.net.nodes ∧ t.plant.mon = s.plant.mon

/-- AUTHORISE that does not go through: without the right NO_RIGHT, in another state WRONG_STATE, by the requester
outside an emergency SAME_ORIGIN, with nothing changed; with a plan of an older generation the isolation goes back to
PLANNING with the carry-through mark for the origin, cause RETRACED and its old plan, its trace is requested, no claim
or hold changes, and, with nothing waiting to be issued, no order, and the answer is RETRACED (R118, R119, R120). The
bytes of its notice that name no other isolation and no link are log entry [39]. The layout of the request is log
entry [13]. -/
def Obligations.AuthoriseTurnedBack : Prop :=
  ∀ (s : State) (f : Frame) (i : Isolation), s.handles f 0x11 → s.plant.keyed → f.payload.length = 3 → field f.payload 0 1 ≤ 31 →
    tget s.plant.ctl.isos (field f.payload 0 1) = some i → i.serial = field f.payload 1 2 →
    let slot := field f.payload 0 1
    let urgent : Prop := ∃ id k x, i.incident = some id ∧ s.plant.reg.byId id = some (k, x) ∧ x.grade = 1
    (¬ s.allows f .authorise → exec .authorise s = .next (s.answered f s.plant [] ⟨.noRight, []⟩))
    ∧ (s.allows f .authorise → i.state ≠ .planned →
      exec .authorise s = .next (s.answered f s.plant [] ⟨.wrongState, []⟩))
    ∧ (s.allows f .authorise → i.state = .planned → f.origin = i.requester → ¬ urgent →
      exec .authorise s = .next (s.answered f s.plant [] ⟨.sameOrigin, []⟩))
    ∧ (s.allows f .authorise → i.state = .planned → (f.origin ≠ i.requester ∨ urgent) →
      (∀ pl, i.plan = some pl → pl.gen ≠ s.plant.net.generation) →
      ∃ t more j, exec .authorise s = .next t ∧ tget t.plant.ctl.isos slot = some j
        ∧ j.state = .planning ∧ j.carry = some f.origin ∧ j.plan = i.plan ∧ j.holds = i.holds
        ∧ t.awaitsTrace ⟨slot, i.serial⟩ ∧ (s.plant.noneToIssue → t.plant.ctl.orders = s.plant.ctl.orders)
        ∧ (∀ k, (tget t.plant.net.controls k).map (·.holders) = (tget s.plant.net.controls k).map (·.holders))
        ∧ t.plant.net.generation = s.plant.net.generation ∧ t.plant.net.pipes = s.plant.net.pipes
        ∧ t.link = ((s.notice .isolationState slot
            (be 2 i.serial ++ [3, 1, 4] ++ be 1 0 ++ be 1 255 ++ be 2 65535 ++ [0]) :: more).foldl
              ControlLink.queue s.link).finish f ⟨.retraced, []⟩)

/-- CANCEL ends an isolation in PLANNING, WAITING or PLANNED: CANCELLED now, its incident link gone. One never
authorised leaves every pipe and the generation; one sent back to planning gives up its holds and claims and bumps the
generation. In any later state it is refused WRONG_STATE (R126, R127). The layout of the request is log entry [13]. -/
def Obligations.CancelEndsIsolation : Prop :=
  ∀ (s : State) (f : Frame) (i : Isolation), s.handles f 0x12 → s.plant.keyed → f.payload.length = 3 → s.allows f .operate →
    field f.payload 0 1 ≤ 31 → tget s.plant.ctl.isos (field f.payload 0 1) = some i → i.serial = field f.payload 1 2 →
    let slot := field f.payload 0 1
    (i.state = .planning ∨ i.state = .waiting ∨ i.state = .planned →
      ∃ t j, exec .cancel s = .next t ∧ tget t.plant.ctl.isos slot = some j
        ∧ j.state = .cancelled ∧ j.endTime = some s.link.partTime ∧ j.incident = none
        ∧ t.plant.mon = s.plant.mon ∧ t.plant.net.links = s.plant.net.links
        ∧ (i.authTime = none → t.plant.net.pipes = s.plant.net.pipes ∧ t.plant.net.generation = s.plant.net.generation)
        ∧ (i.authTime.isSome →
          j.holds = [] ∧ j.toIssue = [] ∧ (∀ k q, tget t.plant.net.pipes k = some q → q.claim ≠ some slot)
          ∧ t.plant.net.generation = min 4294967295 (s.plant.net.generation + 1)))
    ∧ (i.state = .closing ∨ i.state = .verifying ∨ i.state = .effective ∨ i.state = .restoring ∨ i.state = .relighting
        ∨ i.state.terminal = true →
      exec .cancel s = .next (s.answered f s.plant [] ⟨.wrongState, []⟩))

/-- Verification. At the reached verify timer the isolation is EFFECTIVE and UNVERIFIED when no section station is
left to read, EFFECTIVE and VERIFIED when none stands above its dead threshold, and stays in VERIFYING with
PASSING_SUSPECTED otherwise; ACCEPT under AUTHORISE then brings it to EFFECTIVE, and in any other case is refused
WRONG_STATE (R78, R129, R130, R131). The layout of ACCEPT is log entry [13]. -/
def Obligations.VerificationEnds : Prop :=
  (∀ (s : State) (slot d : Nat) (i : Isolation), s.link.clockEnded = false → s.plant.keyed → tget s.plant.ctl.isos slot = some i →
    i.state = .verifying → i.verifyTimer = some d → d ≤ s.link.partTime →
    let live := s.plant.mon.stations.filter fun x => (x.2.cfg.node.any fun n => i.nodes.contains n)
      && (x.2.rt.freshness = .fresh || x.2.rt.freshness = .suspect)
    let high := live.filter fun x => s.plant.mon.dead.at x.2.cfg.tier < roundDiv x.2.rt.s16 16
    ∃ t j, exec (.verifyTimerExpiry slot) s = .next t ∧ tget t.plant.ctl.isos slot = some j ∧ j.verifyTimer = none
      ∧ (live = [] → j.state = .effective ∧ j.result = .unverified ∧ j.effectTime = some s.link.partTime)
      ∧ (live ≠ [] → high = [] → j.state = .effective ∧ j.result = .verified ∧ j.effectTime = some s.link.partTime)
      ∧ (high ≠ [] → j.state = .verifying ∧ j.result = .passingSuspected ∧ j.decay = i.decay)
      ∧ t.plant.net.pipes = s.plant.net.pipes ∧ t.plant.net.generation = s.plant.net.generation
      ∧ t.plant.mon = s.plant.mon)
  ∧ ∀ (s : State) (f : Frame) (i : Isolation), s.handles f 0x13 → s.plant.keyed → f.payload.length = 3 → s.allows f .authorise →
    field f.payload 0 1 ≤ 31 → tget s.plant.ctl.isos (field f.payload 0 1) = some i → i.serial = field f.payload 1 2 →
    (i.state = .verifying → i.result = .passingSuspected →
      ∃ t j, exec .accept s = .next t ∧ tget t.plant.ctl.isos (field f.payload 0 1) = some j ∧ j.state = .effective
        ∧ j.result = .passingSuspected ∧ j.effectTime = some s.link.partTime ∧ j.verifyTimer = none ∧ j.decay = false
        ∧ t.plant.net.pipes = s.plant.net.pipes ∧ t.plant.net.generation = s.plant.net.generation)
    ∧ (i.state ≠ .verifying ∨ i.result ≠ .passingSuspected →
      exec .accept s = .next (s.answered f s.plant [] ⟨.wrongState, []⟩))

/-- ISOLATION_RELEASE needs OPERATE, frees a terminal isolation's slot at once, changes nothing else, and refuses any
other isolation WRONG_STATE (R134). ISOLATION_READ answers any origin with a part's length and its entries from the
start position, when they all fit (R135). The model's choices in it: the layouts of the requests are log entry [13],
that of the reply [14], the flag of an entry of the closure set [15]. -/
def Obligations.IsolationReleasedAndRead : Prop :=
  (∀ (s : State) (f : Frame), s.handles f 0x14 → f.payload.length = 3 → ¬ s.allows f .operate →
    exec .isolationRelease s = .next (s.answered f s.plant [] ⟨.noRight, []⟩))
  ∧ (∀ (s : State) (f : Frame) (i : Isolation), s.handles f 0x14 → f.payload.length = 3 → s.allows f .operate →
    field f.payload 0 1 ≤ 31 → tget s.plant.ctl.isos (field f.payload 0 1) = some i → i.serial = field f.payload 1 2 →
    (i.state = .ended ∨ i.state = .failed ∨ i.state = .cancelled →
      exec .isolationRelease s = .next (s.answered f
        { s.plant with ctl := { s.plant.ctl with isos := terase s.plant.ctl.isos (field f.payload 0 1) } } [] ⟨.ok, []⟩))
    ∧ (¬(i.state = .ended ∨ i.state = .failed ∨ i.state = .cancelled) →
      exec .isolationRelease s = .next (s.answered f s.plant [] ⟨.wrongState, []⟩)))
  ∧ ∀ (s : State) (f : Frame) (i : Isolation) (xs : List (List Byte)), s.handles f 0x15 → f.payload.length = 6 →
    field f.payload 0 1 ≤ 31 → tget s.plant.ctl.isos (field f.payload 0 1) = some i → i.serial = field f.payload 1 2 →
    i.part (field f.payload 3 1) = some xs →
    (∃ k, exec .isolationRead s = .next (s.answered f s.plant []
      ⟨.ok, be 2 xs.length ++ ((xs.drop (field f.payload 4 2)).take k).flatten⟩)
      ∧ (((xs.drop (field f.payload 4 2)).flatten.length ≤ 1013) → xs.length ≤ field f.payload 4 2 + k))

/-! ## Valve orders -/

/-- VALVE_REPORT ACCEPT of an ISSUED order makes it ACCEPTED now and changes nothing else; of a WITHDRAWN order it is
LATE, shows the finish cause and changes nothing; of an ACCEPTED, DONE or FAILED order it is refused WRONG_STATE, of
an unknown order NOT_FOUND (R146, R147). ORDER_OVERDUE at a reached expiry sets OVERDUE on an ISSUED order, with
notice ORDER_OVERDUE, and does nothing to one in another state (R145). That the finish cause is the last byte of the
LATE reply is log entry [18]; the order of the values of a reply is [14]. -/
def Obligations.OrderAcceptedOrOverdue : Prop :=
  (∀ (s : State) (f : Frame), s.handles f 0x16 → f.payload.length = 3 → field f.payload 0 1 = 0 → s.allows f .operate →
    s.plant.net.state = .active →
    let id := field f.payload 1 2
    (∀ o l c op, tget s.plant.ctl.orders id = some o → o.state = .issued → tget s.plant.net.links o.link = some l →
      l.operability? = some op → tget s.plant.net.controls o.link = some c →
      exec .valveReportAccept s = .next (s.answered f
        { s.plant with ctl := { s.plant.ctl with orders := tmod s.plant.ctl.orders id fun y =>
            { y with state := .accepted, acceptTime := some s.link.partTime } } } []
        ⟨.ok, be 2 id ++ [1] ++ be 2 o.link ++ be 1 c.position.code ++ be 1 op.code ++ be 4 s.plant.net.generation⟩))
    ∧ (∀ o, tget s.plant.ctl.orders id = some o → (o.state = .accepted ∨ o.state = .done ∨ o.state = .failed) →
      exec .valveReportAccept s = .next (s.answered f s.plant [] ⟨.wrongState, []⟩))
    ∧ (∀ o l c op x, tget s.plant.ctl.orders id = some o → o.state = .withdrawn → o.cause = some x →
      tget s.plant.net.links o.link = some l → l.operability? = some op → tget s.plant.net.controls o.link = some c →
      exec .valveReportAccept s = .next (s.answered f s.plant []
        ⟨.late, be 2 id ++ [4] ++ be 2 o.link ++ be 1 c.position.code ++ be 1 op.code ++ be 4 s.plant.net.generation
          ++ be 1 x.code⟩))
    ∧ (tget s.plant.ctl.orders id = none →
      exec .valveReportAccept s = .next (s.answered f s.plant [] ⟨.notFound, []⟩)))
  ∧ ∀ (s : State) (id : Nat) (o : Order), s.link.clockEnded = false → tget s.plant.ctl.orders id = some o →
    (o.state = .issued → o.overdue = false → o.expiry ≤ s.link.partTime →
      exec (.orderOverdue id) s = .next (s.after
        { s.plant with ctl := { s.plant.ctl with orders := tmod s.plant.ctl.orders id fun y => { y with overdue := true } } }
        [s.notice .orderOverdue id
          (be 2 o.link ++ be 1 o.action.code ++ be 1 o.iso.slot ++ be 2 o.iso.serial ++ be 4 o.issued)]))
    ∧ (o.state ≠ .issued ∨ o.overdue = true ∨ s.link.partTime < o.expiry →
      exec (.orderOverdue id) s = .next (s.after s.plant []))

/-- VALVE_REPORT OPERATED of an outstanding order: DONE now with cause OPERATED, accepted now if it was not before,
the link's order field cleared, ORDER_END first among the notices, the link at the position the order's action gives,
and one bump for the whole event, exactly when that is a change. Of a WITHDRAWN or FAILED order whose link already
stands so it is LATE and changes nothing (R143, R146, R148, R149). The order of the values of a reply is log entry
[14]. -/
def Obligations.OrderOperated : Prop :=
  ∀ (s : State) (f : Frame) (o : Order) (c : ControlRt), s.handles f 0x16 → f.payload.length = 3 → field f.payload 0 1 = 1 → s.plant.keyed →
    s.allows f .operate → s.plant.net.state = .active → tget s.plant.ctl.orders (field f.payload 1 2) = some o →
    tget s.plant.net.controls o.link = some c →
    let id := field f.payload 1 2
    let pos : Position := match o.action with | .close => .closed | .reopen => .opened
    (o.state = .issued ∨ o.state = .accepted → c.order = some id → s.plant.noneToIssue →
      (o.action = .reopen → c.holders = []) →
      ∃ t more body, exec .valveReportOperated s = .next t
        ∧ tget t.plant.ctl.orders id = some { o with
            state := .done, acceptTime := some (o.acceptTime.getD s.link.partTime), finishTime := some s.link.partTime
            cause := some .operated }
        ∧ tget t.plant.net.controls o.link = some { c with position := pos, order := none }
        ∧ t.plant.net.generation
          = (if c.position = pos then s.plant.net.generation else min 4294967295 (s.plant.net.generation + 1))
        ∧ t.plant.net.links = s.plant.net.links ∧ t.plant.net.nodes = s.plant.net.nodes
        ∧ t.link = ((s.notice .orderEnd id (be 2 o.link ++ be 1 o.action.code ++ [2, 0] ++ be 1 o.iso.slot
            ++ be 2 o.iso.serial) :: more).foldl ControlLink.queue s.link).finish f ⟨.ok, be 2 id ++ [2] ++ body⟩)
    ∧ (o.state = .withdrawn ∨ o.state = .failed → c.position = pos →
      ∃ body, exec .valveReportOperated s = .next (s.answered f s.plant [] ⟨.late, body⟩))

/-- VALVE_REPORT CANNOT_OPERATE of an outstanding order makes its link STUCK and bumps the generation once; nothing
else of any link and no position changes. The link's outstanding order is FAILED with cause CANNOT_OPERATE and its
ORDER_END is the first notice, entries for the link leave every to-issue list, and the isolations in CLOSING whose
CLOSE order or entry it was go back to planning (`State.LeftUnworkable`; R124, R150, R151); an OPEN order of an
isolation in RESTORING brings RESTORE_BLOCKED next. VALVE_REPORT FOUND gives a valve or regulator the position found,
with one bump for the event when that is a change; a position it has already changes nothing (R5, R148, R152). The
order of the values of a reply is log entry [14], what the reply of FOUND carries [18]. -/
def Obligations.CannotOperateAndFound : Prop :=
  (∀ (s : State) (f : Frame) (o : Order), s.handles f 0x16 → f.payload.length = 3 → field f.payload 0 1 = 2 → s.plant.keyed →
    s.allows f .operate → s.plant.net.state = .active → tget s.plant.ctl.orders (field f.payload 1 2) = some o →
    (o.state = .issued ∨ o.state = .accepted) →
    let id := field f.payload 1 2
    ∃ t, exec .valveReportCannotOperate s = .next t ∧ s.LeftUnworkable t o.link .cannotOperate
      ∧ (∀ c, tget s.plant.net.controls o.link = some c → c.order = some id →
        let ended := s.notice .orderEnd id
          (be 2 o.link ++ be 1 o.action.code ++ [3, 1] ++ be 1 o.iso.slot ++ be 2 o.iso.serial)
        (∃ more body, t.link = ((ended :: more).foldl ControlLink.queue s.link).finish f ⟨.ok, be 2 id ++ [3] ++ body⟩)
        ∧ (∀ i, o.action = .reopen → s.plant.noneToIssue → tget s.plant.ctl.isos o.iso.slot = some i →
          i.serial = o.iso.serial → i.state = .restoring →
          ∃ more body,
            t.link = ((ended :: s.notice .restoreBlocked o.iso.slot (be 2 o.iso.serial ++ be 2 o.link) :: more).foldl
              ControlLink.queue s.link).finish f ⟨.ok, be 2 id ++ [3] ++ body⟩))
      ∧ (∀ k, tget t.plant.net.links k = if k = o.link then (tget s.plant.net.links k).map Link.stick
          else tget s.plant.net.links k)
      ∧ t.plant.net.generation = min 4294967295 (s.plant.net.generation + 1)
      ∧ (∀ k, (tget t.plant.net.controls k).map (·.position) = (tget s.plant.net.controls k).map (·.position))
      ∧ t.plant.net.pipes = s.plant.net.pipes ∧ t.plant.net.nodes = s.plant.net.nodes ∧ t.plant.mon = s.plant.mon)
  ∧ ∀ (s : State) (f : Frame) (l : Link) (c : ControlRt) (pos : Position), s.handles f 0x16 → f.payload.length = 4 → s.plant.keyed →
    field f.payload 0 1 = 3 → s.allows f .operate → s.plant.net.state = .active → field f.payload 1 2 ≤ 6143 →
    tget s.plant.net.links (field f.payload 1 2) = some l → l.kind ≠ .pipe →
    tget s.plant.net.controls (field f.payload 1 2) = some c → positionOf (field f.payload 3 1) = some pos →
    let link := field f.payload 1 2
    (c.position = pos →
      exec .valveReportFound s = .next (s.answered f s.plant [] ⟨.ok, be 1 pos.code⟩))
    ∧ (c.position ≠ pos → ∃ t, exec .valveReportFound s = .next t
      ∧ (tget t.plant.net.controls link).map (·.position) = some pos
      ∧ (∀ k, k ≠ link → (tget t.plant.net.controls k).map (·.position) = (tget s.plant.net.controls k).map (·.position))
      ∧ t.plant.net.generation = min 4294967295 (s.plant.net.generation + 1)
      ∧ t.plant.net.links = s.plant.net.links ∧ t.plant.mon = s.plant.mon)

/-! ## Restoration and relight -/

/-- RESTORE of an isolation in CLOSING, VERIFYING or EFFECTIVE, with parameters in range, no work tag on its section
and a member that no other isolation holds: RESTORING with no holds, a ramp of the parameters sent or the tier's, its
clock started when a member stands OPEN and its start timer set otherwise, and one bump (R156, R157, R158, R160,
R161). It leaves the holder list of every link it held, and while no other isolation is in CLOSING no other holder
list changes. Each member that nobody else holds and that stands CLOSED, OPERABLE, free of a DO_NOT_OPERATE tag and of
an order has an OPEN order issued now in its name, or waits in its to-issue list; a member that another isolation
holds gets no OPEN order (R158, R159). The model's choices in it: the layout of the request is log entry [13], its
presence flags [15], the width of its interval [56], and the bytes of an absent parameter, in the payload but not
read, [57]. -/
def Obligations.RestoreStartsRamp : Prop :=
  ∀ (s : State) (f : Frame) (i : Isolation), s.handles f 0x17 → s.plant.keyed → f.payload.length = 15 → s.allows f .operate →
    field f.payload 0 1 ≤ 31 → tget s.plant.ctl.isos (field f.payload 0 1) = some i → i.serial = field f.payload 1 2 →
    (i.state = .closing ∨ i.state = .verifying ∨ i.state = .effective) →
    let r := rampParams f.payload
    let slot := field f.payload 0 1
    let e := s.ev
    let tier := e.rampTier i
    r.inRange = true → e.workInSection i = none → e.heldByOthers slot i = none →
    ∃ t j ramp, exec .restore s = .next t ∧ tget t.plant.ctl.isos slot = some j ∧ j.state = .restoring ∧ j.holds = []
      ∧ j.ramp = some ramp
      ∧ ramp.increment = r.increment.getD (match tier with | .lp => 20 | .mp => 600 | .ip => 1000)
      ∧ ramp.interval = r.interval.getD 60 ∧ ramp.target = r.target.getD (s.plant.ctl.target.at tier)
      ∧ ramp.band = r.band.getD 50 ∧ ramp.stall = none ∧ ramp.complete = false
      ∧ ((∃ l ∈ i.closure, e.isOpen l = true) → ramp.t0 = some s.link.partTime ∧ ramp.startTimer = none)
      ∧ ((∀ l ∈ i.closure, e.isOpen l = false) →
        ramp.t0 = none ∧ ramp.startTimer = some (s.link.partTime + s.plant.ctl.verifyTime))
      ∧ (∀ l ∈ i.holds, ∀ c, tget t.plant.net.controls l = some c → slot ∉ c.holders)
      ∧ ((∀ k x, tget s.plant.ctl.isos k = some x → x.state = .closing → k = slot) →
        ∀ l, (tget t.plant.net.controls l).map (·.holders) = (tget s.plant.net.controls l).map fun c =>
          if l ∈ i.holds then c.holders.filter (· ≠ slot) else c.holders)
      ∧ (s.plant.ctl.orders.length ≤ 256 → ∀ l k c, l ∈ i.closure → tget s.plant.net.links l = some k →
        k.operability? = some .operable → (∀ x ∈ s.plant.net.tags, ¬(x.2.link = l ∧ x.2.kind = .doNotOperate)) →
        tget s.plant.net.controls l = some c → c.position = .closed → c.order = none → l ∈ i.holds →
        (∀ h ∈ c.holders, h = slot) →
        (∃ id o, (tget t.plant.net.controls l).bind (·.order) = some id ∧ tget t.plant.ctl.orders id = some o
          ∧ o.link = l ∧ o.action = .reopen ∧ o.iso = ⟨slot, i.serial⟩ ∧ o.state = .issued ∧ o.issued = s.link.partTime
          ∧ o.expiry = s.link.partTime + s.plant.ctl.acceptTime)
        ∨ ⟨l, .reopen⟩ ∈ j.toIssue)
      ∧ (∀ l c, l ∈ i.closure → tget s.plant.net.controls l = some c → (∃ h ∈ c.holders, h ≠ slot) →
        ∀ id o, tget t.plant.ctl.orders id = some o → o.link = l → o.action = .reopen →
          tget s.plant.ctl.orders id = some o)
      ∧ t.plant.net.generation = min 4294967295 (s.plant.net.generation + 1)
      ∧ t.plant.net.links = s.plant.net.links ∧ t.plant.net.pipes = s.plant.net.pipes ∧ t.plant.mon = s.plant.mon

/-- The ramp start timer's expiry before any opening stalls the ramp with cause NO_OPENING and stops the timer (R162,
R164). RAMP_RESUME of a stalled ramp clears the stall: with the clock started it starts anew now, otherwise the start
timer is set again; without a stall it is refused WRONG_STATE (R166). A TELEMETRY sample of a section station is
judged while the clock runs and nothing has stalled: below the expected value, capped at the target, by more than the
band it is a lag and raises the station's count, any other clears it; a count of 3 stalls the ramp with cause LAG, its
step count frozen, and notice RESTORE_STALL; a ramp that has stalled, a sample older than t0 and a station without an
entry change no count (R163, R164). After the sample, and after a RECOMPUTE_COMPLETION, the ramp is complete exactly
when every non-stale section station stands at the target less the band, or, where there is none, when no OPEN order
or entry is left, the applied generation has reached the open generation and every section pipe is fed: the isolation
is then in RELIGHTING, or ENDED where its record's pipes have nothing pending, and stays in RESTORING otherwise (R168,
R171). The layout of RAMP_RESUME is log entry [13]; the counts of the reply to TELEMETRY are [17]. -/
def Obligations.RampStallsAndResumes : Prop :=
  (∀ (s : State) (slot d : Nat) (i : Isolation) (r : Ramp), s.link.clockEnded = false →
    tget s.plant.ctl.isos slot = some i → i.state = .restoring → i.ramp = some r → r.startTimer = some d →
    d ≤ s.link.partTime → r.stall = none →
    exec (.rampStartTimerExpiry slot) s = .next (s.after
      { s.plant with ctl := { s.plant.ctl with isos := tmod s.plant.ctl.isos slot fun y => { y with
          ramp := some { r with stall := some ⟨.noOpening, none, s.link.partTime⟩, startTimer := none, frozen := none } } } }
      [s.notice .restoreStall slot (be 2 i.serial ++ [1] ++ be 2 65535 ++ bePu 0 ++ bePu 0)]))
  ∧ (∀ (s : State) (f : Frame) (i : Isolation), s.handles f 0x18 → s.plant.keyed → f.payload.length = 3 → s.allows f .operate →
    field f.payload 0 1 ≤ 31 → tget s.plant.ctl.isos (field f.payload 0 1) = some i → i.serial = field f.payload 1 2 →
    let slot := field f.payload 0 1
    (∀ r, i.ramp = some r → i.state = .restoring → r.stall.isSome →
      ∃ t j r', exec .rampResume s = .next t ∧ tget t.plant.ctl.isos slot = some j ∧ j.ramp = some r'
        ∧ r'.stall = none ∧ r'.frozen = none ∧ r'.increment = r.increment ∧ r'.target = r.target
        ∧ (r.t0.isSome → r'.t0 = some s.link.partTime)
        ∧ (r.t0 = none → r'.t0 = none ∧ r'.startTimer = some (s.link.partTime + s.plant.ctl.verifyTime)
          ∧ j.state = .restoring))
    ∧ (i.ramp = none ∨ i.state ≠ .restoring ∨ (∀ r, i.ramp = some r → r.stall = none) →
      exec .rampResume s = .next (s.answered f s.plant [] ⟨.wrongState, []⟩)))
  ∧ (∀ (s : State) (f : Frame) (x : Station) (slot node t0 : Nat) (i : Isolation) (r : Ramp), s.handles f 0x0D →
    s.plant.keyed → f.payload.length = 8 → field f.payload 2 1 = 0 → field f.payload 3 1 = 1 →
    tget s.plant.mon.stations (field f.payload 0 2) = some x →
    let id := field f.payload 0 2
    let now := s.link.partTime
    let time := now - field f.payload 6 2
    11796 ≤ field f.payload 4 2 → field f.payload 4 2 ≠ 65535 → (∀ t1, x.rt.lastTime = some t1 → t1 < time) →
    x.cfg.node = some node → tget s.plant.ctl.isos slot = some i → i.state = .restoring → i.ramp = some r →
    r.t0 = some t0 → (r.stations.map fun y => y.station).Nodup → node ∈ i.nodes →
    (∀ k y, tget s.plant.ctl.isos k = some y → node ∈ y.nodes → k = slot) →
    let steps := (time - t0) / r.interval
    let expected : RampStation → Int := fun y => min (y.start + r.increment * steps) r.target
    let lags : RampStation → Int → Nat := fun y v => if v < expected y - r.band then y.lags + 1 else 0
    let relit : Prop := ∀ y ∈ s.plant.net.pipes, y.2.owner.isSome → y.2.owner = i.outage → y.2.pending = ⟨0, 0, 0⟩
    ∃ (t : State) (j : Isolation) (q : Ramp) (v : Int) (ns : List Notice), exec .telemetry s = .next t
      ∧ (tget t.plant.mon.stations id).map (fun y => roundDiv y.rt.s16 16) = some v
      ∧ tget t.plant.ctl.isos slot = some j ∧ j.ramp = some q
      ∧ t.link = (ns.foldl ControlLink.queue s.link).finish f ⟨.ok, be 2 1 ++ be 2 0 ++ be 1 1⟩
      ∧ (r.stall = none → t0 ≤ time →
        q.stations = r.stations.map (fun y => if y.station = id then { y with lags := lags y v } else y)
        ∧ (∀ y ∈ r.stations, y.station = id → lags y v = 3 →
          q.stall = some ⟨.lag, some id, now⟩ ∧ q.frozen = some steps
          ∧ s.notice .restoreStall slot (be 2 i.serial ++ [0] ++ be 2 id ++ bePu (expected y) ++ bePu v) ∈ ns)
        ∧ ((∀ y ∈ r.stations, y.station = id → lags y v ≠ 3) → q.stall = none ∧ q.frozen = r.frozen))
      ∧ (r.stall.isSome ∨ time < t0 → q.stations = r.stations ∧ q.stall = r.stall ∧ q.frozen = r.frozen)
      ∧ (let met : Prop := ∀ y ∈ t.plant.mon.stations, (∃ n ∈ i.nodes, y.2.cfg.node = some n) →
          (y.2.rt.freshness = .fresh ∨ y.2.rt.freshness = .suspect) → r.target - r.band ≤ roundDiv y.2.rt.s16 16
        (met → q.complete = true ∧ (relit → j.state = .ended) ∧ (¬ relit → j.state = .relighting))
        ∧ (¬ met → q.complete = r.complete ∧ j.state = .restoring)))
  ∧ ∀ (s : State) (start slot t0 : Nat) (v : FloodView) (i : Isolation) (r : Ramp),
    s.plant.trace.running = some (.recompute start [] [] [v]) → s.plant.keyed → v = s.plant.net.floodView →
    tget s.plant.ctl.isos slot = some i → i.state = .restoring → i.ramp = some r → r.t0 = some t0 →
    let live := s.plant.mon.stations.filter fun x => (x.2.cfg.node.any fun n => i.nodes.contains n)
      && (x.2.rt.freshness = .fresh || x.2.rt.freshness = .suspect)
    ∃ t j q, exec .recomputeCompletion s = .next t ∧ tget t.plant.ctl.isos slot = some j ∧ j.ramp = some q ∧
      let met : Prop := (live ≠ [] ∧ ∀ x ∈ live, r.target - r.band ≤ roundDiv x.2.rt.s16 16)
        ∨ (live = [] ∧ r.openGen ≤ start
          ∧ (∀ x ∈ s.plant.ctl.orders, x.2.iso = ⟨slot, i.serial⟩ → x.2.action = .reopen →
            x.2.state ≠ .issued ∧ x.2.state ≠ .accepted)
          ∧ (∀ x ∈ i.toIssue, x.action ≠ .reopen)
          ∧ ∀ pl, i.plan = some pl → ∀ k ∈ pl.pipes, ∃ p, tget t.plant.net.pipes k = some p ∧ p.fed = true)
      (met → q.complete = true ∧ (j.state = .relighting ∨ j.state = .ended)) ∧ (¬ met → q = r ∧ j.state = .restoring)

/-- RECLOSE of an isolation in RESTORING whose open members can all be worked: it is CLOSING again with no ramp and a
hold on every member, and the generation goes up by one; in another state it is refused WRONG_STATE (R167). The layout
of the request is log entry [13]. -/
def Obligations.RecloseReturnsToClosing : Prop :=
  ∀ (s : State) (f : Frame) (i : Isolation), s.handles f 0x19 → s.plant.keyed → f.payload.length = 3 → s.allows f .operate →
    field f.payload 0 1 ≤ 31 → tget s.plant.ctl.isos (field f.payload 0 1) = some i → i.serial = field f.payload 1 2 →
    let slot := field f.payload 0 1
    let e := s.ev
    (i.state ≠ .restoring → exec .reclose s = .next (s.answered f s.plant [] ⟨.wrongState, []⟩))
    ∧ (i.state = .restoring → i.holds = [] → e.shareLimit slot i.closure = none → i.closure.Nodup →
      (∃ l ∈ i.closure, e.isOpen l = true) → (∀ l ∈ i.closure, e.isOpen l = true → e.workable l = true) →
      ∃ t j, exec .reclose s = .next t ∧ tget t.plant.ctl.isos slot = some j ∧ j.state = .closing ∧ j.ramp = none
        ∧ j.holds = i.closure ∧ j.result = .none
        ∧ (∀ l ∈ i.closure, (tget t.plant.net.controls l).map (·.holders)
            = (tget s.plant.net.controls l).map fun c => c.holders ++ [slot])
        ∧ t.plant.net.generation = min 4294967295 (s.plant.net.generation + 1)
        ∧ t.plant.net.links = s.plant.net.links ∧ t.plant.net.pipes = s.plant.net.pipes ∧ t.plant.mon = s.plant.mon)

/-- RELIGHT_REPORT on a pipe with an owner that is LIVE, or RECHARGING under an isolation in RELIGHTING: what is taken
is the lesser of report and pending in each class; the pending goes down by it, the owner's relights go up by it, and
the reply is OK when all of it was taken, else PARTIAL (R169, R170, R185). The layouts of the request and of its reply
are log entries [13] and [14]. -/
def Obligations.RelightReportTaken : Prop :=
  ∀ (s : State) (f : Frame) (l : Link) (p : PipeRt) (k : Nat) (o : Outage), s.handles f 0x1A → s.plant.keyed → f.payload.length = 8 →
    s.allows f .operate → s.plant.net.state = .active → field f.payload 0 2 ≤ 6143 →
    (∀ n ∈ [2, 4, 6], field f.payload n 2 ≤ 4095) → tget s.plant.net.links (field f.payload 0 2) = some l →
    l.kind = .pipe → tget s.plant.net.pipes (field f.payload 0 2) = some p → p.owner = some k →
    tget s.plant.led.records k = some o →
    (p.supply = .live ∨ (p.supply = .recharging ∧ ∃ c i, p.claim = some c ∧ tget s.plant.ctl.isos c = some i
      ∧ i.state = .relighting)) →
    let pipe := field f.payload 0 2
    let a : Counts := ⟨min (field f.payload 2 2) p.pending.p, min (field f.payload 4 2) p.pending.c,
      min (field f.payload 6 2) p.pending.d⟩
    let rest : Counts := ⟨p.pending.p - a.p, p.pending.c - a.c, p.pending.d - a.d⟩
    ∃ (t : State) (ns : List Notice), exec .relightReport s = .next t
      ∧ (tget t.plant.net.pipes pipe).map (·.pending) = some rest
      ∧ (∀ j, j ≠ pipe → (tget t.plant.net.pipes j).map (·.pending) = (tget s.plant.net.pipes j).map (·.pending))
      ∧ (tget t.plant.led.records k).map (·.relights)
        = some ⟨o.relights.p + BitVec.ofNat 32 a.p, o.relights.c + BitVec.ofNat 32 a.c, o.relights.d + BitVec.ofNat 32 a.d⟩
      ∧ t.link = (ns.foldl ControlLink.queue s.link).finish f
          ⟨if a.p = field f.payload 2 2 ∧ a.c = field f.payload 4 2 ∧ a.d = field f.payload 6 2 then .ok else .partially,
            be 2 pipe ++ beCounts 2 a ++ beCounts 2 rest ++ be 2 k⟩

/-- CLOSE_OUT under AUTHORISE of an isolation in RELIGHTING, or in RESTORING with its ramp stalled: it ends now, every
pipe of its record has its pending written off, and it claims no pipe; in any other case it is refused WRONG_STATE
(R172, R173, R186). The layout of the request is log entry [13]. -/
def Obligations.CloseOutEndsIsolation : Prop :=
  ∀ (s : State) (f : Frame) (i : Isolation), s.handles f 0x1B → s.plant.keyed → f.payload.length = 3 → s.allows f .authorise →
    field f.payload 0 1 ≤ 31 → tget s.plant.ctl.isos (field f.payload 0 1) = some i → i.serial = field f.payload 1 2 →
    let slot := field f.payload 0 1
    let open_ : Prop := i.state = .relighting ∨ (i.state = .restoring ∧ ∃ r, i.ramp = some r ∧ r.stall.isSome)
    (open_ → ∃ t j, exec .closeOut s = .next t ∧ tget t.plant.ctl.isos slot = some j ∧ j.state = .ended
      ∧ j.endTime = some s.link.partTime ∧ j.incident = none ∧ j.toIssue = []
      ∧ (∀ k p, tget s.plant.net.pipes k = some p → ∃ q, tget t.plant.net.pipes k = some q ∧ q.claim ≠ some slot
          ∧ q.pending = if p.owner.isSome ∧ p.owner = i.outage then ⟨0, 0, 0⟩ else p.pending)
      ∧ t.plant.net.generation = min 4294967295 (s.plant.net.generation + 1)
      ∧ t.plant.net.links = s.plant.net.links ∧ t.plant.mon = s.plant.mon)
    ∧ (¬ open_ → exec .closeOut s = .next (s.answered f s.plant [] ⟨.wrongState, []⟩))

/-! ## The Outage Ledger -/

/-- OUTAGE_RELEASE takes a CLOSED record among 1 to 63 away, and its number out of a terminal isolation that still
names it; an OPEN record is WRONG_STATE, an absent one NOT_FOUND, record 0 and one above 63 BAD_VALUE (R179).
WEIGHTS_SET replaces the three weights while no pipe has pending, and is LOCKED, with the total pending, while one
has (R190). The model's choices in it: the layout of WEIGHTS_SET is log entry [13], the two bytes of a weight [56]. -/
def Obligations.RecordReleaseAndWeights : Prop :=
  (∀ (s : State) (f : Frame), s.handles f 0x1C → f.payload.length = 2 → s.allows f .operate →
    let k := field f.payload 0 2
    (k = 0 ∨ 63 < k → exec .outageRelease s = .next (s.answered f s.plant [] ⟨.badValue, []⟩))
    ∧ (1 ≤ k → k ≤ 63 → tget s.plant.led.records k = none →
      exec .outageRelease s = .next (s.answered f s.plant [] ⟨.notFound, []⟩))
    ∧ (∀ o, 1 ≤ k → k ≤ 63 → tget s.plant.led.records k = some o → o.state = .opened →
      exec .outageRelease s = .next (s.answered f s.plant [] ⟨.wrongState, []⟩))
    ∧ (∀ o r, 1 ≤ k → k ≤ 63 → tget s.plant.led.records k = some o → o.state = .closed → o.iso = some r →
      exec .outageRelease s = .next (s.answered f
        { s.plant with
          led := { s.plant.led with records := terase s.plant.led.records k }
          ctl := { s.plant.ctl with isos := tmod s.plant.ctl.isos r.slot fun i =>
            if i.serial = r.serial && i.state.terminal then { i with outage := none } else i } } [] ⟨.ok, []⟩)))
  ∧ ∀ (s : State) (f : Frame), s.handles f 0x1D → f.payload.length = 6 → s.allows f .supervise →
    field f.payload 0 2 ≤ 255 → field f.payload 2 2 ≤ 255 → field f.payload 4 2 ≤ 255 →
    ((∀ x ∈ s.plant.net.pipes, x.2.pending = ⟨0, 0, 0⟩) →
      exec .weightsSet s = .next (s.answered f
        { s.plant with led := { s.plant.led with
            weights := ⟨field f.payload 0 2, field f.payload 2 2, field f.payload 4 2⟩ } } [] ⟨.ok, []⟩))
    ∧ ((∃ x ∈ s.plant.net.pipes, x.2.pending ≠ ⟨0, 0, 0⟩) →
      exec .weightsSet s = .next (s.answered f s.plant [] ⟨.locked, beCounts 4 (totalPending s.plant.net.pipes)⟩))

/-! ## Rules of the whole part -/

/-- Every invariant holds at State.reset. -/
def Obligations.InvariantsHoldAtReset : Prop :=
  State.reset.link.Inv ∧ State.reset.plant.TablesInv ∧ State.reset.plant.LimitsInv ∧ State.reset.plant.EngineInv

/-- Every step keeps the invariant of the Control Link (`ControlLink.Inv`). -/
def Obligations.LinkInvariantKept : Prop := ∀ s t : State, s.link.Inv → step s = .next t → t.link.Inv

/-- Every step keeps every table in canonical form with ids of its kind (`Plant.TablesInv`). -/
def Obligations.TablesInvariantKept : Prop := ∀ s t : State, s.plant.TablesInv → step s = .next t → t.plant.TablesInv

/-- Every step keeps counts, settings and accumulators within their bounds (`Plant.LimitsInv`). -/
def Obligations.LimitsInvariantKept : Prop := ∀ s t : State, s.plant.LimitsInv → step s = .next t → t.plant.LimitsInv

/-- Every step leaves the Trace Engine busy or with nothing to take (`Plant.EngineInv`, R30). -/
def Obligations.EngineNeverIdlesWithWork : Prop := ∀ s t : State, s.plant.EngineInv → step s = .next t → t.plant.EngineInv

/-- Who changes what the Control Link keeps (R204, R210, R212, section 10.13): but for POWER_ON, the rate never
changes; rights change only by RIGHTS_SET, the mask only by NOTICE_MASK, the wall offset only by TIME_SET, part
time only by PART_TIME_TICK. No command touches the commands that wait. -/
def Obligations.LinkSettingsChangeOnlyByTheirRequest : Prop :=
  ∀ (c : Instr) (s t : State), (∀ strap, c ≠ .powerOn strap) → exec c s = .next t →
    t.link.rate = s.link.rate ∧ (c ≠ .rightsSet → t.link.rights = s.link.rights)
    ∧ (c ≠ .noticeMask → t.link.mask = s.link.mask) ∧ (c ≠ .timeSet → t.link.wallOffset = s.link.wallOffset)
    ∧ (c ≠ .partTimeTick → t.link.partTime = s.link.partTime) ∧ t.pending = s.pending

/-- The generation never decreases but at power-on and activation (R8). -/
def Obligations.GenerationNeverDecreases : Prop :=
  ∀ (c : Instr) (s t : State), (∀ strap, c ≠ .powerOn strap) → c ≠ .tableCheckComplete →
    s.plant.net.generation ≤ 4294967295 → exec c s = .next t →
    s.plant.net.generation ≤ t.plant.net.generation ∧ t.plant.net.generation ≤ 4294967295

/-- A request answered with a refusal has changed nothing (R201), but for a CALL and a TELEMETRY, whose rules name
effects: when the reply that joins the buffer behind a busy transmitter has a refusal code, the blocks are as they
were, to the end of the event, and the rights, the mask and the wall offset stay. -/
def Obligations.RefusalChangesNothing : Prop :=
  ∀ (c : Instr) (s t : State) (x : OutFrame) (b : Byte) (body : List Byte), c.isRequest = true → c ≠ .call →
    c ≠ .telemetry → s.link.sending.isSome → exec c s = .next t → t.link.replies = s.link.replies ++ [x] →
    x.payload = b :: body → 0x10 ≤ b.toNat →
    (t.plant = s.plant ∨ t.plant = (s.after s.plant []).plant) ∧ t.link.rights = s.link.rights
      ∧ t.link.mask = s.link.mask ∧ t.link.wallOffset = s.link.wallOffset
end

