-- ==== Sys2Proof/Laws/Link.lean ====
section
/-! SUPPORT. What the operations of the Control Link can do: the transmitter (R205), the notice queue (R202, R203), a reply
(R201, R211), and the parts of the link each leaves alone. -/

namespace Sys2Proof.Machine

-- One theorem after another: theorems checked side by side each hold a thread and its stack.
set_option Elab.async false

/-! ## What `resyncCheck` leaves alone -/

@[simp] theorem ControlLink.resyncCheck_rate (l : ControlLink): (l.resyncCheck).rate = l.rate := by
  simp only [ControlLink.resyncCheck]; split <;> (try split) <;> rfl
@[simp] theorem ControlLink.resyncCheck_receiver (l : ControlLink): (l.resyncCheck).receiver = l.receiver := by
  simp only [ControlLink.resyncCheck]; split <;> (try split) <;> rfl
@[simp] theorem ControlLink.resyncCheck_lineLow (l : ControlLink): (l.resyncCheck).lineLow = l.lineLow := by
  simp only [ControlLink.resyncCheck]; split <;> (try split) <;> rfl
@[simp] theorem ControlLink.resyncCheck_inbound (l : ControlLink): (l.resyncCheck).inbound = l.inbound := by
  simp only [ControlLink.resyncCheck]; split <;> (try split) <;> rfl
@[simp] theorem ControlLink.resyncCheck_handling (l : ControlLink): (l.resyncCheck).handling = l.handling := by
  simp only [ControlLink.resyncCheck]; split <;> (try split) <;> rfl
@[simp] theorem ControlLink.resyncCheck_mask (l : ControlLink): (l.resyncCheck).mask = l.mask := by
  simp only [ControlLink.resyncCheck]; split <;> (try split) <;> rfl
@[simp] theorem ControlLink.resyncCheck_counters (l : ControlLink): (l.resyncCheck).counters = l.counters := by
  simp only [ControlLink.resyncCheck]; split <;> (try split) <;> rfl
@[simp] theorem ControlLink.resyncCheck_rights (l : ControlLink): (l.resyncCheck).rights = l.rights := by
  simp only [ControlLink.resyncCheck]; split <;> (try split) <;> rfl
@[simp] theorem ControlLink.resyncCheck_refusals (l : ControlLink): (l.resyncCheck).refusals = l.refusals := by
  simp only [ControlLink.resyncCheck]; split <;> (try split) <;> rfl
@[simp] theorem ControlLink.resyncCheck_partTime (l : ControlLink): (l.resyncCheck).partTime = l.partTime := by
  simp only [ControlLink.resyncCheck]; split <;> (try split) <;> rfl
@[simp] theorem ControlLink.resyncCheck_clockEnded (l : ControlLink): (l.resyncCheck).clockEnded = l.clockEnded := by
  simp only [ControlLink.resyncCheck]; split <;> (try split) <;> rfl
@[simp] theorem ControlLink.resyncCheck_boundaryDue (l : ControlLink): (l.resyncCheck).boundaryDue = l.boundaryDue := by
  simp only [ControlLink.resyncCheck]; split <;> (try split) <;> rfl
@[simp] theorem ControlLink.resyncCheck_wallOffset (l : ControlLink): (l.resyncCheck).wallOffset = l.wallOffset := by
  simp only [ControlLink.resyncCheck]; split <;> (try split) <;> rfl
@[simp] theorem ControlLink.resyncCheck_sending (l : ControlLink): (l.resyncCheck).sending = l.sending := by
  simp only [ControlLink.resyncCheck]; split <;> (try split) <;> rfl
@[simp] theorem ControlLink.resyncCheck_replies (l : ControlLink): (l.resyncCheck).replies = l.replies := by
  simp only [ControlLink.resyncCheck]; split <;> (try split) <;> rfl

/-! ## What `pump` leaves alone -/

@[simp] theorem ControlLink.pump_rate (l : ControlLink): (l.pump).rate = l.rate := by
  simp only [ControlLink.pump]; split <;> (try split) <;> (try split) <;> simp
@[simp] theorem ControlLink.pump_receiver (l : ControlLink): (l.pump).receiver = l.receiver := by
  simp only [ControlLink.pump]; split <;> (try split) <;> (try split) <;> simp
@[simp] theorem ControlLink.pump_lineLow (l : ControlLink): (l.pump).lineLow = l.lineLow := by
  simp only [ControlLink.pump]; split <;> (try split) <;> (try split) <;> simp
@[simp] theorem ControlLink.pump_inbound (l : ControlLink): (l.pump).inbound = l.inbound := by
  simp only [ControlLink.pump]; split <;> (try split) <;> (try split) <;> simp
@[simp] theorem ControlLink.pump_handling (l : ControlLink): (l.pump).handling = l.handling := by
  simp only [ControlLink.pump]; split <;> (try split) <;> (try split) <;> simp
@[simp] theorem ControlLink.pump_mask (l : ControlLink): (l.pump).mask = l.mask := by
  simp only [ControlLink.pump]; split <;> (try split) <;> (try split) <;> simp
@[simp] theorem ControlLink.pump_counters (l : ControlLink): (l.pump).counters = l.counters := by
  simp only [ControlLink.pump]; split <;> (try split) <;> (try split) <;> simp
@[simp] theorem ControlLink.pump_rights (l : ControlLink): (l.pump).rights = l.rights := by
  simp only [ControlLink.pump]; split <;> (try split) <;> (try split) <;> simp
@[simp] theorem ControlLink.pump_refusals (l : ControlLink): (l.pump).refusals = l.refusals := by
  simp only [ControlLink.pump]; split <;> (try split) <;> (try split) <;> simp
@[simp] theorem ControlLink.pump_partTime (l : ControlLink): (l.pump).partTime = l.partTime := by
  simp only [ControlLink.pump]; split <;> (try split) <;> (try split) <;> simp
@[simp] theorem ControlLink.pump_clockEnded (l : ControlLink): (l.pump).clockEnded = l.clockEnded := by
  simp only [ControlLink.pump]; split <;> (try split) <;> (try split) <;> simp
@[simp] theorem ControlLink.pump_boundaryDue (l : ControlLink): (l.pump).boundaryDue = l.boundaryDue := by
  simp only [ControlLink.pump]; split <;> (try split) <;> (try split) <;> simp
@[simp] theorem ControlLink.pump_wallOffset (l : ControlLink): (l.pump).wallOffset = l.wallOffset := by
  simp only [ControlLink.pump]; split <;> (try split) <;> (try split) <;> simp

/-! ## What `queue` leaves alone -/

@[simp] theorem ControlLink.queue_rate (l : ControlLink) (n : Notice) : (l.queue n).rate = l.rate := by
  simp only [ControlLink.queue]; split <;> (try split) <;> (try split) <;> simp
@[simp] theorem ControlLink.queue_receiver (l : ControlLink) (n : Notice) : (l.queue n).receiver = l.receiver := by
  simp only [ControlLink.queue]; split <;> (try split) <;> (try split) <;> simp
@[simp] theorem ControlLink.queue_lineLow (l : ControlLink) (n : Notice) : (l.queue n).lineLow = l.lineLow := by
  simp only [ControlLink.queue]; split <;> (try split) <;> (try split) <;> simp
@[simp] theorem ControlLink.queue_inbound (l : ControlLink) (n : Notice) : (l.queue n).inbound = l.inbound := by
  simp only [ControlLink.queue]; split <;> (try split) <;> (try split) <;> simp
@[simp] theorem ControlLink.queue_handling (l : ControlLink) (n : Notice) : (l.queue n).handling = l.handling := by
  simp only [ControlLink.queue]; split <;> (try split) <;> (try split) <;> simp
@[simp] theorem ControlLink.queue_mask (l : ControlLink) (n : Notice) : (l.queue n).mask = l.mask := by
  simp only [ControlLink.queue]; split <;> (try split) <;> (try split) <;> simp
@[simp] theorem ControlLink.queue_rights (l : ControlLink) (n : Notice) : (l.queue n).rights = l.rights := by
  simp only [ControlLink.queue]; split <;> (try split) <;> (try split) <;> simp
@[simp] theorem ControlLink.queue_refusals (l : ControlLink) (n : Notice) : (l.queue n).refusals = l.refusals := by
  simp only [ControlLink.queue]; split <;> (try split) <;> (try split) <;> simp
@[simp] theorem ControlLink.queue_partTime (l : ControlLink) (n : Notice) : (l.queue n).partTime = l.partTime := by
  simp only [ControlLink.queue]; split <;> (try split) <;> (try split) <;> simp
@[simp] theorem ControlLink.queue_clockEnded (l : ControlLink) (n : Notice) : (l.queue n).clockEnded = l.clockEnded := by
  simp only [ControlLink.queue]; split <;> (try split) <;> (try split) <;> simp
@[simp] theorem ControlLink.queue_boundaryDue (l : ControlLink) (n : Notice) : (l.queue n).boundaryDue = l.boundaryDue := by
  simp only [ControlLink.queue]; split <;> (try split) <;> (try split) <;> simp
@[simp] theorem ControlLink.queue_wallOffset (l : ControlLink) (n : Notice) : (l.queue n).wallOffset = l.wallOffset := by
  simp only [ControlLink.queue]; split <;> (try split) <;> (try split) <;> simp

/-! ## What a run of notices leaves alone -/

@[simp] theorem ControlLink.queues_rate (ns : List Notice) (l : ControlLink) :
    (ns.foldl ControlLink.queue l).rate = l.rate := by
  induction ns generalizing l with
  | nil => rfl
  | cons n ns ih => simp [ih]
@[simp] theorem ControlLink.queues_receiver (ns : List Notice) (l : ControlLink) :
    (ns.foldl ControlLink.queue l).receiver = l.receiver := by
  induction ns generalizing l with
  | nil => rfl
  | cons n ns ih => simp [ih]
@[simp] theorem ControlLink.queues_lineLow (ns : List Notice) (l : ControlLink) :
    (ns.foldl ControlLink.queue l).lineLow = l.lineLow := by
  induction ns generalizing l with
  | nil => rfl
  | cons n ns ih => simp [ih]
@[simp] theorem ControlLink.queues_inbound (ns : List Notice) (l : ControlLink) :
    (ns.foldl ControlLink.queue l).inbound = l.inbound := by
  induction ns generalizing l with
  | nil => rfl
  | cons n ns ih => simp [ih]
@[simp] theorem ControlLink.queues_handling (ns : List Notice) (l : ControlLink) :
    (ns.foldl ControlLink.queue l).handling = l.handling := by
  induction ns generalizing l with
  | nil => rfl
  | cons n ns ih => simp [ih]
@[simp] theorem ControlLink.queues_mask (ns : List Notice) (l : ControlLink) :
    (ns.foldl ControlLink.queue l).mask = l.mask := by
  induction ns generalizing l with
  | nil => rfl
  | cons n ns ih => simp [ih]
@[simp] theorem ControlLink.queues_rights (ns : List Notice) (l : ControlLink) :
    (ns.foldl ControlLink.queue l).rights = l.rights := by
  induction ns generalizing l with
  | nil => rfl
  | cons n ns ih => simp [ih]
@[simp] theorem ControlLink.queues_refusals (ns : List Notice) (l : ControlLink) :
    (ns.foldl ControlLink.queue l).refusals = l.refusals := by
  induction ns generalizing l with
  | nil => rfl
  | cons n ns ih => simp [ih]
@[simp] theorem ControlLink.queues_partTime (ns : List Notice) (l : ControlLink) :
    (ns.foldl ControlLink.queue l).partTime = l.partTime := by
  induction ns generalizing l with
  | nil => rfl
  | cons n ns ih => simp [ih]
@[simp] theorem ControlLink.queues_clockEnded (ns : List Notice) (l : ControlLink) :
    (ns.foldl ControlLink.queue l).clockEnded = l.clockEnded := by
  induction ns generalizing l with
  | nil => rfl
  | cons n ns ih => simp [ih]
@[simp] theorem ControlLink.queues_boundaryDue (ns : List Notice) (l : ControlLink) :
    (ns.foldl ControlLink.queue l).boundaryDue = l.boundaryDue := by
  induction ns generalizing l with
  | nil => rfl
  | cons n ns ih => simp [ih]
@[simp] theorem ControlLink.queues_wallOffset (ns : List Notice) (l : ControlLink) :
    (ns.foldl ControlLink.queue l).wallOffset = l.wallOffset := by
  induction ns generalizing l with
  | nil => rfl
  | cons n ns ih => simp [ih]

/-! ## What `recordRefusal` leaves alone -/

@[simp] theorem ControlLink.recordRefusal_rate (l : ControlLink) (o : Nat) (c : Status) : (l.recordRefusal o c).rate = l.rate := by
  simp only [ControlLink.recordRefusal]; split <;> rfl
@[simp] theorem ControlLink.recordRefusal_receiver (l : ControlLink) (o : Nat) (c : Status) : (l.recordRefusal o c).receiver = l.receiver := by
  simp only [ControlLink.recordRefusal]; split <;> rfl
@[simp] theorem ControlLink.recordRefusal_lineLow (l : ControlLink) (o : Nat) (c : Status) : (l.recordRefusal o c).lineLow = l.lineLow := by
  simp only [ControlLink.recordRefusal]; split <;> rfl
@[simp] theorem ControlLink.recordRefusal_inbound (l : ControlLink) (o : Nat) (c : Status) : (l.recordRefusal o c).inbound = l.inbound := by
  simp only [ControlLink.recordRefusal]; split <;> rfl
@[simp] theorem ControlLink.recordRefusal_handling (l : ControlLink) (o : Nat) (c : Status) : (l.recordRefusal o c).handling = l.handling := by
  simp only [ControlLink.recordRefusal]; split <;> rfl
@[simp] theorem ControlLink.recordRefusal_mask (l : ControlLink) (o : Nat) (c : Status) : (l.recordRefusal o c).mask = l.mask := by
  simp only [ControlLink.recordRefusal]; split <;> rfl
@[simp] theorem ControlLink.recordRefusal_counters (l : ControlLink) (o : Nat) (c : Status) : (l.recordRefusal o c).counters = l.counters := by
  simp only [ControlLink.recordRefusal]; split <;> rfl
@[simp] theorem ControlLink.recordRefusal_rights (l : ControlLink) (o : Nat) (c : Status) : (l.recordRefusal o c).rights = l.rights := by
  simp only [ControlLink.recordRefusal]; split <;> rfl
@[simp] theorem ControlLink.recordRefusal_partTime (l : ControlLink) (o : Nat) (c : Status) : (l.recordRefusal o c).partTime = l.partTime := by
  simp only [ControlLink.recordRefusal]; split <;> rfl
@[simp] theorem ControlLink.recordRefusal_clockEnded (l : ControlLink) (o : Nat) (c : Status) : (l.recordRefusal o c).clockEnded = l.clockEnded := by
  simp only [ControlLink.recordRefusal]; split <;> rfl
@[simp] theorem ControlLink.recordRefusal_boundaryDue (l : ControlLink) (o : Nat) (c : Status) : (l.recordRefusal o c).boundaryDue = l.boundaryDue := by
  simp only [ControlLink.recordRefusal]; split <;> rfl
@[simp] theorem ControlLink.recordRefusal_wallOffset (l : ControlLink) (o : Nat) (c : Status) : (l.recordRefusal o c).wallOffset = l.wallOffset := by
  simp only [ControlLink.recordRefusal]; split <;> rfl
@[simp] theorem ControlLink.recordRefusal_replies (l : ControlLink) (o : Nat) (c : Status) : (l.recordRefusal o c).replies = l.replies := by
  simp only [ControlLink.recordRefusal]; split <;> rfl
@[simp] theorem ControlLink.recordRefusal_notices (l : ControlLink) (o : Nat) (c : Status) : (l.recordRefusal o c).notices = l.notices := by
  simp only [ControlLink.recordRefusal]; split <;> rfl
@[simp] theorem ControlLink.recordRefusal_sending (l : ControlLink) (o : Nat) (c : Status) : (l.recordRefusal o c).sending = l.sending := by
  simp only [ControlLink.recordRefusal]; split <;> rfl
@[simp] theorem ControlLink.recordRefusal_resync (l : ControlLink) (o : Nat) (c : Status) : (l.recordRefusal o c).resync = l.resync := by
  simp only [ControlLink.recordRefusal]; split <;> rfl

/-! ## What `finish` leaves alone -/

@[simp] theorem ControlLink.finish_rate (l : ControlLink) (f : Frame) (r : Reply) : (l.finish f r).rate = l.rate := by
  simp [ControlLink.finish]
@[simp] theorem ControlLink.finish_receiver (l : ControlLink) (f : Frame) (r : Reply) : (l.finish f r).receiver = l.receiver := by
  simp [ControlLink.finish]
@[simp] theorem ControlLink.finish_lineLow (l : ControlLink) (f : Frame) (r : Reply) : (l.finish f r).lineLow = l.lineLow := by
  simp [ControlLink.finish]
@[simp] theorem ControlLink.finish_mask (l : ControlLink) (f : Frame) (r : Reply) : (l.finish f r).mask = l.mask := by
  simp [ControlLink.finish]
@[simp] theorem ControlLink.finish_counters (l : ControlLink) (f : Frame) (r : Reply) : (l.finish f r).counters = l.counters := by
  simp [ControlLink.finish]
@[simp] theorem ControlLink.finish_rights (l : ControlLink) (f : Frame) (r : Reply) : (l.finish f r).rights = l.rights := by
  simp [ControlLink.finish]
@[simp] theorem ControlLink.finish_partTime (l : ControlLink) (f : Frame) (r : Reply) : (l.finish f r).partTime = l.partTime := by
  simp [ControlLink.finish]
@[simp] theorem ControlLink.finish_clockEnded (l : ControlLink) (f : Frame) (r : Reply) : (l.finish f r).clockEnded = l.clockEnded := by
  simp [ControlLink.finish]
@[simp] theorem ControlLink.finish_boundaryDue (l : ControlLink) (f : Frame) (r : Reply) : (l.finish f r).boundaryDue = l.boundaryDue := by
  simp [ControlLink.finish]
@[simp] theorem ControlLink.finish_wallOffset (l : ControlLink) (f : Frame) (r : Reply) : (l.finish f r).wallOffset = l.wallOffset := by
  simp [ControlLink.finish]

/-! ## What each can do -/

/-- The transmitter is busy, or takes the oldest reply, or the oldest notice, or stays idle (R205). -/
theorem ControlLink.pump_cases (l : ControlLink) :
    (l.sending.isSome ∧ l.pump = l)
    ∨ (∃ r rest, l.sending = none ∧ l.replies = r :: rest ∧ l.pump = { l with sending := some r, replies := rest })
    ∨ (∃ n rest, l.sending = none ∧ l.replies = [] ∧ l.notices = n :: rest
        ∧ l.pump = ({ l with sending := some n.frame, notices := rest } : ControlLink).resyncCheck)
    ∨ (l.sending = none ∧ l.replies = [] ∧ l.notices = [] ∧ l.pump = l) := by
  unfold ControlLink.pump
  cases hs : l.sending with
  | some x => simp
  | none =>
    cases hr : l.replies with
    | cons r rest => simp
    | nil => cases hn : l.notices with
      | cons n rest => simp
      | nil => simp

/-- A notice is not enabled, or is dropped and counted, or finds the queue full, or joins the tail (R202, R203, R204). -/
theorem ControlLink.queue_cases (l : ControlLink) (n : Notice) :
    (l.enables n.kind = false ∧ l.queue n = l)
    ∨ (∃ r, l.enables n.kind = true ∧ l.resync = some r
        ∧ l.queue n =
          { l with
            resync := some { r with dropped := min 65535 (r.dropped + 1) }
            counters := { l.counters with noticesDropped := l.counters.noticesDropped + 1 } })
    ∨ (l.enables n.kind = true ∧ l.resync = none ∧ Config.noticeQueue ≤ l.notices.length
        ∧ l.queue n =
          { l with
            resync := some ⟨1, l.partTime⟩
            counters := { l.counters with noticesDropped := l.counters.noticesDropped + 1 } })
    ∨ (l.enables n.kind = true ∧ l.resync = none ∧ l.notices.length < Config.noticeQueue
        ∧ l.queue n = ({ l with notices := l.notices ++ [n] } : ControlLink).pump) := by
  unfold ControlLink.queue
  cases he : l.enables n.kind with
  | false => simp
  | true =>
    cases hr : l.resync with
    | some r => simp
    | none =>
      by_cases h : Config.noticeQueue ≤ l.notices.length
      · simp only [Bool.not_true, Bool.false_eq_true, if_false, if_pos h]
        simp [h]
      · simp only [Bool.not_true, Bool.false_eq_true, if_false, if_neg h]
        simp [Nat.lt_of_not_le h]

/-- The current request is answered: it leaves the queue (R200). -/
@[simp] theorem ControlLink.finish_inbound (l : ControlLink) (f : Frame) (r : Reply) :
    (l.finish f r).inbound = l.inbound.tail := by simp [ControlLink.finish]

@[simp] theorem ControlLink.finish_handling (l : ControlLink) (f : Frame) (r : Reply) :
    (l.finish f r).handling = false := by simp [ControlLink.finish]

/-- The refusal record follows the reply (R211). -/
theorem ControlLink.finish_refusals (l : ControlLink) (f : Frame) (r : Reply) :
    (l.finish f r).refusals = (l.recordRefusal f.origin r.status).refusals := by simp [ControlLink.finish]

end Sys2Proof.Machine
end

