-- ==== Sys2Proof/Laws/Tables.lean ====
section
/-! SUPPORT. What the operations on tables do: read after write, and the canonical form kept. -/

namespace Sys2Proof.Machine

-- One theorem after another: theorems checked side by side each hold a thread and its stack.
set_option Elab.async false

variable {α β : Type}

@[simp] theorem tget_nil (n : Nat) : tget ([] : Table α) n = none := rfl

/-- A read after a write to the same key. -/
@[simp] theorem tget_tset_same (t : Table α) (n : Nat) (v : α) : tget (tset t n v) n = some v := by
  induction t with
  | nil => simp [tset, tget]
  | cons x t ih =>
    obtain ⟨k, w⟩ := x
    simp only [tset]
    split
    · simp [tget]
    · split
      · simp [tget]
      · have : k ≠ n := fun h => by omega
        simp [tget, this, ih]

/-- A write leaves every other key alone. -/
@[simp] theorem tget_tset_other (t : Table α) {n m : Nat} (h : m ≠ n) (v : α) : tget (tset t n v) m = tget t m := by
  induction t with
  | nil => simp [tset, tget, Ne.symm h]
  | cons x t ih =>
    obtain ⟨k, w⟩ := x
    simp only [tset]
    split
    · simp [tget, Ne.symm h]
    · split
      · subst_vars; simp [tget, Ne.symm h]
      · by_cases hk : k = m <;> simp [tget, hk, ih]

theorem tget_tset (t : Table α) (n m : Nat) (v : α) : tget (tset t n v) m = if m = n then some v else tget t m := by
  split
  · subst_vars; simp
  · simp [*]

/-- A removal removes the key and no other. -/
theorem tget_terase (t : Table α) (n m : Nat) : tget (terase t n) m = if m = n then none else tget t m := by
  induction t with
  | nil => simp [terase, tget]
  | cons x t ih =>
    obtain ⟨k, w⟩ := x
    simp only [terase, List.filter_cons]
    by_cases hk : k = n
    · subst hk
      have hd : decide ((k, w).1 ≠ k) = false := by simp
      rw [hd]
      simp only [Bool.false_eq_true, if_false, tget]
      rw [show List.filter (fun x => decide (x.1 ≠ k)) t = terase t k from rfl, ih]
      by_cases hm : k = m <;> simp_all [eq_comm]
    · have hd : decide ((k, w).1 ≠ n) = true := by simp [hk]
      rw [hd]
      simp only [if_true, tget]
      rw [show List.filter (fun x => decide (x.1 ≠ n)) t = terase t n from rfl, ih]
      by_cases hm : k = m
      · subst hm; simp [hk]
      · simp [hm]

/-- A change to a record shows at its key and at no other. -/
theorem tget_tmod (t : Table α) (n : Nat) (f : α → α) (m : Nat) :
    tget (tmod t n f) m = if m = n then (tget t m).map f else tget t m := by
  induction t with
  | nil => simp [tmod, tget]
  | cons x t ih =>
    obtain ⟨k, w⟩ := x
    simp only [tmod, List.map_cons] at ih ⊢
    by_cases hk : k = n
    · subst hk
      by_cases hm : k = m
      · subst hm; simp [tget]
      · simp [tget, hm, ih, Ne.symm hm]
    · by_cases hm : k = m
      · subst hm; simp [tget, hk]
      · simp [tget, hk, hm, ih]

/-- Changing every record. -/
theorem tget_map (t : Table α) (f : Nat → α → β) (m : Nat) :
    tget (t.map fun x => (x.1, f x.1 x.2)) m = (tget t m).map (f m) := by
  induction t with
  | nil => simp [tget]
  | cons x t ih =>
    obtain ⟨k, w⟩ := x
    by_cases hm : k = m
    · subst hm; simp [tget]
    · simp [tget, hm, ih]

theorem mem_of_tget {t : Table α} {n : Nat} {v : α} (h : tget t n = some v) : (n, v) ∈ t := by
  induction t with
  | nil => simp at h
  | cons x t ih =>
    obtain ⟨k, w⟩ := x
    by_cases hk : k = n
    · subst hk; simp [tget] at h; simp [h]
    · simp [tget, hk] at h; exact List.mem_cons_of_mem _ (ih h)

/-- In a table in canonical form a listed record is the one its key reads. -/
theorem tget_of_mem {t : Table α} (w : tableWf t) {n : Nat} {v : α} (h : (n, v) ∈ t) : tget t n = some v := by
  induction t with
  | nil => simp at h
  | cons x t ih =>
    obtain ⟨k, u⟩ := x
    have w' := List.pairwise_cons.mp w
    rcases List.mem_cons.mp h with h | h
    · cases h; simp [tget]
    · have hk : k < n := w'.1 n (List.mem_map_of_mem (f := (·.1)) h)
      simp [tget, Nat.ne_of_lt hk, ih w'.2 h]

theorem tget_isSome_iff {t : Table α} {n : Nat} : (tget t n).isSome ↔ n ∈ tkeys t := by
  induction t with
  | nil => simp [tkeys]
  | cons x t ih =>
    obtain ⟨k, w⟩ := x
    by_cases hk : k = n
    · subst hk; simp [tget, tkeys]
    · simp only [tget, if_neg hk, ih]
      simp [tkeys, Ne.symm hk]

/-! ## Keys -/

theorem tkeys_tset_mem {t : Table α} {n : Nat} {v : α} {k : Nat} (h : k ∈ tkeys (tset t n v)) : k = n ∨ k ∈ tkeys t := by
  rw [← tget_isSome_iff, tget_tset] at h
  by_cases hk : k = n
  · exact .inl hk
  · rw [if_neg hk, tget_isSome_iff] at h; exact .inr h

@[simp] theorem tkeys_tmod (t : Table α) (n : Nat) (f : α → α) : tkeys (tmod t n f) = tkeys t := by
  simp only [tkeys, tmod, List.map_map]
  apply List.map_congr_left
  intro x _
  simp only [Function.comp_apply]
  split <;> simp

@[simp] theorem tkeys_map (t : Table α) (f : Nat → α → β) : tkeys (t.map fun x => (x.1, f x.1 x.2)) = tkeys t := by
  simp [tkeys, List.map_map, Function.comp_def]

theorem tkeys_filter_sublist (t : Table α) (p : Nat × α → Bool) : (tkeys (t.filter p)).Sublist (tkeys t) :=
  (List.filter_sublist (l := t)).map _

theorem tkeys_terase_sublist (t : Table α) (n : Nat) : (tkeys (terase t n)).Sublist (tkeys t) := tkeys_filter_sublist t _

/-! ## The canonical form -/

theorem tableWf_nil : tableWf ([] : Table α) := List.Pairwise.nil

/-- A write keeps the canonical form. -/
theorem tableWf_tset {t : Table α} (w : tableWf t) (n : Nat) (v : α) : tableWf (tset t n v) := by
  induction t with
  | nil => simp [tset, tableWf, tkeys]
  | cons x t ih =>
    obtain ⟨k, u⟩ := x
    have w' := List.pairwise_cons.mp w
    simp only [tset]
    split
    · next hn =>
      refine List.pairwise_cons.mpr ⟨fun a ha => ?_, w⟩
      rcases List.mem_cons.mp ha with rfl | ha
      · exact hn
      · exact Nat.lt_trans hn (w'.1 a ha)
    · split
      · next h1 h2 => subst h2; exact List.pairwise_cons.mpr ⟨w'.1, w'.2⟩
      · next h1 h2 =>
        refine List.pairwise_cons.mpr ⟨fun a ha => ?_, ih w'.2⟩
        rcases tkeys_tset_mem ha with rfl | ha
        · show k < a
          omega
        · exact w'.1 a ha

theorem tableWf_filter {t : Table α} (w : tableWf t) (p : Nat × α → Bool) : tableWf (t.filter p) :=
  List.Pairwise.sublist (tkeys_filter_sublist t p) w

/-- A removal keeps the canonical form. -/
theorem tableWf_terase {t : Table α} (w : tableWf t) (n : Nat) : tableWf (terase t n) := tableWf_filter w _

/-- A change to a record keeps the canonical form. -/
theorem tableWf_tmod {t : Table α} (w : tableWf t) (n : Nat) (f : α → α) : tableWf (tmod t n f) := by
  simpa [tableWf] using w

/-- Changing every record keeps the canonical form. -/
theorem tableWf_map {t : Table α} (w : tableWf t) (f : Nat → α → β) : tableWf (t.map fun x => (x.1, f x.1 x.2)) := by
  simpa [tableWf] using w

/-- A table made of some of another's keys is in canonical form. -/
theorem tableWf_filterMap {t : Table α} (w : tableWf t) (f : Nat → α → Option β) :
    tableWf (t.filterMap fun x => (f x.1 x.2).map fun y => (x.1, y)) := by
  refine List.Pairwise.sublist ?_ w
  induction t with
  | nil => exact List.Sublist.refl _
  | cons x t ih =>
    obtain ⟨k, u⟩ := x
    have ih := ih (List.pairwise_cons.mp w).2
    simp only [tkeys, List.filterMap_cons, List.map_cons] at ih ⊢
    cases hf : f k u with
    | none => exact ih.cons _
    | some y => exact ih.cons_cons _

/-- The lowest free key is in the range asked for and has no record. -/
theorem lowestFree_some {t : Table α} {lo bound k : Nat} (h : lowestFree t lo bound = some k) :
    lo ≤ k ∧ k < bound ∧ tget t k = none := by
  have := List.mem_of_mem_head? h
  simp [thas] at this
  exact ⟨this.2.1, this.1, by simpa using this.2.2⟩

end Sys2Proof.Machine
end

