-- ==== Sys2Proof/Laws/State.lean ====
section
/-! SUPPORT. One lemma for each part of the state under each named update, so that no proof unfolds a record update. -/

namespace Sys2Proof.Machine

-- One theorem after another: theorems checked side by side each hold a thread and its stack.
set_option Elab.async false

/-! ## A notice changes no block (R204) -/

@[simp] theorem Ev.note_p (e : Ev) (kind : NoticeKind) (object : Nat) (d : List Byte) : (e.note kind object d).p = e.p := rfl
@[simp] theorem Ev.note_now (e : Ev) (kind : NoticeKind) (object : Nat) (d : List Byte) : (e.note kind object d).now = e.now := rfl
@[simp] theorem Ev.note_bumped (e : Ev) (kind : NoticeKind) (object : Nat) (d : List Byte) : (e.note kind object d).bumped = e.bumped := rfl
@[simp] theorem Ev.note_out (e : Ev) (kind : NoticeKind) (object : Nat) (d : List Byte) :
    (e.note kind object d).out = e.out ++ [⟨kind, object, d, e.now⟩] := rfl

/-! ## `Ev.modIso` -/

@[simp] theorem Ev.modIso_now (e : Ev) (k : Nat) (f : Isolation → Isolation) : (e.modIso k f).now = e.now := rfl
@[simp] theorem Ev.modIso_bumped (e : Ev) (k : Nat) (f : Isolation → Isolation) : (e.modIso k f).bumped = e.bumped := rfl
@[simp] theorem Ev.modIso_out (e : Ev) (k : Nat) (f : Isolation → Isolation) : (e.modIso k f).out = e.out := rfl
@[simp] theorem Ev.modIso_draws (e : Ev) (k : Nat) (f : Isolation → Isolation) : (e.modIso k f).p.draws = e.p.draws := rfl
@[simp] theorem Ev.modIso_net (e : Ev) (k : Nat) (f : Isolation → Isolation) : (e.modIso k f).p.net = e.p.net := rfl
@[simp] theorem Ev.modIso_trace (e : Ev) (k : Nat) (f : Isolation → Isolation) : (e.modIso k f).p.trace = e.p.trace := rfl
@[simp] theorem Ev.modIso_mon (e : Ev) (k : Nat) (f : Isolation → Isolation) : (e.modIso k f).p.mon = e.p.mon := rfl
@[simp] theorem Ev.modIso_reg (e : Ev) (k : Nat) (f : Isolation → Isolation) : (e.modIso k f).p.reg = e.p.reg := rfl
@[simp] theorem Ev.modIso_led (e : Ev) (k : Nat) (f : Isolation → Isolation) : (e.modIso k f).p.led = e.p.led := rfl
@[simp] theorem Ev.modIso_ctl_isos (e : Ev) (k : Nat) (f : Isolation → Isolation) :
    (e.modIso k f).p.ctl.isos = tmod e.p.ctl.isos k f := rfl
@[simp] theorem Ev.modIso_ctl_serial (e : Ev) (k : Nat) (f : Isolation → Isolation) :
    (e.modIso k f).p.ctl.serial = e.p.ctl.serial := rfl
@[simp] theorem Ev.modIso_ctl_orders (e : Ev) (k : Nat) (f : Isolation → Isolation) :
    (e.modIso k f).p.ctl.orders = e.p.ctl.orders := rfl
@[simp] theorem Ev.modIso_ctl_orderSerial (e : Ev) (k : Nat) (f : Isolation → Isolation) :
    (e.modIso k f).p.ctl.orderSerial = e.p.ctl.orderSerial := rfl
@[simp] theorem Ev.modIso_ctl_verifyTime (e : Ev) (k : Nat) (f : Isolation → Isolation) :
    (e.modIso k f).p.ctl.verifyTime = e.p.ctl.verifyTime := rfl
@[simp] theorem Ev.modIso_ctl_acceptTime (e : Ev) (k : Nat) (f : Isolation → Isolation) :
    (e.modIso k f).p.ctl.acceptTime = e.p.ctl.acceptTime := rfl
@[simp] theorem Ev.modIso_ctl_target (e : Ev) (k : Nat) (f : Isolation → Isolation) :
    (e.modIso k f).p.ctl.target = e.p.ctl.target := rfl

/-! ## `Ev.modOrder` -/

@[simp] theorem Ev.modOrder_now (e : Ev) (k : Nat) (f : Order → Order) : (e.modOrder k f).now = e.now := rfl
@[simp] theorem Ev.modOrder_bumped (e : Ev) (k : Nat) (f : Order → Order) : (e.modOrder k f).bumped = e.bumped := rfl
@[simp] theorem Ev.modOrder_out (e : Ev) (k : Nat) (f : Order → Order) : (e.modOrder k f).out = e.out := rfl
@[simp] theorem Ev.modOrder_draws (e : Ev) (k : Nat) (f : Order → Order) : (e.modOrder k f).p.draws = e.p.draws := rfl
@[simp] theorem Ev.modOrder_net (e : Ev) (k : Nat) (f : Order → Order) : (e.modOrder k f).p.net = e.p.net := rfl
@[simp] theorem Ev.modOrder_trace (e : Ev) (k : Nat) (f : Order → Order) : (e.modOrder k f).p.trace = e.p.trace := rfl
@[simp] theorem Ev.modOrder_mon (e : Ev) (k : Nat) (f : Order → Order) : (e.modOrder k f).p.mon = e.p.mon := rfl
@[simp] theorem Ev.modOrder_reg (e : Ev) (k : Nat) (f : Order → Order) : (e.modOrder k f).p.reg = e.p.reg := rfl
@[simp] theorem Ev.modOrder_led (e : Ev) (k : Nat) (f : Order → Order) : (e.modOrder k f).p.led = e.p.led := rfl
@[simp] theorem Ev.modOrder_ctl_isos (e : Ev) (k : Nat) (f : Order → Order) :
    (e.modOrder k f).p.ctl.isos = e.p.ctl.isos := rfl
@[simp] theorem Ev.modOrder_ctl_serial (e : Ev) (k : Nat) (f : Order → Order) :
    (e.modOrder k f).p.ctl.serial = e.p.ctl.serial := rfl
@[simp] theorem Ev.modOrder_ctl_orders (e : Ev) (k : Nat) (f : Order → Order) :
    (e.modOrder k f).p.ctl.orders = tmod e.p.ctl.orders k f := rfl
@[simp] theorem Ev.modOrder_ctl_orderSerial (e : Ev) (k : Nat) (f : Order → Order) :
    (e.modOrder k f).p.ctl.orderSerial = e.p.ctl.orderSerial := rfl
@[simp] theorem Ev.modOrder_ctl_verifyTime (e : Ev) (k : Nat) (f : Order → Order) :
    (e.modOrder k f).p.ctl.verifyTime = e.p.ctl.verifyTime := rfl
@[simp] theorem Ev.modOrder_ctl_acceptTime (e : Ev) (k : Nat) (f : Order → Order) :
    (e.modOrder k f).p.ctl.acceptTime = e.p.ctl.acceptTime := rfl
@[simp] theorem Ev.modOrder_ctl_target (e : Ev) (k : Nat) (f : Order → Order) :
    (e.modOrder k f).p.ctl.target = e.p.ctl.target := rfl

/-! ## `Ev.modLink` -/

@[simp] theorem Ev.modLink_now (e : Ev) (k : Nat) (f : Link → Link) : (e.modLink k f).now = e.now := rfl
@[simp] theorem Ev.modLink_bumped (e : Ev) (k : Nat) (f : Link → Link) : (e.modLink k f).bumped = e.bumped := rfl
@[simp] theorem Ev.modLink_out (e : Ev) (k : Nat) (f : Link → Link) : (e.modLink k f).out = e.out := rfl
@[simp] theorem Ev.modLink_draws (e : Ev) (k : Nat) (f : Link → Link) : (e.modLink k f).p.draws = e.p.draws := rfl
@[simp] theorem Ev.modLink_trace (e : Ev) (k : Nat) (f : Link → Link) : (e.modLink k f).p.trace = e.p.trace := rfl
@[simp] theorem Ev.modLink_mon (e : Ev) (k : Nat) (f : Link → Link) : (e.modLink k f).p.mon = e.p.mon := rfl
@[simp] theorem Ev.modLink_reg (e : Ev) (k : Nat) (f : Link → Link) : (e.modLink k f).p.reg = e.p.reg := rfl
@[simp] theorem Ev.modLink_ctl (e : Ev) (k : Nat) (f : Link → Link) : (e.modLink k f).p.ctl = e.p.ctl := rfl
@[simp] theorem Ev.modLink_led (e : Ev) (k : Nat) (f : Link → Link) : (e.modLink k f).p.led = e.p.led := rfl
@[simp] theorem Ev.modLink_net_state (e : Ev) (k : Nat) (f : Link → Link) :
    (e.modLink k f).p.net.state = e.p.net.state := rfl
@[simp] theorem Ev.modLink_net_generation (e : Ev) (k : Nat) (f : Link → Link) :
    (e.modLink k f).p.net.generation = e.p.net.generation := rfl
@[simp] theorem Ev.modLink_net_grant (e : Ev) (k : Nat) (f : Link → Link) :
    (e.modLink k f).p.net.grant = e.p.net.grant := rfl
@[simp] theorem Ev.modLink_net_load (e : Ev) (k : Nat) (f : Link → Link) :
    (e.modLink k f).p.net.load = e.p.net.load := rfl
@[simp] theorem Ev.modLink_net_nodes (e : Ev) (k : Nat) (f : Link → Link) :
    (e.modLink k f).p.net.nodes = e.p.net.nodes := rfl
@[simp] theorem Ev.modLink_net_links (e : Ev) (k : Nat) (f : Link → Link) :
    (e.modLink k f).p.net.links = tmod e.p.net.links k f := rfl
@[simp] theorem Ev.modLink_net_pipes (e : Ev) (k : Nat) (f : Link → Link) :
    (e.modLink k f).p.net.pipes = e.p.net.pipes := rfl
@[simp] theorem Ev.modLink_net_controls (e : Ev) (k : Nat) (f : Link → Link) :
    (e.modLink k f).p.net.controls = e.p.net.controls := rfl
@[simp] theorem Ev.modLink_net_tags (e : Ev) (k : Nat) (f : Link → Link) :
    (e.modLink k f).p.net.tags = e.p.net.tags := rfl
@[simp] theorem Ev.modLink_net_locator (e : Ev) (k : Nat) (f : Link → Link) :
    (e.modLink k f).p.net.locator = e.p.net.locator := rfl
@[simp] theorem Ev.modLink_net_checkViews (e : Ev) (k : Nat) (f : Link → Link) :
    (e.modLink k f).p.net.checkViews = e.p.net.checkViews := rfl

/-! ## `Ev.modPipe` -/

@[simp] theorem Ev.modPipe_now (e : Ev) (k : Nat) (f : PipeRt → PipeRt) : (e.modPipe k f).now = e.now := rfl
@[simp] theorem Ev.modPipe_bumped (e : Ev) (k : Nat) (f : PipeRt → PipeRt) : (e.modPipe k f).bumped = e.bumped := rfl
@[simp] theorem Ev.modPipe_out (e : Ev) (k : Nat) (f : PipeRt → PipeRt) : (e.modPipe k f).out = e.out := rfl
@[simp] theorem Ev.modPipe_draws (e : Ev) (k : Nat) (f : PipeRt → PipeRt) : (e.modPipe k f).p.draws = e.p.draws := rfl
@[simp] theorem Ev.modPipe_trace (e : Ev) (k : Nat) (f : PipeRt → PipeRt) : (e.modPipe k f).p.trace = e.p.trace := rfl
@[simp] theorem Ev.modPipe_mon (e : Ev) (k : Nat) (f : PipeRt → PipeRt) : (e.modPipe k f).p.mon = e.p.mon := rfl
@[simp] theorem Ev.modPipe_reg (e : Ev) (k : Nat) (f : PipeRt → PipeRt) : (e.modPipe k f).p.reg = e.p.reg := rfl
@[simp] theorem Ev.modPipe_ctl (e : Ev) (k : Nat) (f : PipeRt → PipeRt) : (e.modPipe k f).p.ctl = e.p.ctl := rfl
@[simp] theorem Ev.modPipe_led (e : Ev) (k : Nat) (f : PipeRt → PipeRt) : (e.modPipe k f).p.led = e.p.led := rfl
@[simp] theorem Ev.modPipe_net_state (e : Ev) (k : Nat) (f : PipeRt → PipeRt) :
    (e.modPipe k f).p.net.state = e.p.net.state := rfl
@[simp] theorem Ev.modPipe_net_generation (e : Ev) (k : Nat) (f : PipeRt → PipeRt) :
    (e.modPipe k f).p.net.generation = e.p.net.generation := rfl
@[simp] theorem Ev.modPipe_net_grant (e : Ev) (k : Nat) (f : PipeRt → PipeRt) :
    (e.modPipe k f).p.net.grant = e.p.net.grant := rfl
@[simp] theorem Ev.modPipe_net_load (e : Ev) (k : Nat) (f : PipeRt → PipeRt) :
    (e.modPipe k f).p.net.load = e.p.net.load := rfl
@[simp] theorem Ev.modPipe_net_nodes (e : Ev) (k : Nat) (f : PipeRt → PipeRt) :
    (e.modPipe k f).p.net.nodes = e.p.net.nodes := rfl
@[simp] theorem Ev.modPipe_net_links (e : Ev) (k : Nat) (f : PipeRt → PipeRt) :
    (e.modPipe k f).p.net.links = e.p.net.links := rfl
@[simp] theorem Ev.modPipe_net_pipes (e : Ev) (k : Nat) (f : PipeRt → PipeRt) :
    (e.modPipe k f).p.net.pipes = tmod e.p.net.pipes k f := rfl
@[simp] theorem Ev.modPipe_net_controls (e : Ev) (k : Nat) (f : PipeRt → PipeRt) :
    (e.modPipe k f).p.net.controls = e.p.net.controls := rfl
@[simp] theorem Ev.modPipe_net_tags (e : Ev) (k : Nat) (f : PipeRt → PipeRt) :
    (e.modPipe k f).p.net.tags = e.p.net.tags := rfl
@[simp] theorem Ev.modPipe_net_locator (e : Ev) (k : Nat) (f : PipeRt → PipeRt) :
    (e.modPipe k f).p.net.locator = e.p.net.locator := rfl
@[simp] theorem Ev.modPipe_net_checkViews (e : Ev) (k : Nat) (f : PipeRt → PipeRt) :
    (e.modPipe k f).p.net.checkViews = e.p.net.checkViews := rfl

/-! ## `Ev.mapPipes` -/

@[simp] theorem Ev.mapPipes_now (e : Ev) (f : Nat → PipeRt → PipeRt) : (e.mapPipes f).now = e.now := rfl
@[simp] theorem Ev.mapPipes_bumped (e : Ev) (f : Nat → PipeRt → PipeRt) : (e.mapPipes f).bumped = e.bumped := rfl
@[simp] theorem Ev.mapPipes_out (e : Ev) (f : Nat → PipeRt → PipeRt) : (e.mapPipes f).out = e.out := rfl
@[simp] theorem Ev.mapPipes_draws (e : Ev) (f : Nat → PipeRt → PipeRt) : (e.mapPipes f).p.draws = e.p.draws := rfl
@[simp] theorem Ev.mapPipes_trace (e : Ev) (f : Nat → PipeRt → PipeRt) : (e.mapPipes f).p.trace = e.p.trace := rfl
@[simp] theorem Ev.mapPipes_mon (e : Ev) (f : Nat → PipeRt → PipeRt) : (e.mapPipes f).p.mon = e.p.mon := rfl
@[simp] theorem Ev.mapPipes_reg (e : Ev) (f : Nat → PipeRt → PipeRt) : (e.mapPipes f).p.reg = e.p.reg := rfl
@[simp] theorem Ev.mapPipes_ctl (e : Ev) (f : Nat → PipeRt → PipeRt) : (e.mapPipes f).p.ctl = e.p.ctl := rfl
@[simp] theorem Ev.mapPipes_led (e : Ev) (f : Nat → PipeRt → PipeRt) : (e.mapPipes f).p.led = e.p.led := rfl
@[simp] theorem Ev.mapPipes_net_state (e : Ev) (f : Nat → PipeRt → PipeRt) :
    (e.mapPipes f).p.net.state = e.p.net.state := rfl
@[simp] theorem Ev.mapPipes_net_generation (e : Ev) (f : Nat → PipeRt → PipeRt) :
    (e.mapPipes f).p.net.generation = e.p.net.generation := rfl
@[simp] theorem Ev.mapPipes_net_grant (e : Ev) (f : Nat → PipeRt → PipeRt) :
    (e.mapPipes f).p.net.grant = e.p.net.grant := rfl
@[simp] theorem Ev.mapPipes_net_load (e : Ev) (f : Nat → PipeRt → PipeRt) :
    (e.mapPipes f).p.net.load = e.p.net.load := rfl
@[simp] theorem Ev.mapPipes_net_nodes (e : Ev) (f : Nat → PipeRt → PipeRt) :
    (e.mapPipes f).p.net.nodes = e.p.net.nodes := rfl
@[simp] theorem Ev.mapPipes_net_links (e : Ev) (f : Nat → PipeRt → PipeRt) :
    (e.mapPipes f).p.net.links = e.p.net.links := rfl
@[simp] theorem Ev.mapPipes_net_pipes (e : Ev) (f : Nat → PipeRt → PipeRt) :
    (e.mapPipes f).p.net.pipes = e.p.net.pipes.map fun x => (x.1, f x.1 x.2) := rfl
@[simp] theorem Ev.mapPipes_net_controls (e : Ev) (f : Nat → PipeRt → PipeRt) :
    (e.mapPipes f).p.net.controls = e.p.net.controls := rfl
@[simp] theorem Ev.mapPipes_net_tags (e : Ev) (f : Nat → PipeRt → PipeRt) :
    (e.mapPipes f).p.net.tags = e.p.net.tags := rfl
@[simp] theorem Ev.mapPipes_net_locator (e : Ev) (f : Nat → PipeRt → PipeRt) :
    (e.mapPipes f).p.net.locator = e.p.net.locator := rfl
@[simp] theorem Ev.mapPipes_net_checkViews (e : Ev) (f : Nat → PipeRt → PipeRt) :
    (e.mapPipes f).p.net.checkViews = e.p.net.checkViews := rfl

/-! ## `Ev.modControl` -/

@[simp] theorem Ev.modControl_now (e : Ev) (k : Nat) (f : ControlRt → ControlRt) : (e.modControl k f).now = e.now := rfl
@[simp] theorem Ev.modControl_bumped (e : Ev) (k : Nat) (f : ControlRt → ControlRt) : (e.modControl k f).bumped = e.bumped := rfl
@[simp] theorem Ev.modControl_out (e : Ev) (k : Nat) (f : ControlRt → ControlRt) : (e.modControl k f).out = e.out := rfl
@[simp] theorem Ev.modControl_draws (e : Ev) (k : Nat) (f : ControlRt → ControlRt) : (e.modControl k f).p.draws = e.p.draws := rfl
@[simp] theorem Ev.modControl_trace (e : Ev) (k : Nat) (f : ControlRt → ControlRt) : (e.modControl k f).p.trace = e.p.trace := rfl
@[simp] theorem Ev.modControl_mon (e : Ev) (k : Nat) (f : ControlRt → ControlRt) : (e.modControl k f).p.mon = e.p.mon := rfl
@[simp] theorem Ev.modControl_reg (e : Ev) (k : Nat) (f : ControlRt → ControlRt) : (e.modControl k f).p.reg = e.p.reg := rfl
@[simp] theorem Ev.modControl_ctl (e : Ev) (k : Nat) (f : ControlRt → ControlRt) : (e.modControl k f).p.ctl = e.p.ctl := rfl
@[simp] theorem Ev.modControl_led (e : Ev) (k : Nat) (f : ControlRt → ControlRt) : (e.modControl k f).p.led = e.p.led := rfl
@[simp] theorem Ev.modControl_net_state (e : Ev) (k : Nat) (f : ControlRt → ControlRt) :
    (e.modControl k f).p.net.state = e.p.net.state := rfl
@[simp] theorem Ev.modControl_net_generation (e : Ev) (k : Nat) (f : ControlRt → ControlRt) :
    (e.modControl k f).p.net.generation = e.p.net.generation := rfl
@[simp] theorem Ev.modControl_net_grant (e : Ev) (k : Nat) (f : ControlRt → ControlRt) :
    (e.modControl k f).p.net.grant = e.p.net.grant := rfl
@[simp] theorem Ev.modControl_net_load (e : Ev) (k : Nat) (f : ControlRt → ControlRt) :
    (e.modControl k f).p.net.load = e.p.net.load := rfl
@[simp] theorem Ev.modControl_net_nodes (e : Ev) (k : Nat) (f : ControlRt → ControlRt) :
    (e.modControl k f).p.net.nodes = e.p.net.nodes := rfl
@[simp] theorem Ev.modControl_net_links (e : Ev) (k : Nat) (f : ControlRt → ControlRt) :
    (e.modControl k f).p.net.links = e.p.net.links := rfl
@[simp] theorem Ev.modControl_net_pipes (e : Ev) (k : Nat) (f : ControlRt → ControlRt) :
    (e.modControl k f).p.net.pipes = e.p.net.pipes := rfl
@[simp] theorem Ev.modControl_net_controls (e : Ev) (k : Nat) (f : ControlRt → ControlRt) :
    (e.modControl k f).p.net.controls = tmod e.p.net.controls k f := rfl
@[simp] theorem Ev.modControl_net_tags (e : Ev) (k : Nat) (f : ControlRt → ControlRt) :
    (e.modControl k f).p.net.tags = e.p.net.tags := rfl
@[simp] theorem Ev.modControl_net_locator (e : Ev) (k : Nat) (f : ControlRt → ControlRt) :
    (e.modControl k f).p.net.locator = e.p.net.locator := rfl
@[simp] theorem Ev.modControl_net_checkViews (e : Ev) (k : Nat) (f : ControlRt → ControlRt) :
    (e.modControl k f).p.net.checkViews = e.p.net.checkViews := rfl

/-! ## `Ev.modRt` -/

@[simp] theorem Ev.modRt_now (e : Ev) (k : Nat) (f : StationRt → StationRt) : (e.modRt k f).now = e.now := rfl
@[simp] theorem Ev.modRt_bumped (e : Ev) (k : Nat) (f : StationRt → StationRt) : (e.modRt k f).bumped = e.bumped := rfl
@[simp] theorem Ev.modRt_out (e : Ev) (k : Nat) (f : StationRt → StationRt) : (e.modRt k f).out = e.out := rfl
@[simp] theorem Ev.modRt_draws (e : Ev) (k : Nat) (f : StationRt → StationRt) : (e.modRt k f).p.draws = e.p.draws := rfl
@[simp] theorem Ev.modRt_net (e : Ev) (k : Nat) (f : StationRt → StationRt) : (e.modRt k f).p.net = e.p.net := rfl
@[simp] theorem Ev.modRt_trace (e : Ev) (k : Nat) (f : StationRt → StationRt) : (e.modRt k f).p.trace = e.p.trace := rfl
@[simp] theorem Ev.modRt_reg (e : Ev) (k : Nat) (f : StationRt → StationRt) : (e.modRt k f).p.reg = e.p.reg := rfl
@[simp] theorem Ev.modRt_ctl (e : Ev) (k : Nat) (f : StationRt → StationRt) : (e.modRt k f).p.ctl = e.p.ctl := rfl
@[simp] theorem Ev.modRt_led (e : Ev) (k : Nat) (f : StationRt → StationRt) : (e.modRt k f).p.led = e.p.led := rfl
@[simp] theorem Ev.modRt_mon_stations (e : Ev) (k : Nat) (f : StationRt → StationRt) :
    (e.modRt k f).p.mon.stations = tmod e.p.mon.stations k fun s => { s with rt := f s.rt } := rfl
@[simp] theorem Ev.modRt_mon_tierLow (e : Ev) (k : Nat) (f : StationRt → StationRt) :
    (e.modRt k f).p.mon.tierLow = e.p.mon.tierLow := rfl
@[simp] theorem Ev.modRt_mon_counters (e : Ev) (k : Nat) (f : StationRt → StationRt) :
    (e.modRt k f).p.mon.counters = e.p.mon.counters := rfl
@[simp] theorem Ev.modRt_mon_threshold (e : Ev) (k : Nat) (f : StationRt → StationRt) :
    (e.modRt k f).p.mon.threshold = e.p.mon.threshold := rfl
@[simp] theorem Ev.modRt_mon_dead (e : Ev) (k : Nat) (f : StationRt → StationRt) :
    (e.modRt k f).p.mon.dead = e.p.mon.dead := rfl

/-! ## `Ev.modIncident` -/

@[simp] theorem Ev.modIncident_now (e : Ev) (k : Nat) (f : Incident → Incident) : (e.modIncident k f).now = e.now := rfl
@[simp] theorem Ev.modIncident_bumped (e : Ev) (k : Nat) (f : Incident → Incident) : (e.modIncident k f).bumped = e.bumped := rfl
@[simp] theorem Ev.modIncident_out (e : Ev) (k : Nat) (f : Incident → Incident) : (e.modIncident k f).out = e.out := rfl
@[simp] theorem Ev.modIncident_draws (e : Ev) (k : Nat) (f : Incident → Incident) : (e.modIncident k f).p.draws = e.p.draws := rfl
@[simp] theorem Ev.modIncident_net (e : Ev) (k : Nat) (f : Incident → Incident) : (e.modIncident k f).p.net = e.p.net := rfl
@[simp] theorem Ev.modIncident_trace (e : Ev) (k : Nat) (f : Incident → Incident) : (e.modIncident k f).p.trace = e.p.trace := rfl
@[simp] theorem Ev.modIncident_mon (e : Ev) (k : Nat) (f : Incident → Incident) : (e.modIncident k f).p.mon = e.p.mon := rfl
@[simp] theorem Ev.modIncident_ctl (e : Ev) (k : Nat) (f : Incident → Incident) : (e.modIncident k f).p.ctl = e.p.ctl := rfl
@[simp] theorem Ev.modIncident_led (e : Ev) (k : Nat) (f : Incident → Incident) : (e.modIncident k f).p.led = e.p.led := rfl
@[simp] theorem Ev.modIncident_reg_table (e : Ev) (k : Nat) (f : Incident → Incident) :
    (e.modIncident k f).p.reg.table = tmod e.p.reg.table k f := rfl
@[simp] theorem Ev.modIncident_reg_serial (e : Ev) (k : Nat) (f : Incident → Incident) :
    (e.modIncident k f).p.reg.serial = e.p.reg.serial := rfl
@[simp] theorem Ev.modIncident_reg_mergeWindow (e : Ev) (k : Nat) (f : Incident → Incident) :
    (e.modIncident k f).p.reg.mergeWindow = e.p.reg.mergeWindow := rfl
@[simp] theorem Ev.modIncident_reg_response1 (e : Ev) (k : Nat) (f : Incident → Incident) :
    (e.modIncident k f).p.reg.response1 = e.p.reg.response1 := rfl
@[simp] theorem Ev.modIncident_reg_response2 (e : Ev) (k : Nat) (f : Incident → Incident) :
    (e.modIncident k f).p.reg.response2 = e.p.reg.response2 := rfl
@[simp] theorem Ev.modIncident_reg_response3 (e : Ev) (k : Nat) (f : Incident → Incident) :
    (e.modIncident k f).p.reg.response3 = e.p.reg.response3 := rfl

/-! ## `Ev.modRecord` -/

@[simp] theorem Ev.modRecord_now (e : Ev) (k : Nat) (f : Outage → Outage) : (e.modRecord k f).now = e.now := rfl
@[simp] theorem Ev.modRecord_bumped (e : Ev) (k : Nat) (f : Outage → Outage) : (e.modRecord k f).bumped = e.bumped := rfl
@[simp] theorem Ev.modRecord_out (e : Ev) (k : Nat) (f : Outage → Outage) : (e.modRecord k f).out = e.out := rfl
@[simp] theorem Ev.modRecord_draws (e : Ev) (k : Nat) (f : Outage → Outage) : (e.modRecord k f).p.draws = e.p.draws := rfl
@[simp] theorem Ev.modRecord_net (e : Ev) (k : Nat) (f : Outage → Outage) : (e.modRecord k f).p.net = e.p.net := rfl
@[simp] theorem Ev.modRecord_trace (e : Ev) (k : Nat) (f : Outage → Outage) : (e.modRecord k f).p.trace = e.p.trace := rfl
@[simp] theorem Ev.modRecord_mon (e : Ev) (k : Nat) (f : Outage → Outage) : (e.modRecord k f).p.mon = e.p.mon := rfl
@[simp] theorem Ev.modRecord_reg (e : Ev) (k : Nat) (f : Outage → Outage) : (e.modRecord k f).p.reg = e.p.reg := rfl
@[simp] theorem Ev.modRecord_ctl (e : Ev) (k : Nat) (f : Outage → Outage) : (e.modRecord k f).p.ctl = e.p.ctl := rfl
@[simp] theorem Ev.modRecord_led_records (e : Ev) (k : Nat) (f : Outage → Outage) :
    (e.modRecord k f).p.led.records = tmod e.p.led.records k f := rfl
@[simp] theorem Ev.modRecord_led_weights (e : Ev) (k : Nat) (f : Outage → Outage) :
    (e.modRecord k f).p.led.weights = e.p.led.weights := rfl

/-! ## `Ev.bump` -/

@[simp] theorem Ev.bump_now (e : Ev) : (e.bump).now = e.now := by
  unfold Ev.bump; split <;> rfl
@[simp] theorem Ev.bump_out (e : Ev) : (e.bump).out = e.out := by
  unfold Ev.bump; split <;> rfl
@[simp] theorem Ev.bump_draws (e : Ev) : (e.bump).p.draws = e.p.draws := by
  unfold Ev.bump; split <;> rfl
@[simp] theorem Ev.bump_trace (e : Ev) : (e.bump).p.trace = e.p.trace := by
  unfold Ev.bump; split <;> rfl
@[simp] theorem Ev.bump_mon (e : Ev) : (e.bump).p.mon = e.p.mon := by
  unfold Ev.bump; split <;> rfl
@[simp] theorem Ev.bump_reg (e : Ev) : (e.bump).p.reg = e.p.reg := by
  unfold Ev.bump; split <;> rfl
@[simp] theorem Ev.bump_ctl (e : Ev) : (e.bump).p.ctl = e.p.ctl := by
  unfold Ev.bump; split <;> rfl
@[simp] theorem Ev.bump_led (e : Ev) : (e.bump).p.led = e.p.led := by
  unfold Ev.bump; split <;> rfl
@[simp] theorem Ev.bump_net_state (e : Ev) : (e.bump).p.net.state = e.p.net.state := by
  unfold Ev.bump; split <;> rfl
@[simp] theorem Ev.bump_bumped (e : Ev) : (e.bump).bumped = true := by
  unfold Ev.bump; split <;> simp_all
@[simp] theorem Ev.bump_net_generation (e : Ev) :
    (e.bump).p.net.generation = if e.bumped then e.p.net.generation else min max32 (e.p.net.generation + 1) := by
  unfold Ev.bump; split <;> rfl
/-- One increment for an event: the first bump (R8). -/
theorem Ev.bump_first (e : Ev) (h : e.bumped = false) :
    e.bump = { e with p.net.generation := min max32 (e.p.net.generation + 1), bumped := true } := by
  simp [Ev.bump, h]
/-- One increment for an event: any further bump does nothing (R8). -/
theorem Ev.bump_again (e : Ev) (h : e.bumped = true) : e.bump = e := by simp [Ev.bump, h]
@[simp] theorem Ev.bump_net_grant (e : Ev) : (e.bump).p.net.grant = e.p.net.grant := by
  unfold Ev.bump; split <;> rfl
@[simp] theorem Ev.bump_net_load (e : Ev) : (e.bump).p.net.load = e.p.net.load := by
  unfold Ev.bump; split <;> rfl
@[simp] theorem Ev.bump_net_nodes (e : Ev) : (e.bump).p.net.nodes = e.p.net.nodes := by
  unfold Ev.bump; split <;> rfl
@[simp] theorem Ev.bump_net_links (e : Ev) : (e.bump).p.net.links = e.p.net.links := by
  unfold Ev.bump; split <;> rfl
@[simp] theorem Ev.bump_net_pipes (e : Ev) : (e.bump).p.net.pipes = e.p.net.pipes := by
  unfold Ev.bump; split <;> rfl
@[simp] theorem Ev.bump_net_controls (e : Ev) : (e.bump).p.net.controls = e.p.net.controls := by
  unfold Ev.bump; split <;> rfl
@[simp] theorem Ev.bump_net_tags (e : Ev) : (e.bump).p.net.tags = e.p.net.tags := by
  unfold Ev.bump; split <;> rfl
@[simp] theorem Ev.bump_net_locator (e : Ev) : (e.bump).p.net.locator = e.p.net.locator := by
  unfold Ev.bump; split <;> rfl
@[simp] theorem Ev.bump_net_checkViews (e : Ev) : (e.bump).p.net.checkViews = e.p.net.checkViews := by
  unfold Ev.bump; split <;> rfl

/-! ## `Ev.askRecompute` -/

@[simp] theorem Ev.askRecompute_now (e : Ev) : (e.askRecompute).now = e.now := rfl
@[simp] theorem Ev.askRecompute_bumped (e : Ev) : (e.askRecompute).bumped = e.bumped := rfl
@[simp] theorem Ev.askRecompute_out (e : Ev) : (e.askRecompute).out = e.out := rfl
@[simp] theorem Ev.askRecompute_draws (e : Ev) : (e.askRecompute).p.draws = e.p.draws := rfl
@[simp] theorem Ev.askRecompute_net (e : Ev) : (e.askRecompute).p.net = e.p.net := rfl
@[simp] theorem Ev.askRecompute_mon (e : Ev) : (e.askRecompute).p.mon = e.p.mon := rfl
@[simp] theorem Ev.askRecompute_reg (e : Ev) : (e.askRecompute).p.reg = e.p.reg := rfl
@[simp] theorem Ev.askRecompute_ctl (e : Ev) : (e.askRecompute).p.ctl = e.p.ctl := rfl
@[simp] theorem Ev.askRecompute_led (e : Ev) : (e.askRecompute).p.led = e.p.led := rfl
@[simp] theorem Ev.askRecompute_trace_running (e : Ev) : (e.askRecompute).p.trace.running = e.p.trace.running := rfl
@[simp] theorem Ev.askRecompute_trace_fifo (e : Ev) : (e.askRecompute).p.trace.fifo = e.p.trace.fifo := rfl
@[simp] theorem Ev.askRecompute_trace_deferred (e : Ev) : (e.askRecompute).p.trace.deferred = e.p.trace.deferred := rfl
@[simp] theorem Ev.askRecompute_trace_pendingRecompute (e : Ev) :
    (e.askRecompute).p.trace.pendingRecompute = true := rfl
@[simp] theorem Ev.askRecompute_trace_applied (e : Ev) : (e.askRecompute).p.trace.applied = e.p.trace.applied := rfl
@[simp] theorem Ev.askRecompute_trace_limit (e : Ev) : (e.askRecompute).p.trace.limit = e.p.trace.limit := rfl

/-! ## `Ev.count` -/

@[simp] theorem Ev.count_now (e : Ev) (f : TelemetryCounters → TelemetryCounters) : (e.count f).now = e.now := rfl
@[simp] theorem Ev.count_bumped (e : Ev) (f : TelemetryCounters → TelemetryCounters) : (e.count f).bumped = e.bumped := rfl
@[simp] theorem Ev.count_out (e : Ev) (f : TelemetryCounters → TelemetryCounters) : (e.count f).out = e.out := rfl
@[simp] theorem Ev.count_draws (e : Ev) (f : TelemetryCounters → TelemetryCounters) : (e.count f).p.draws = e.p.draws := rfl
@[simp] theorem Ev.count_net (e : Ev) (f : TelemetryCounters → TelemetryCounters) : (e.count f).p.net = e.p.net := rfl
@[simp] theorem Ev.count_trace (e : Ev) (f : TelemetryCounters → TelemetryCounters) : (e.count f).p.trace = e.p.trace := rfl
@[simp] theorem Ev.count_reg (e : Ev) (f : TelemetryCounters → TelemetryCounters) : (e.count f).p.reg = e.p.reg := rfl
@[simp] theorem Ev.count_ctl (e : Ev) (f : TelemetryCounters → TelemetryCounters) : (e.count f).p.ctl = e.p.ctl := rfl
@[simp] theorem Ev.count_led (e : Ev) (f : TelemetryCounters → TelemetryCounters) : (e.count f).p.led = e.p.led := rfl
@[simp] theorem Ev.count_mon_stations (e : Ev) (f : TelemetryCounters → TelemetryCounters) :
    (e.count f).p.mon.stations = e.p.mon.stations := rfl
@[simp] theorem Ev.count_mon_tierLow (e : Ev) (f : TelemetryCounters → TelemetryCounters) :
    (e.count f).p.mon.tierLow = e.p.mon.tierLow := rfl
@[simp] theorem Ev.count_mon_counters (e : Ev) (f : TelemetryCounters → TelemetryCounters) :
    (e.count f).p.mon.counters = f e.p.mon.counters := rfl
@[simp] theorem Ev.count_mon_threshold (e : Ev) (f : TelemetryCounters → TelemetryCounters) :
    (e.count f).p.mon.threshold = e.p.mon.threshold := rfl
@[simp] theorem Ev.count_mon_dead (e : Ev) (f : TelemetryCounters → TelemetryCounters) :
    (e.count f).p.mon.dead = e.p.mon.dead := rfl

/-! ## Reading back what an update wrote -/

theorem Ev.modIso_iso? (e : Ev) (k j : Nat) (f : Isolation → Isolation) :
    (e.modIso k f).iso? j = if j = k then (e.iso? j).map f else e.iso? j := tget_tmod _ _ _ _

theorem Ev.modOrder_order? (e : Ev) (k j : Nat) (f : Order → Order) :
    (e.modOrder k f).order? j = if j = k then (e.order? j).map f else e.order? j := tget_tmod _ _ _ _

theorem Ev.modControl_control? (e : Ev) (k j : Nat) (f : ControlRt → ControlRt) :
    (e.modControl k f).control? j = if j = k then (e.control? j).map f else e.control? j := tget_tmod _ _ _ _

theorem Ev.modLink_link? (e : Ev) (k j : Nat) (f : Link → Link) :
    (e.modLink k f).link? j = if j = k then (e.link? j).map f else e.link? j := tget_tmod _ _ _ _

theorem Ev.mapPipes_pipe? (e : Ev) (j : Nat) (f : Nat → PipeRt → PipeRt) :
    (e.mapPipes f).pipe? j = (e.pipe? j).map (f j) := tget_map _ _ _

theorem Ev.modRt_station? (e : Ev) (k j : Nat) (f : StationRt → StationRt) :
    (e.modRt k f).station? j = if j = k then (e.station? j).map (fun s => { s with rt := f s.rt }) else e.station? j :=
  tget_tmod e.p.mon.stations k (fun s => { s with rt := f s.rt }) j

theorem Ev.modRecord_record? (e : Ev) (k j : Nat) (f : Outage → Outage) :
    (e.modRecord k f).record? j = if j = k then (e.record? j).map f else e.record? j := tget_tmod _ _ _ _

end Sys2Proof.Machine
end

