-- ==== Sys2Proof/Laws/Event.lean ====
section
/-! SUPPORT. What taking an event, ending it and answering a request can do, said once. -/

namespace Sys2Proof.Machine

-- One theorem after another: theorems checked side by side each hold a thread and its stack.
set_option Elab.async false

/-! ## What the arbiter and the end of an event leave alone (R142, R180, R30) -/

@[simp] theorem Ev.issueNow_mon (e : Ev) (r : IsoRef) (l : Nat) (a : OrderAction) : (e.issueNow r l a).p.mon = e.p.mon := by
  simp [Ev.issueNow]
@[simp] theorem Ev.issueNow_reg (e : Ev) (r : IsoRef) (l : Nat) (a : OrderAction) : (e.issueNow r l a).p.reg = e.p.reg := by
  simp [Ev.issueNow]
@[simp] theorem Ev.issueNow_draws (e : Ev) (r : IsoRef) (l : Nat) (a : OrderAction) : (e.issueNow r l a).p.draws = e.p.draws := by
  simp [Ev.issueNow]
@[simp] theorem Ev.issueNow_ctl_serial (e : Ev) (r : IsoRef) (l : Nat) (a : OrderAction) : (e.issueNow r l a).p.ctl.serial = e.p.ctl.serial := by
  simp [Ev.issueNow]
@[simp] theorem Ev.issueNow_ctl_verifyTime (e : Ev) (r : IsoRef) (l : Nat) (a : OrderAction) : (e.issueNow r l a).p.ctl.verifyTime = e.p.ctl.verifyTime := by
  simp [Ev.issueNow]
@[simp] theorem Ev.issueNow_ctl_acceptTime (e : Ev) (r : IsoRef) (l : Nat) (a : OrderAction) : (e.issueNow r l a).p.ctl.acceptTime = e.p.ctl.acceptTime := by
  simp [Ev.issueNow]
@[simp] theorem Ev.issueNow_ctl_target (e : Ev) (r : IsoRef) (l : Nat) (a : OrderAction) : (e.issueNow r l a).p.ctl.target = e.p.ctl.target := by
  simp [Ev.issueNow]
@[simp] theorem Ev.issueNow_net_state (e : Ev) (r : IsoRef) (l : Nat) (a : OrderAction) : (e.issueNow r l a).p.net.state = e.p.net.state := by
  simp [Ev.issueNow]
@[simp] theorem Ev.issueNow_net_generation (e : Ev) (r : IsoRef) (l : Nat) (a : OrderAction) : (e.issueNow r l a).p.net.generation = e.p.net.generation := by
  simp [Ev.issueNow]
@[simp] theorem Ev.issueNow_net_grant (e : Ev) (r : IsoRef) (l : Nat) (a : OrderAction) : (e.issueNow r l a).p.net.grant = e.p.net.grant := by
  simp [Ev.issueNow]
@[simp] theorem Ev.issueNow_net_load (e : Ev) (r : IsoRef) (l : Nat) (a : OrderAction) : (e.issueNow r l a).p.net.load = e.p.net.load := by
  simp [Ev.issueNow]
@[simp] theorem Ev.issueNow_net_nodes (e : Ev) (r : IsoRef) (l : Nat) (a : OrderAction) : (e.issueNow r l a).p.net.nodes = e.p.net.nodes := by
  simp [Ev.issueNow]
@[simp] theorem Ev.issueNow_net_links (e : Ev) (r : IsoRef) (l : Nat) (a : OrderAction) : (e.issueNow r l a).p.net.links = e.p.net.links := by
  simp [Ev.issueNow]
@[simp] theorem Ev.issueNow_net_pipes (e : Ev) (r : IsoRef) (l : Nat) (a : OrderAction) : (e.issueNow r l a).p.net.pipes = e.p.net.pipes := by
  simp [Ev.issueNow]
@[simp] theorem Ev.issueNow_net_tags (e : Ev) (r : IsoRef) (l : Nat) (a : OrderAction) : (e.issueNow r l a).p.net.tags = e.p.net.tags := by
  simp [Ev.issueNow]
@[simp] theorem Ev.issueNow_net_locator (e : Ev) (r : IsoRef) (l : Nat) (a : OrderAction) : (e.issueNow r l a).p.net.locator = e.p.net.locator := by
  simp [Ev.issueNow]
@[simp] theorem Ev.issueNow_led (e : Ev) (r : IsoRef) (l : Nat) (a : OrderAction) : (e.issueNow r l a).p.led = e.p.led := by
  simp [Ev.issueNow]
@[simp] theorem Ev.issueNow_trace (e : Ev) (r : IsoRef) (l : Nat) (a : OrderAction) : (e.issueNow r l a).p.trace = e.p.trace := by
  simp [Ev.issueNow]
@[simp] theorem Ev.issueNow_net_checkViews (e : Ev) (r : IsoRef) (l : Nat) (a : OrderAction) : (e.issueNow r l a).p.net.checkViews = e.p.net.checkViews := by
  simp [Ev.issueNow]

@[simp] theorem Ev.issueNow_now (e : Ev) (r : IsoRef) (l : Nat) (a : OrderAction) : (e.issueNow r l a).now = e.now := by
  simp [Ev.issueNow]

@[simp] theorem Ev.serve_now (fuel : Nat) (e : Ev) : (Ev.serve fuel e).now = e.now := by
  induction fuel generalizing e with
  | zero => rfl
  | succ n ih =>
    simp only [Ev.serve]
    repeat' split
    all_goals first | rfl | simp [ih]
@[simp] theorem Ev.serve_mon (fuel : Nat) (e : Ev) : (Ev.serve fuel e).p.mon = e.p.mon := by
  induction fuel generalizing e with
  | zero => rfl
  | succ n ih =>
    simp only [Ev.serve]
    repeat' split
    all_goals first | rfl | simp [ih]
@[simp] theorem Ev.serve_reg (fuel : Nat) (e : Ev) : (Ev.serve fuel e).p.reg = e.p.reg := by
  induction fuel generalizing e with
  | zero => rfl
  | succ n ih =>
    simp only [Ev.serve]
    repeat' split
    all_goals first | rfl | simp [ih]
@[simp] theorem Ev.serve_draws (fuel : Nat) (e : Ev) : (Ev.serve fuel e).p.draws = e.p.draws := by
  induction fuel generalizing e with
  | zero => rfl
  | succ n ih =>
    simp only [Ev.serve]
    repeat' split
    all_goals first | rfl | simp [ih]
@[simp] theorem Ev.serve_ctl_serial (fuel : Nat) (e : Ev) : (Ev.serve fuel e).p.ctl.serial = e.p.ctl.serial := by
  induction fuel generalizing e with
  | zero => rfl
  | succ n ih =>
    simp only [Ev.serve]
    repeat' split
    all_goals first | rfl | simp [ih]
@[simp] theorem Ev.serve_ctl_verifyTime (fuel : Nat) (e : Ev) : (Ev.serve fuel e).p.ctl.verifyTime = e.p.ctl.verifyTime := by
  induction fuel generalizing e with
  | zero => rfl
  | succ n ih =>
    simp only [Ev.serve]
    repeat' split
    all_goals first | rfl | simp [ih]
@[simp] theorem Ev.serve_ctl_acceptTime (fuel : Nat) (e : Ev) : (Ev.serve fuel e).p.ctl.acceptTime = e.p.ctl.acceptTime := by
  induction fuel generalizing e with
  | zero => rfl
  | succ n ih =>
    simp only [Ev.serve]
    repeat' split
    all_goals first | rfl | simp [ih]
@[simp] theorem Ev.serve_ctl_target (fuel : Nat) (e : Ev) : (Ev.serve fuel e).p.ctl.target = e.p.ctl.target := by
  induction fuel generalizing e with
  | zero => rfl
  | succ n ih =>
    simp only [Ev.serve]
    repeat' split
    all_goals first | rfl | simp [ih]
@[simp] theorem Ev.serve_net_state (fuel : Nat) (e : Ev) : (Ev.serve fuel e).p.net.state = e.p.net.state := by
  induction fuel generalizing e with
  | zero => rfl
  | succ n ih =>
    simp only [Ev.serve]
    repeat' split
    all_goals first | rfl | simp [ih]
@[simp] theorem Ev.serve_net_generation (fuel : Nat) (e : Ev) : (Ev.serve fuel e).p.net.generation = e.p.net.generation := by
  induction fuel generalizing e with
  | zero => rfl
  | succ n ih =>
    simp only [Ev.serve]
    repeat' split
    all_goals first | rfl | simp [ih]
@[simp] theorem Ev.serve_net_grant (fuel : Nat) (e : Ev) : (Ev.serve fuel e).p.net.grant = e.p.net.grant := by
  induction fuel generalizing e with
  | zero => rfl
  | succ n ih =>
    simp only [Ev.serve]
    repeat' split
    all_goals first | rfl | simp [ih]
@[simp] theorem Ev.serve_net_load (fuel : Nat) (e : Ev) : (Ev.serve fuel e).p.net.load = e.p.net.load := by
  induction fuel generalizing e with
  | zero => rfl
  | succ n ih =>
    simp only [Ev.serve]
    repeat' split
    all_goals first | rfl | simp [ih]
@[simp] theorem Ev.serve_net_nodes (fuel : Nat) (e : Ev) : (Ev.serve fuel e).p.net.nodes = e.p.net.nodes := by
  induction fuel generalizing e with
  | zero => rfl
  | succ n ih =>
    simp only [Ev.serve]
    repeat' split
    all_goals first | rfl | simp [ih]
@[simp] theorem Ev.serve_net_links (fuel : Nat) (e : Ev) : (Ev.serve fuel e).p.net.links = e.p.net.links := by
  induction fuel generalizing e with
  | zero => rfl
  | succ n ih =>
    simp only [Ev.serve]
    repeat' split
    all_goals first | rfl | simp [ih]
@[simp] theorem Ev.serve_net_pipes (fuel : Nat) (e : Ev) : (Ev.serve fuel e).p.net.pipes = e.p.net.pipes := by
  induction fuel generalizing e with
  | zero => rfl
  | succ n ih =>
    simp only [Ev.serve]
    repeat' split
    all_goals first | rfl | simp [ih]
@[simp] theorem Ev.serve_net_tags (fuel : Nat) (e : Ev) : (Ev.serve fuel e).p.net.tags = e.p.net.tags := by
  induction fuel generalizing e with
  | zero => rfl
  | succ n ih =>
    simp only [Ev.serve]
    repeat' split
    all_goals first | rfl | simp [ih]
@[simp] theorem Ev.serve_net_locator (fuel : Nat) (e : Ev) : (Ev.serve fuel e).p.net.locator = e.p.net.locator := by
  induction fuel generalizing e with
  | zero => rfl
  | succ n ih =>
    simp only [Ev.serve]
    repeat' split
    all_goals first | rfl | simp [ih]
@[simp] theorem Ev.serve_led (fuel : Nat) (e : Ev) : (Ev.serve fuel e).p.led = e.p.led := by
  induction fuel generalizing e with
  | zero => rfl
  | succ n ih =>
    simp only [Ev.serve]
    repeat' split
    all_goals first | rfl | simp [ih]
@[simp] theorem Ev.serve_trace (fuel : Nat) (e : Ev) : (Ev.serve fuel e).p.trace = e.p.trace := by
  induction fuel generalizing e with
  | zero => rfl
  | succ n ih =>
    simp only [Ev.serve]
    repeat' split
    all_goals first | rfl | simp [ih]
@[simp] theorem Ev.serve_net_checkViews (fuel : Nat) (e : Ev) : (Ev.serve fuel e).p.net.checkViews = e.p.net.checkViews := by
  induction fuel generalizing e with
  | zero => rfl
  | succ n ih =>
    simp only [Ev.serve]
    repeat' split
    all_goals first | rfl | simp [ih]

@[simp] theorem Ev.notePeaks_now (e : Ev) : (e.notePeaks).now = e.now := by
  rfl
@[simp] theorem Ev.notePeaks_mon (e : Ev) : (e.notePeaks).p.mon = e.p.mon := by
  rfl
@[simp] theorem Ev.notePeaks_reg (e : Ev) : (e.notePeaks).p.reg = e.p.reg := by
  rfl
@[simp] theorem Ev.notePeaks_led_weights (e : Ev) : (e.notePeaks).p.led.weights = e.p.led.weights := by
  rfl
@[simp] theorem Ev.notePeaks_draws (e : Ev) : (e.notePeaks).p.draws = e.p.draws := by
  rfl
@[simp] theorem Ev.notePeaks_net (e : Ev) : (e.notePeaks).p.net = e.p.net := by
  rfl
@[simp] theorem Ev.notePeaks_trace (e : Ev) : (e.notePeaks).p.trace = e.p.trace := by
  rfl
@[simp] theorem Ev.notePeaks_ctl (e : Ev) : (e.notePeaks).p.ctl = e.p.ctl := by
  rfl
@[simp] theorem Ev.notePeaks_out (e : Ev) : (e.notePeaks).out = e.out := by
  rfl

@[simp] theorem Ev.watchCheck_now (e : Ev) : (e.watchCheck).now = e.now := by
  simp only [Ev.watchCheck]; split <;> (try split) <;> rfl
@[simp] theorem Ev.watchCheck_mon (e : Ev) : (e.watchCheck).p.mon = e.p.mon := by
  simp only [Ev.watchCheck]; split <;> (try split) <;> rfl
@[simp] theorem Ev.watchCheck_reg (e : Ev) : (e.watchCheck).p.reg = e.p.reg := by
  simp only [Ev.watchCheck]; split <;> (try split) <;> rfl
@[simp] theorem Ev.watchCheck_draws (e : Ev) : (e.watchCheck).p.draws = e.p.draws := by
  simp only [Ev.watchCheck]; split <;> (try split) <;> rfl
@[simp] theorem Ev.watchCheck_net_state (e : Ev) : (e.watchCheck).p.net.state = e.p.net.state := by
  simp only [Ev.watchCheck]; split <;> (try split) <;> rfl
@[simp] theorem Ev.watchCheck_net_generation (e : Ev) : (e.watchCheck).p.net.generation = e.p.net.generation := by
  simp only [Ev.watchCheck]; split <;> (try split) <;> rfl
@[simp] theorem Ev.watchCheck_net_grant (e : Ev) : (e.watchCheck).p.net.grant = e.p.net.grant := by
  simp only [Ev.watchCheck]; split <;> (try split) <;> rfl
@[simp] theorem Ev.watchCheck_net_load (e : Ev) : (e.watchCheck).p.net.load = e.p.net.load := by
  simp only [Ev.watchCheck]; split <;> (try split) <;> rfl
@[simp] theorem Ev.watchCheck_net_nodes (e : Ev) : (e.watchCheck).p.net.nodes = e.p.net.nodes := by
  simp only [Ev.watchCheck]; split <;> (try split) <;> rfl
@[simp] theorem Ev.watchCheck_net_links (e : Ev) : (e.watchCheck).p.net.links = e.p.net.links := by
  simp only [Ev.watchCheck]; split <;> (try split) <;> rfl
@[simp] theorem Ev.watchCheck_net_pipes (e : Ev) : (e.watchCheck).p.net.pipes = e.p.net.pipes := by
  simp only [Ev.watchCheck]; split <;> (try split) <;> rfl
@[simp] theorem Ev.watchCheck_net_tags (e : Ev) : (e.watchCheck).p.net.tags = e.p.net.tags := by
  simp only [Ev.watchCheck]; split <;> (try split) <;> rfl
@[simp] theorem Ev.watchCheck_net_locator (e : Ev) : (e.watchCheck).p.net.locator = e.p.net.locator := by
  simp only [Ev.watchCheck]; split <;> (try split) <;> rfl
@[simp] theorem Ev.watchCheck_trace (e : Ev) : (e.watchCheck).p.trace = e.p.trace := by
  simp only [Ev.watchCheck]; split <;> (try split) <;> rfl
@[simp] theorem Ev.watchCheck_ctl (e : Ev) : (e.watchCheck).p.ctl = e.p.ctl := by
  simp only [Ev.watchCheck]; split <;> (try split) <;> rfl
@[simp] theorem Ev.watchCheck_led (e : Ev) : (e.watchCheck).p.led = e.p.led := by
  simp only [Ev.watchCheck]; split <;> (try split) <;> rfl
@[simp] theorem Ev.watchCheck_out (e : Ev) : (e.watchCheck).out = e.out := by
  simp only [Ev.watchCheck]; split <;> (try split) <;> rfl

@[simp] theorem Ev.watchRecompute_now (e : Ev) : (e.watchRecompute).now = e.now := by
  simp only [Ev.watchRecompute]; split <;> (try split) <;> rfl
@[simp] theorem Ev.watchRecompute_mon (e : Ev) : (e.watchRecompute).p.mon = e.p.mon := by
  simp only [Ev.watchRecompute]; split <;> (try split) <;> rfl
@[simp] theorem Ev.watchRecompute_reg (e : Ev) : (e.watchRecompute).p.reg = e.p.reg := by
  simp only [Ev.watchRecompute]; split <;> (try split) <;> rfl
@[simp] theorem Ev.watchRecompute_draws (e : Ev) : (e.watchRecompute).p.draws = e.p.draws := by
  simp only [Ev.watchRecompute]; split <;> (try split) <;> rfl
@[simp] theorem Ev.watchRecompute_trace_applied (e : Ev) : (e.watchRecompute).p.trace.applied = e.p.trace.applied := by
  simp only [Ev.watchRecompute]; split <;> (try split) <;> rfl
@[simp] theorem Ev.watchRecompute_trace_limit (e : Ev) : (e.watchRecompute).p.trace.limit = e.p.trace.limit := by
  simp only [Ev.watchRecompute]; split <;> (try split) <;> rfl
@[simp] theorem Ev.watchRecompute_net (e : Ev) : (e.watchRecompute).p.net = e.p.net := by
  simp only [Ev.watchRecompute]; split <;> (try split) <;> rfl
@[simp] theorem Ev.watchRecompute_ctl (e : Ev) : (e.watchRecompute).p.ctl = e.p.ctl := by
  simp only [Ev.watchRecompute]; split <;> (try split) <;> rfl
@[simp] theorem Ev.watchRecompute_led (e : Ev) : (e.watchRecompute).p.led = e.p.led := by
  simp only [Ev.watchRecompute]; split <;> (try split) <;> rfl
@[simp] theorem Ev.watchRecompute_out (e : Ev) : (e.watchRecompute).out = e.out := by
  simp only [Ev.watchRecompute]; split <;> (try split) <;> rfl
@[simp] theorem Ev.watchRecompute_trace_fifo (e : Ev) : (e.watchRecompute).p.trace.fifo = e.p.trace.fifo := by
  simp only [Ev.watchRecompute]; split <;> (try split) <;> rfl
@[simp] theorem Ev.watchRecompute_trace_deferred (e : Ev) : (e.watchRecompute).p.trace.deferred = e.p.trace.deferred := by
  simp only [Ev.watchRecompute]; split <;> (try split) <;> rfl
@[simp] theorem Ev.watchRecompute_trace_pendingRecompute (e : Ev) : (e.watchRecompute).p.trace.pendingRecompute = e.p.trace.pendingRecompute := by
  simp only [Ev.watchRecompute]; split <;> (try split) <;> rfl

@[simp] theorem Ev.refill_now (e : Ev) : (e.refill).now = e.now := by
  rfl
@[simp] theorem Ev.refill_mon (e : Ev) : (e.refill).p.mon = e.p.mon := by
  rfl
@[simp] theorem Ev.refill_reg (e : Ev) : (e.refill).p.reg = e.p.reg := by
  rfl
@[simp] theorem Ev.refill_draws (e : Ev) : (e.refill).p.draws = e.p.draws := by
  rfl
@[simp] theorem Ev.refill_trace_applied (e : Ev) : (e.refill).p.trace.applied = e.p.trace.applied := by
  rfl
@[simp] theorem Ev.refill_trace_limit (e : Ev) : (e.refill).p.trace.limit = e.p.trace.limit := by
  rfl
@[simp] theorem Ev.refill_net (e : Ev) : (e.refill).p.net = e.p.net := by
  rfl
@[simp] theorem Ev.refill_ctl (e : Ev) : (e.refill).p.ctl = e.p.ctl := by
  rfl
@[simp] theorem Ev.refill_led (e : Ev) : (e.refill).p.led = e.p.led := by
  rfl
@[simp] theorem Ev.refill_out (e : Ev) : (e.refill).out = e.out := by
  rfl
@[simp] theorem Ev.refill_trace_running (e : Ev) : (e.refill).p.trace.running = e.p.trace.running := by
  rfl
@[simp] theorem Ev.refill_trace_pendingRecompute (e : Ev) : (e.refill).p.trace.pendingRecompute = e.p.trace.pendingRecompute := by
  rfl

@[simp] theorem Ev.takeJob_now (e : Ev) : (e.takeJob).now = e.now := by
  simp only [Ev.takeJob]; split <;> (try split) <;> (try split) <;> simp
@[simp] theorem Ev.takeJob_mon (e : Ev) : (e.takeJob).p.mon = e.p.mon := by
  simp only [Ev.takeJob]; split <;> (try split) <;> (try split) <;> simp
@[simp] theorem Ev.takeJob_reg (e : Ev) : (e.takeJob).p.reg = e.p.reg := by
  simp only [Ev.takeJob]; split <;> (try split) <;> (try split) <;> simp
@[simp] theorem Ev.takeJob_draws (e : Ev) : (e.takeJob).p.draws = e.p.draws := by
  simp only [Ev.takeJob]; split <;> (try split) <;> (try split) <;> simp
@[simp] theorem Ev.takeJob_trace_applied (e : Ev) : (e.takeJob).p.trace.applied = e.p.trace.applied := by
  simp only [Ev.takeJob]; split <;> (try split) <;> (try split) <;> simp
@[simp] theorem Ev.takeJob_trace_limit (e : Ev) : (e.takeJob).p.trace.limit = e.p.trace.limit := by
  simp only [Ev.takeJob]; split <;> (try split) <;> (try split) <;> simp
@[simp] theorem Ev.takeJob_net (e : Ev) : (e.takeJob).p.net = e.p.net := by
  simp only [Ev.takeJob]; split <;> (try split) <;> (try split) <;> simp
@[simp] theorem Ev.takeJob_ctl (e : Ev) : (e.takeJob).p.ctl = e.p.ctl := by
  simp only [Ev.takeJob]; split <;> (try split) <;> (try split) <;> simp
@[simp] theorem Ev.takeJob_led (e : Ev) : (e.takeJob).p.led = e.p.led := by
  simp only [Ev.takeJob]; split <;> (try split) <;> (try split) <;> simp
@[simp] theorem Ev.takeJob_out (e : Ev) : (e.takeJob).out = e.out := by
  simp only [Ev.takeJob]; split <;> (try split) <;> (try split) <;> simp

@[simp] theorem Ev.settle_now (e : Ev) : (e.settle).now = e.now := by
  simp [Ev.settle, Ev.arbitrate]
@[simp] theorem Ev.settle_mon (e : Ev) : (e.settle).p.mon = e.p.mon := by
  simp [Ev.settle, Ev.arbitrate]
@[simp] theorem Ev.settle_reg (e : Ev) : (e.settle).p.reg = e.p.reg := by
  simp [Ev.settle, Ev.arbitrate]
@[simp] theorem Ev.settle_led_weights (e : Ev) : (e.settle).p.led.weights = e.p.led.weights := by
  simp [Ev.settle, Ev.arbitrate]
@[simp] theorem Ev.settle_draws (e : Ev) : (e.settle).p.draws = e.p.draws := by
  simp [Ev.settle, Ev.arbitrate]
@[simp] theorem Ev.settle_ctl_serial (e : Ev) : (e.settle).p.ctl.serial = e.p.ctl.serial := by
  simp [Ev.settle, Ev.arbitrate]
@[simp] theorem Ev.settle_ctl_verifyTime (e : Ev) : (e.settle).p.ctl.verifyTime = e.p.ctl.verifyTime := by
  simp [Ev.settle, Ev.arbitrate]
@[simp] theorem Ev.settle_ctl_acceptTime (e : Ev) : (e.settle).p.ctl.acceptTime = e.p.ctl.acceptTime := by
  simp [Ev.settle, Ev.arbitrate]
@[simp] theorem Ev.settle_ctl_target (e : Ev) : (e.settle).p.ctl.target = e.p.ctl.target := by
  simp [Ev.settle, Ev.arbitrate]
@[simp] theorem Ev.settle_trace_applied (e : Ev) : (e.settle).p.trace.applied = e.p.trace.applied := by
  simp [Ev.settle, Ev.arbitrate]
@[simp] theorem Ev.settle_trace_limit (e : Ev) : (e.settle).p.trace.limit = e.p.trace.limit := by
  simp [Ev.settle, Ev.arbitrate]
@[simp] theorem Ev.settle_net_state (e : Ev) : (e.settle).p.net.state = e.p.net.state := by
  simp [Ev.settle, Ev.arbitrate]
@[simp] theorem Ev.settle_net_generation (e : Ev) : (e.settle).p.net.generation = e.p.net.generation := by
  simp [Ev.settle, Ev.arbitrate]
@[simp] theorem Ev.settle_net_grant (e : Ev) : (e.settle).p.net.grant = e.p.net.grant := by
  simp [Ev.settle, Ev.arbitrate]
@[simp] theorem Ev.settle_net_load (e : Ev) : (e.settle).p.net.load = e.p.net.load := by
  simp [Ev.settle, Ev.arbitrate]
@[simp] theorem Ev.settle_net_nodes (e : Ev) : (e.settle).p.net.nodes = e.p.net.nodes := by
  simp [Ev.settle, Ev.arbitrate]
@[simp] theorem Ev.settle_net_links (e : Ev) : (e.settle).p.net.links = e.p.net.links := by
  simp [Ev.settle, Ev.arbitrate]
@[simp] theorem Ev.settle_net_pipes (e : Ev) : (e.settle).p.net.pipes = e.p.net.pipes := by
  simp [Ev.settle, Ev.arbitrate]
@[simp] theorem Ev.settle_net_tags (e : Ev) : (e.settle).p.net.tags = e.p.net.tags := by
  simp [Ev.settle, Ev.arbitrate]
@[simp] theorem Ev.settle_net_locator (e : Ev) : (e.settle).p.net.locator = e.p.net.locator := by
  simp [Ev.settle, Ev.arbitrate]

/-- With nothing to issue the arbiter does nothing (R142). -/
theorem Ev.arbitrate_eq (e : Ev) (h : e.p.noneToIssue) : e.arbitrate = e := by
  have : e.p.ctl.isos.find? (fun x => !x.2.toIssue.isEmpty) = none := by
    rw [List.find?_eq_none]
    intro x hx
    simpa using List.all_eq_true.mp h x hx
  unfold Ev.arbitrate
  cases e.entryCount with
  | zero => rfl
  | succ n => simp [Ev.serve, this]

/-- An idle engine has taken its next job (R30). -/
theorem Ev.takeJob_idle (e : Ev) (h : e.takeJob.p.trace.running = none) :
    e.takeJob.p.trace.fifo = [] ∧ ¬(e.takeJob.p.trace.pendingRecompute = true ∧ e.takeJob.p.net.state = .active) := by
  unfold Ev.takeJob at h ⊢
  split at h
  · next hr => rw [h] at hr; simp at hr
  · next hr =>
    split at h
    · simp at h
    · next hp =>
      split at h
      · next hf =>
        rw [if_neg hr, if_neg hp]
        refine ⟨by simp [hf], ?_⟩
        rintro ⟨h1, h2⟩
        exact hp (by simp [h1, Ev.active, h2])
      · simp at h

/-! ## Taking an event -/

/-- An event is what it brings the blocks to, and the notices it queues. -/
theorem State.event_eq (s : State) (f : Ev → Ev) {p : Plant} {ns : List Notice}
    {b : Bool} (h : f s.ev = ⟨p, s.link.partTime, ns, b⟩) : s.event f = s.after p ns := by
  simp [State.event, State.after, h, Ev.settle]

@[simp] theorem State.after_pending (s : State) (p : Plant) (ns : List Notice) : (s.after p ns).pending = s.pending := rfl

@[simp] theorem State.event_rate (s : State) (f : Ev → Ev) : (s.event f).link.rate = s.link.rate := by
  simp [State.event]
@[simp] theorem State.event_receiver (s : State) (f : Ev → Ev) : (s.event f).link.receiver = s.link.receiver := by
  simp [State.event]
@[simp] theorem State.event_lineLow (s : State) (f : Ev → Ev) : (s.event f).link.lineLow = s.link.lineLow := by
  simp [State.event]
@[simp] theorem State.event_inbound (s : State) (f : Ev → Ev) : (s.event f).link.inbound = s.link.inbound := by
  simp [State.event]
@[simp] theorem State.event_handling (s : State) (f : Ev → Ev) : (s.event f).link.handling = s.link.handling := by
  simp [State.event]
@[simp] theorem State.event_mask (s : State) (f : Ev → Ev) : (s.event f).link.mask = s.link.mask := by
  simp [State.event]
@[simp] theorem State.event_rights (s : State) (f : Ev → Ev) : (s.event f).link.rights = s.link.rights := by
  simp [State.event]
@[simp] theorem State.event_refusals (s : State) (f : Ev → Ev) : (s.event f).link.refusals = s.link.refusals := by
  simp [State.event]
@[simp] theorem State.event_partTime (s : State) (f : Ev → Ev) : (s.event f).link.partTime = s.link.partTime := by
  simp [State.event]
@[simp] theorem State.event_clockEnded (s : State) (f : Ev → Ev) : (s.event f).link.clockEnded = s.link.clockEnded := by
  simp [State.event]
@[simp] theorem State.event_boundaryDue (s : State) (f : Ev → Ev) : (s.event f).link.boundaryDue = s.link.boundaryDue := by
  simp [State.event]
@[simp] theorem State.event_wallOffset (s : State) (f : Ev → Ev) : (s.event f).link.wallOffset = s.link.wallOffset := by
  simp [State.event]
@[simp] theorem State.event_pending (s : State) (f : Ev → Ev) : (s.event f).pending = s.pending := rfl

/-! ## Answering a request -/

/-- The current request of a kind and row is decided by its owner and answered. -/
theorem State.answer_eq {s : State} {f : Frame} {kind : Nat} (h : s.handles f kind) {row : List Byte → Bool}
    (hr : row f.payload = true) (act : Req → State → State × Reply) :
    s.answer kind row act =
      { (act (s.req f) s).1 with link := (act (s.req f) s).1.link.finish f (act (s.req f) s).2 } := by
  simp [State.answer, State.current?, h.1, h.2.1, h.2.2, hr]

/-- A request that a block decides, when the block brings the part to `p`, queues `ns` and answers `r`. -/
theorem State.answerEv_eq {s : State} {f : Frame} {kind : Nat} (h : s.handles f kind) {row : List Byte → Bool}
    (hr : row f.payload = true) {act : Req → Ev → Ev × Reply} {p : Plant} {ns : List Notice} {r : Reply}
    {b : Bool} (ha : act (s.req f) s.ev = (⟨p, s.link.partTime, ns, b⟩, r)) :
    s.answerEv kind row act = s.answered f p ns r := by
  rw [State.answerEv, State.answer_eq h hr]
  simp [ha, State.answered, State.event, State.after, Ev.settle]

/-- A request of another kind, or of another row of its kind, is left alone. -/
theorem State.answer_other {s : State} {kind : Nat} {row : List Byte → Bool}
    (h : ∀ f, s.current? = some f → ¬(f.kind = kind ∧ row f.payload = true)) (act : Req → State → State × Reply) :
    s.answer kind row act = s := by
  unfold State.answer
  split
  · rfl
  · next f hf => simp [if_neg (h f hf)]

/-- Every command has a next state: nothing stops the part (0.1 of 00_scope.md, R201). -/
theorem exec_next (c : Instr) (s : State) : ∃ t, exec c s = .next t := by
  cases c <;> exact ⟨_, rfl⟩

/-! ## Fields on the line (R216) -/

theorem be_length (n v : Nat) : (be n v).length = n := by
  induction n with
  | zero => rfl
  | succ n ih => simp [be, ih]

theorem beVal_append_one (bs : List Byte) (b : Byte) : beVal (bs ++ [b]) = beVal bs * 256 + b.toNat := by
  simp [beVal]

end Sys2Proof.Machine
end

