-- ==== Sys2Proof/Laws/PerInstr.lean ====
section
/-! SUPPORT. Per-command facts of the syntax: a request's row carries no operand of its own, so it is well-formed as it
stands; what its frame carries is checked by its rule. -/

namespace Sys2Proof.Laws.RequestKind

-- One theorem after another: theorems checked side by side each hold a thread and its stack.
set_option Elab.async false

/-- A request's row is well-formed; an operand that could be ill-formed belongs to a row of another kind (R217). -/
def Statement (i : Instr) : Prop := i.wellFormed = false → i.isRequest = false

theorem powerOn (strap : Strap) : Statement (.powerOn strap) := fun _ => rfl
theorem partTimeTick : Statement .partTimeTick := fun _ => rfl
theorem minuteBoundary : Statement .minuteBoundary := fun _ => rfl
theorem frameReceived (bytes : List LineByte) : Statement (.frameReceived bytes) := fun _ => rfl
theorem gapAbort : Statement .gapAbort := fun _ => rfl
theorem lineBreak : Statement .lineBreak := fun _ => rfl
theorem requestDispatch : Statement .requestDispatch := fun _ => rfl
theorem unknownKind : Statement .unknownKind := fun _ => rfl
theorem transmitComplete : Statement .transmitComplete := fun _ => rfl
theorem editBeginLinks : Statement .editBeginLinks := fun h => by cases h
theorem editBeginFull : Statement .editBeginFull := fun h => by cases h
theorem editEnd : Statement .editEnd := fun h => by cases h
theorem editRevoke : Statement .editRevoke := fun h => by cases h
theorem tableBegin : Statement .tableBegin := fun h => by cases h
theorem tableBlock : Statement .tableBlock := fun h => by cases h
theorem tableCheckComplete : Statement .tableCheckComplete := fun _ => rfl
theorem linkEditCreate : Statement .linkEditCreate := fun h => by cases h
theorem linkEditChange : Statement .linkEditChange := fun h => by cases h
theorem linkEditRemove : Statement .linkEditRemove := fun h => by cases h
theorem nodeEditCreate : Statement .nodeEditCreate := fun h => by cases h
theorem nodeEditChange : Statement .nodeEditChange := fun h => by cases h
theorem nodeEditRemove : Statement .nodeEditRemove := fun h => by cases h
theorem tagSet : Statement .tagSet := fun h => by cases h
theorem tagClear : Statement .tagClear := fun h => by cases h
theorem locatorSet : Statement .locatorSet := fun h => by cases h
theorem stationSetDefine : Statement .stationSetDefine := fun h => by cases h
theorem stationSetRemove : Statement .stationSetRemove := fun h => by cases h
theorem stationRead : Statement .stationRead := fun h => by cases h
theorem stationReadClear : Statement .stationReadClear := fun h => by cases h
theorem telemetry : Statement .telemetry := fun h => by cases h
theorem stalenessExpiry (station : Nat) : Statement (.stalenessExpiry station) := fun _ => rfl
theorem call : Statement .call := fun h => by cases h
theorem incidentUpdate : Statement .incidentUpdate := fun h => by cases h
theorem incidentDeadlineExpiry (incident : Nat) : Statement (.incidentDeadlineExpiry incident) := fun _ => rfl
theorem isolate : Statement .isolate := fun h => by cases h
theorem traceCompletion : Statement .traceCompletion := fun _ => rfl
theorem recomputeCompletion : Statement .recomputeCompletion := fun _ => rfl
theorem authorise : Statement .authorise := fun h => by cases h
theorem cancel : Statement .cancel := fun h => by cases h
theorem accept : Statement .accept := fun h => by cases h
theorem isolationRelease : Statement .isolationRelease := fun h => by cases h
theorem isolationRead : Statement .isolationRead := fun h => by cases h
theorem verifyTimerExpiry (slot : Nat) : Statement (.verifyTimerExpiry slot) := fun _ => rfl
theorem valveReportAccept : Statement .valveReportAccept := fun h => by cases h
theorem valveReportOperated : Statement .valveReportOperated := fun h => by cases h
theorem valveReportCannotOperate : Statement .valveReportCannotOperate := fun h => by cases h
theorem valveReportFound : Statement .valveReportFound := fun h => by cases h
theorem orderOverdue (order : Nat) : Statement (.orderOverdue order) := fun _ => rfl
theorem restore : Statement .restore := fun h => by cases h
theorem rampStartTimerExpiry (slot : Nat) : Statement (.rampStartTimerExpiry slot) := fun _ => rfl
theorem rampResume : Statement .rampResume := fun h => by cases h
theorem reclose : Statement .reclose := fun h => by cases h
theorem relightReport : Statement .relightReport := fun h => by cases h
theorem closeOut : Statement .closeOut := fun h => by cases h
theorem outageRelease : Statement .outageRelease := fun h => by cases h
theorem weightsSet : Statement .weightsSet := fun h => by cases h
theorem list : Statement .list := fun h => by cases h
theorem status : Statement .status := fun h => by cases h
theorem rightsSet : Statement .rightsSet := fun h => by cases h
theorem noticeMask : Statement .noticeMask := fun h => by cases h
theorem timeSet : Statement .timeSet := fun h => by cases h
theorem settingsSet : Statement .settingsSet := fun h => by cases h
theorem settingsRead : Statement .settingsRead := fun h => by cases h
theorem resetOperations : Statement .resetOperations := fun h => by cases h
theorem resetLink : Statement .resetLink := fun h => by cases h
theorem lineReturnsHigh : Statement .lineReturnsHigh := fun _ => rfl

end Sys2Proof.Laws.RequestKind
end

