-- ==== Sys2Proof/Tests/Slice0.lean ====
section
/-! SUPPORT. Tests: ill-formed commands refused, values the manual works out, and for every statement with hypotheses
a state and operands that meet them, clause by clause at boundary values. -/

open Sys2Proof Sys2Proof.Machine

namespace Slice0

-- One theorem after another: theorems checked side by side each hold a thread and its stack.
set_option Elab.async false

/-! ## WellFormed: an ill-formed term for each check -/

theorem test_wf_no_bytes : Instr.wellFormed (.frameReceived []) = false := by decide
theorem test_wf_station_512 : Instr.wellFormed (.stalenessExpiry 512) = false := by decide
theorem test_wf_station_511 : Instr.wellFormed (.stalenessExpiry 511) = true := by decide
theorem test_wf_incident_0 : Instr.wellFormed (.incidentDeadlineExpiry 0) = false := by decide
theorem test_wf_incident_65536 : Instr.wellFormed (.incidentDeadlineExpiry 65536) = false := by decide
theorem test_wf_verify_slot_32 : Instr.wellFormed (.verifyTimerExpiry 32) = false := by decide
theorem test_wf_order_0 : Instr.wellFormed (.orderOverdue 0) = false := by decide
theorem test_wf_order_65536 : Instr.wellFormed (.orderOverdue 65536) = false := by decide
theorem test_wf_ramp_slot_32 : Instr.wellFormed (.rampStartTimerExpiry 32) = false := by decide

/-! ## A small network and the states of the witnesses

LP nodes 1 (source) to 5; pipe 101 from 1 to 2, valve 102 from 2 to 3, pipe 103 from 3 to 4, valve 104 from 4 to 5
(normally CLOSED), pipe 105 from 5 to 1. Station 40 stands at node 4. -/

def node (source : Bool) : Node := ⟨.lp, source, true, true⟩
def links : Table Link :=
  [(101, ⟨1, 2, .lp, .pipe ⟨1, 2, 30⟩ 100⟩), (102, ⟨2, 3, .lp, .valve .opened .operable⟩),
   (103, ⟨3, 4, .lp, .pipe ⟨1, 5, 40⟩ 100⟩), (104, ⟨4, 5, .lp, .valve .closed .operable⟩),
   (105, ⟨5, 1, .lp, .pipe ⟨0, 0, 10⟩ 100⟩)]
def livePipe : PipeRt := { supply := .live, isNew := false, fed := true }
def net : NetworkStore :=
  { state := .active, generation := 7
    nodes := [(1, node true), (2, node false), (3, node false), (4, node false), (5, node false)]
    links := links
    pipes := [(101, livePipe), (103, livePipe), (105, livePipe)]
    controls := [(102, ⟨.opened, [], none⟩), (104, ⟨.closed, [], none⟩)]
    locator := [(0, ⟨1000, 1999, 103⟩)] }
def stationCfg : StationRec :=
  { node := some 4, tier := .lp, zero := 13107, num := 250, den := 13107, invert := false, k := 2, ll := 150, l := 200
    h := 650, hh := 750, hyst := 20, alarm := 10, interval := 60, multiple := 5, acceptDegraded := false }
def station : Station := ⟨stationCfg, { freshness := .fresh, s16 := 480 * 16, lastTime := some 900, deadline := some 1200 }⟩
def incident : Incident :=
  { id := 7, kind := .odourInside, grade := 1, pipe := some 103, station := none, tier := none, state := .opened
    opened := 500, lastCall := some 500, lastState := 500, deadline := 1000, overdue := false, inSection := false
    truncated := false, calls := 1, refs := [9001], iso := none }
def plant : Plant :=
  { net := net, trace := { applied := 7 }, mon := { stations := [(40, station)] }
    reg := { table := [(0, incident)], serial := 8 }
    led := { records := [(0, { iso := none, opened := 100 })] } }

/-- The state with the blocks at `p`, part time 1000. -/
def st (p : Plant) : State := { State.reset with plant := p, link := { State.reset.link with partTime := 1000 } }

/-- The state with the blocks at `p` and this current request. -/
def ask (p : Plant) (f : Frame) : State :=
  { st p with link := { (st p).link with inbound := [f], handling := true } }

/-- A request of origin 0, which has every right at power-on. -/
def rq (kind : Nat) (payload : List Byte) : Frame := ⟨kind, 0x37, 0, payload⟩

/-- A request of origin 7, which has CALL and OPERATE alone at power-on. -/
def rq7 (kind : Nat) (payload : List Byte) : Frame := ⟨kind, 0x37, 7, payload⟩

/-- The next state of an outcome. -/
def nextOf (s : State) : Host.Outcome State Fault Refusal → State
  | .next t => t
  | _ => s

/-- The request `f` is the current one, of kind `k`, and its origin holds `r`. -/
abbrev Asked (s : State) (f : Frame) (k : Nat) (r : Right) : Prop := s.handles f k ∧ s.allows f r

/-! ## Values the manual works out -/

/-- R216: the CRC over the nine characters 1 to 9 is 0x29B1. -/
theorem test_crc_check_value : crc16 [0x31, 0x32, 0x33, 0x34, 0x35, 0x36, 0x37, 0x38, 0x39] = 0x29B1#16 := by decide +kernel
/-- Section 11.4: the telemetry frame of station 40 from origin 1 with tag 0x37 opens A5 00 0C 0D 37 01. -/
theorem test_frame_opens : (frameBytes 0x0D 0x37 1 (be 12 0)).take 6 = [0xA5, 0x00, 0x0C, 0x0D, 0x37, 0x01] := by
  decide +kernel
/-- Section 9: raw value 33030 of an LP station with the tier defaults is 380 pu. -/
theorem test_scale_lp : scaleRaw stationCfg 33030 = 380 := by decide +kernel
/-- Section 8.4: P 1, C 5 and D 205 with the default weights add 235 and 211 a minute. -/
theorem test_accrual : Counts.dot ⟨10, 4, 1⟩ ⟨1, 5, 205⟩ = 235 ∧ Counts.total ⟨1, 5, 205⟩ = 211 := by decide

/-- Section 3.4: the conversions of the example's LP station, and its inverted row. -/
theorem test_conversion_example :
    [39321, 30000, 38272, 12000].map (scaleRaw stationCfg) = [500, 322, 480, -21]
      ∧ scaleRaw { stationCfg with invert := true } 26214 = 500
      ∧ clampPu (scaleRaw { stationCfg with num := 30000 } 65534) = 100000 := by decide +kernel
/-- Section 3.4: the seed 8000, then two samples of 480. -/
theorem test_smoothing_example :
    smooth 2 8000 480 = 7920 ∧ smooth 2 7920 480 = 7860 ∧ reported 7920 = 495 ∧ reported 7860 = 491 := by decide +kernel
/-- Section 3.4: the band walk. -/
theorem test_band_walk :
    [480, 190, 140, 160, 175, 215, 225].foldl (fun (acc : List Band × Band) s =>
        let b := bandOf stationCfg acc.2 s
        (acc.1 ++ [b], b)) ([], .normal)
      = ([.normal, .low, .lowLow, .lowLow, .low, .low, .normal], .normal)
    ∧ bandOf stationCfg .lowLow 230 = .normal := by decide +kernel
/-- Section 3.4: rates 15, 7 and 3 with alarm 10. -/
theorem test_rate_and_falling :
    ringRate [(500, 1000), (440, 1240)] 0 = 15 ∧ ringRate [(430, 1400), (424, 1520)] 15 = 3
      ∧ fallingOf 10 15 false = true ∧ fallingOf 10 7 true = true ∧ fallingOf 10 3 true = false := by decide +kernel
/-- Section 1.10: overlapping ranges; key 1550 is on pipe 14, 1700 on pipe 12, 2500 unlocated. -/
theorem test_locator_example :
    let n : NetworkStore := { state := .active
                              locator := [(0, ⟨1000, 1999, 12⟩), (1, ⟨1500, 1599, 14⟩), (2, ⟨1500, 1599, 15⟩), (3, ⟨2000, 1000, 16⟩)] }
    [n.locate 1550, n.locate 1700, n.locate 2500] = [some 14, some 12, none] := by decide +kernel
/-- Section 7.2: increment 40, t0 40300, interval 60, start value 15 at 40360 and 40540. -/
theorem test_ramp_example :
    let r : Ramp := { increment := 40, interval := 60, target := 400, band := 30 }
    r.expected 15 (r.steps 40300 40360) = 55 ∧ r.expected 12 (r.steps 40300 40540) = 172 := by decide +kernel

/-! ## Witnesses: the queue, power-on and the clock -/

theorem witness_StepRunsFrontCommand :
    ({ st plant with pending := [.gapAbort, .lineBreak] } : State).pending = .gapAbort :: [.lineBreak]
      ∧ (st plant).pending = [] := by decide +kernel

def clockAt (n : Nat) (ended : Bool) : State :=
  { st plant with link := { State.reset.link with partTime := n, clockEnded := ended } }

theorem witness_TickAdvancesPartTime :
    ((clockAt 4294967294 false).link.clockEnded = false ∧ (clockAt 4294967294 false).link.partTime < 4294967295)
    ∧ ((clockAt 4294967295 false).link.clockEnded = false ∧ (clockAt 4294967295 false).link.partTime = 4294967295)
    ∧ (clockAt 4294967295 true).link.clockEnded = true
    ∧ ((clockAt 999 false).link.clockEnded = false ∧ (clockAt 999 false).link.partTime < 4294967295
      ∧ (clockAt 999 false).nothingDue) := by decide +kernel

theorem witness_MinuteBoundaryAccrues :
    let s : State := { st plant with link := { State.reset.link with partTime := 960, boundaryDue := true } }
    s.link.boundaryDue = true ∧ s.link.clockEnded = false := by decide +kernel

/-! ## Witnesses: the link -/

def queued (n : Nat) : State :=
  { st plant with link := { State.reset.link with inbound := List.replicate n (rq 0x1F []) } }

theorem witness_FrameRoundTrip :
    let payload : List Byte := List.replicate 1016 0xA5
    (queued 15).link.lineLow = false ∧ (queued 15).link.receiver = .hunting ∧ 255 < 256 ∧ 7 ≤ 7
      ∧ payload.length ≤ 1016 ∧ (queued 15).link.inbound.length < 16 := by decide +kernel

theorem witness_FramesTurnedAway :
    (queued 16).link.lineLow = false ∧ (queued 16).link.receiver = .hunting
    ∧ (let covered : List Byte := be 2 0 ++ be 1 0x1F ++ [0x37] ++ be 1 0 ++ []
      beVal [0x00, 0x00] ≠ (crc16 covered).toNat)
    ∧ (7 < 8 ∧ 8 < 256) ∧ (7 ≤ 7 ∧ 16 ≤ (queued 16).link.inbound.length) := by decide +kernel

theorem witness_ReceiverErrorsAndLineBreak :
    ((st plant).link.lineLow = false ∧ (st plant).link.receiver = .hunting ∧ 1016 < beVal [0x03, 0xF9])
    ∧ ({ State.reset.link with receiver := .header [] } : ControlLink).receiver ≠ .hunting
    ∧ ({ State.reset.link with lineLow := true } : ControlLink).lineLow = true := by decide +kernel

theorem witness_DispatchAndReply :
    ((queued 1).link.handling = false ∧ (queued 1).link.inbound ≠ [] ∧ (queued 1).link.replies.length < 8)
    ∧ (queued 0).link.inbound = []
    ∧ ((ask plant (rq 0x26 [])).handles (rq 0x26 []) 0x26 ∧ 0x25 < (rq 0x26 []).kind)
    ∧ ((ask plant (rq 0 [])).handles (rq 0 []) 0)
    ∧ ((ask plant (rq 0x25 [])).handles (rq 0x25 []) 0x25 ∧ (rq 0x25 []).kind ≤ 0x25)
    ∧ ({ State.reset.link with sending := some ⟨0x81, 0, [0]⟩ } : ControlLink).sending.isSome
    ∧ (State.reset.link.sending = none ∧ State.reset.link.replies = []) := by decide +kernel

def note (id : Nat) : Notice := ⟨.tierLow, id, [], 0⟩
def noticed (n : Nat) (sending : Option OutFrame) (r : Option Resync) : State :=
  { st plant with link := { State.reset.link with notices := (List.range n).map note, sending := sending, resync := r } }

theorem witness_NoticesAndTransmitter :
    let x : OutFrame := ⟨0x81, 0, [0]⟩
    let off : ControlLink := { State.reset.link with mask := 0x00080000 }
    off.mask.getLsbD (note 0).kind.code = false
    ∧ ((noticed 64 (some x) (some ⟨65535, 3⟩)).link.mask.getLsbD (note 0).kind.code = true
      ∧ (noticed 64 (some x) (some ⟨65535, 3⟩)).link.resync = some ⟨65535, 3⟩)
    ∧ ((noticed 64 (some x) none).link.resync = none ∧ 64 ≤ (noticed 64 (some x) none).link.notices.length)
    ∧ ((noticed 63 (some x) none).link.notices.length < 64 ∧ (noticed 63 (some x) none).link.sending.isSome)
    ∧ ((noticed 0 none none).link.sending = none ∧ (noticed 0 none none).link.notices = [])
    ∧ ((noticed 49 (some x) (some ⟨1, 3⟩)).link.replies = [] ∧ 16 ≤ 64 - (noticed 48 none none).link.notices.length)
    ∧ 64 - (noticed 49 none none).link.notices.length < 16 := by decide +kernel

/-! ## Witnesses: requests of the Control Link -/

theorem witness_LinkSettingRequests_rights_and_mask :
    let f := rq 0x20 [7, 0x1F]
    let g := rq7 0x20 [7, 0x1F]
    let last := rq 0x20 [0, 0x0F]
    (Asked (ask plant f) f 0x20 .supervise ∧ f.payload.length = 2 ∧ f.payload[1]? = some 0x1F ∧ field f.payload 0 1 ≤ 7
      ∧ (ask plant f).link.rights[7]? = some ⟨true, true, false, false, false⟩)
    ∧ ((ask plant g).handles g 0x20 ∧ ¬ (ask plant g).allows g .supervise)
    ∧ (Asked (ask plant last) last 0x20 .supervise
      ∧ ((ask plant last).link.rights.set 0 ⟨true, true, true, true, false⟩).any (·.supervise) = false)
    ∧ (Asked (ask plant (rq 0x21 (be 4 0))) (rq 0x21 (be 4 0)) 0x21 .supervise
      ∧ (rq 0x21 (be 4 0)).payload.length = 4)
    ∧ ((ask plant (rq7 0x21 (be 4 0))).handles (rq7 0x21 (be 4 0)) 0x21
      ∧ ¬ (ask plant (rq7 0x21 (be 4 0))).allows (rq7 0x21 (be 4 0)) .supervise) := by decide +kernel

theorem witness_LinkSettingRequests_time_and_read :
    let f := rq 0x22 (be 8 1)
    let g := rq7 0x22 (be 8 1)
    let h := rq7 0x24 [4]
    (Asked (ask plant f) f 0x22 .supervise ∧ f.payload.length = 8)
    ∧ ((ask plant g).handles g 0x22 ∧ ¬ (ask plant g).allows g .supervise)
    ∧ ((ask plant h).handles h 0x24 ∧ h.payload.length = 1) := by decide +kernel

theorem witness_SettingsSetReplacesGroup :
    let g0 := rq 0x23 ([0] ++ be 2 1024)
    let g1 := rq 0x23 ([1] ++ be 2 512 ++ bePu (-1000) ++ bePu 100000 ++ bePu 2000)
    let g2 := rq 0x23 ([2] ++ be 2 7200 ++ be 4 60 ++ be 4 60 ++ be 4 604800)
    let g3 := rq 0x23 ([3] ++ be 2 60 ++ be 2 14400 ++ bePu (-1000) ++ bePu 100000 ++ bePu 0)
    (Asked (ask plant g0) g0 0x23 .supervise ∧ g0.payload.length = 3 ∧ field g0.payload 0 1 = 0
      ∧ 1 ≤ field g0.payload 1 2 ∧ field g0.payload 1 2 ≤ 1024)
    ∧ (Asked (ask plant g1) g1 0x23 .supervise ∧ g1.payload.length = 12 ∧ field g1.payload 0 1 = 1
      ∧ field g1.payload 1 2 ≤ 512 ∧ ∀ n ∈ [3, 6, 9], -1000 ≤ puField g1.payload n ∧ puField g1.payload n ≤ 100000)
    ∧ (Asked (ask plant g2) g2 0x23 .supervise ∧ g2.payload.length = 15 ∧ field g2.payload 0 1 = 2
      ∧ field g2.payload 1 2 ≤ 7200 ∧ 60 ≤ field g2.payload 3 4 ∧ field g2.payload 3 4 ≤ field g2.payload 7 4
      ∧ field g2.payload 7 4 ≤ field g2.payload 11 4 ∧ field g2.payload 11 4 ≤ 604800)
    ∧ (Asked (ask plant g3) g3 0x23 .supervise ∧ g3.payload.length = 14 ∧ field g3.payload 0 1 = 3
      ∧ 60 ≤ field g3.payload 1 2 ∧ field g3.payload 3 2 ≤ 14400
      ∧ ∀ n ∈ [5, 8, 11], -1000 ≤ puField g3.payload n ∧ puField g3.payload n ≤ 100000)
    ∧ (Asked (ask plant (rq 0x23 [4])) (rq 0x23 [4]) 0x23 .supervise ∧ 4 ≤ field (rq 0x23 [4]).payload 0 1)
    ∧ ((ask plant (rq7 0x23 [4])).handles (rq7 0x23 [4]) 0x23
      ∧ ¬ (ask plant (rq7 0x23 [4])).allows (rq7 0x23 [4]) .supervise) := by
  decide +kernel

/-- Wrong lengths and values one past their ranges, a group each. -/
theorem witness_SettingsSetReplacesGroup_refused :
    let w := fun (k : Nat) => rq 0x23 [BitVec.ofNat 8 k]
    let g0 := rq 0x23 ([0] ++ be 2 1025)
    let g1 := rq 0x23 ([1] ++ be 2 512 ++ bePu (-1001) ++ bePu 100000 ++ bePu 2000)
    let g2 := rq 0x23 ([2] ++ be 2 7200 ++ be 4 60 ++ be 4 59 ++ be 4 604800)
    let g3 := rq 0x23 ([3] ++ be 2 60 ++ be 2 14400 ++ bePu (-1000) ++ bePu 100001 ++ bePu 0)
    (∀ x ∈ [(0, 3), (1, 12), (2, 15), (3, 14)], Asked (ask plant (w x.1)) (w x.1) 0x23 .supervise
      ∧ field (w x.1).payload 0 1 = x.1 ∧ (w x.1).payload.length ≠ x.2)
    ∧ (Asked (ask plant g0) g0 0x23 .supervise ∧ g0.payload.length = 3 ∧ 1024 < field g0.payload 1 2)
    ∧ (Asked (ask plant g1) g1 0x23 .supervise ∧ g1.payload.length = 12 ∧ puField g1.payload 3 < -1000)
    ∧ (Asked (ask plant g2) g2 0x23 .supervise ∧ g2.payload.length = 15 ∧ field g2.payload 7 4 < field g2.payload 3 4)
    ∧ (Asked (ask plant g3) g3 0x23 .supervise ∧ g3.payload.length = 14 ∧ 100000 < puField g3.payload 8) := by
  decide +kernel

theorem witness_ListReturnsRecordsInOrder :
    ∀ x ∈ [(3, List.replicate 1005 (0 : Byte)), (4, [])], x.2.length ≤ 1005 := by decide +kernel

theorem witness_ListStatusAndResetLink :
    let f := fun (coll start : Nat) => rq7 0x1E (be 1 coll ++ be 2 start ++ be 2 9)
    let rows := ((ask plant (f 5 103)).plant.collection 5).getD []
    ((ask plant (f 5 103)).handles (f 5 103) 0x1E ∧ (f 5 103).payload.length = 5)
    ∧ (ask plant (f 255 0)).plant.collection 255 = none
    ∧ (ask plant (f 5 0)).plant.collection 5 = some rows
    ∧ (∀ x ∈ rows, x.1 ≠ 6) ∧ (rows.map (·.1) = [101, 102, 103, 104, 105])
    ∧ (ask plant (rq7 0x1F [])).handles (rq7 0x1F []) 0x1F
    ∧ Asked (ask plant (rq 0x25 [1])) (rq 0x25 [1]) 0x25 .supervise
    ∧ ((ask plant (rq7 0x25 [1])).handles (rq7 0x25 [1]) 0x25
      ∧ ¬ (ask plant (rq7 0x25 [1])).allows (rq7 0x25 [1]) .supervise) := by decide +kernel

theorem witness_ResetOperationsRequest :
    let f := rq 0x25 [0]
    (Asked (ask plant f) f 0x25 .supervise ∧ (ask plant f).plant.keyed ∧ (ask plant f).plant.net.state = .active)
    ∧ (Asked (ask {} f) f 0x25 .supervise ∧ (ask {} f).plant.keyed ∧ (ask {} f).plant.net.state ≠ .active) := by
  decide +kernel

/-! ## Witnesses: the Network Store -/

def withNet (n : NetworkStore) : Plant := { plant with net := n }
def granted (mode : EditMode) : NetworkStore := { net with grant := some ⟨0, mode⟩ }
def loading (l : Option Load) : NetworkStore := { state := .loading, grant := some ⟨0, .full⟩, load := l }

theorem witness_EditGrants :
    (Asked (ask plant (rq 1 [0])) (rq 1 [0]) 1 .edit ∧ net.grant = none ∧ net.state = .active)
    ∧ (Asked (ask {} (rq 1 [0])) (rq 1 [0]) 1 .edit ∧ (ask {} (rq 1 [0])).plant.net.state ≠ .active)
    ∧ ((ask plant (rq 2 [])).handles (rq 2 []) 2 ∧ Asked (ask plant (rq 3 [])) (rq 3 []) 3 .supervise
      ∧ ((ask plant (rq7 3 [])).handles (rq7 3 []) 3 ∧ ¬ (ask plant (rq7 3 [])).allows (rq7 3 []) .supervise))
    ∧ (granted .links).grant = some ⟨0, .links⟩
    ∧ ((ask (withNet (granted .links)) (rq 2 [])).handles (rq 2 []) 2 ∧ (0 : Nat) = (rq 2 []).origin)
    ∧ ((ask (withNet (loading none)) (rq 2 [])).handles (rq 2 []) 2 ∧ (loading none).grant = some ⟨0, .full⟩)
    ∧ ((ask (withNet (granted .links)) (rq7 2 [])).handles (rq7 2 []) 2 ∧ (0 : Nat) ≠ (rq7 2 []).origin)
    ∧ Asked (ask (withNet (granted .links)) (rq 3 [])) (rq 3 []) 3 .supervise
    ∧ ((ask (withNet (granted .links)) (rq7 3 [])).handles (rq7 3 []) 3
      ∧ ¬ (ask (withNet (granted .links)) (rq7 3 [])).allows (rq7 3 []) .supervise)
    ∧ (Asked (ask plant (rq 1 [1])) (rq 1 [1]) 1 .edit ∧ net.state ≠ .checking
      ∧ (ask plant (rq 1 [1])).plant.ctl.isos.all (fun x => x.2.state.terminal) = true) := by decide +kernel

def nodeBytes (id : Nat) : List Byte := be 2 id ++ [0, 3]
def pipeBytes (id a b : Nat) : List Byte := be 2 id ++ [0, 0] ++ be 2 a ++ be 2 b ++ be 8 0
def blockAt (expected : Nat) : Plant := withNet { loading (some ⟨2, 1, expected⟩) with nodes := [(1, node true)] }

theorem witness_TableLoad :
    let b := fun n l => rq 4 (be 2 n ++ be 2 l)
    let p := ask (withNet (loading none))
    let f := rq 5 (be 2 1 ++ be 2 2 ++ nodeBytes 4095 ++ pipeBytes 6143 1 4095)
    let g := rq 5 (be 2 1 ++ be 2 1 ++ nodeBytes 2)
    let bad := rq 5 (be 2 1 ++ be 2 1 ++ nodeBytes 1)
    (Asked (p (b 4096 6144)) (b 4096 6144) 4 .edit ∧ (b 4096 6144).payload.length = 4 ∧ 0 < field (b 4096 6144).payload 0 2
      ∧ field (b 4096 6144).payload 0 2 ≤ 4096 ∧ field (b 4096 6144).payload 2 2 ≤ 6144)
    ∧ (Asked (p (b 0 0)) (b 0 0) 4 .edit ∧ field (b 0 0).payload 0 2 + field (b 0 0).payload 2 2 = 0)
    ∧ (Asked (p (b 4097 0)) (b 4097 0) 4 .edit ∧ 4096 < field (b 4097 0).payload 0 2)
    ∧ (Asked (ask (blockAt 1) f) f 5 .edit ∧ field f.payload 0 2 = 1 ∧ f.payload.length = blockLength 2 1 2
      ∧ 1 + 2 = 2 + 1 ∧ ((blockRecords 2 2 1 (f.payload.drop 4)).bind (blockAt 1).net.store).isSome)
    ∧ (Asked (ask (blockAt 1) g) g 5 .edit ∧ g.payload.length = blockLength 2 1 1 ∧ 1 + 1 < 2 + 1
      ∧ ((blockRecords 2 1 1 (g.payload.drop 4)).bind (blockAt 1).net.store).isSome)
    ∧ (Asked (ask (blockAt 1) bad) bad 5 .edit ∧ bad.payload.length = blockLength 2 1 1
      ∧ (blockRecords 2 1 1 (bad.payload.drop 4)).bind (blockAt 1).net.store = none)
    ∧ (Asked (ask (blockAt 2) f) f 5 .edit ∧ field f.payload 0 2 ≠ 2) := by decide +kernel

theorem witness_BlockStoresEveryRecord :
    let rs : List BlockRecord := [.node 2 (node false), .link 9 ⟨1, 2, .lp, .pipe {} 0⟩]
    ((blockAt 1).net.store rs).isSome := by decide +kernel

def checking (n : List (Nat × Node)) : Plant :=
  { withNet { state := .checking, load := some ⟨5, 5, 10⟩, nodes := n, links := links } with mon := plant.mon, led := {} }

theorem witness_TableCheckResult :
    let good := checking net.nodes
    let bad := checking (net.nodes.map fun x => (x.1, { x.2 with source := false }))
    (good.net.state = .checking ∧ good.net.checkViews.length < 2
      ∧ good.net.check good.mon.bindings good.net.locator = none)
    ∧ (bad.net.state = .checking ∧ (bad.net.check bad.mon.bindings bad.net.locator).map (·.item) = some 5) := by
  decide +kernel

theorem witness_TableCheckPassesExactlySoundTables :
    (checking []).net.load = some ⟨5, 5, 10⟩ ∧ ((4096 : Nat) < 4097) := by decide +kernel

def edited : Plant := withNet (granted .links)
def valveBytes (id a b : Nat) : List Byte := be 2 id ++ [1, 0] ++ be 2 a ++ be 2 b ++ [1, 0] ++ be 6 0
abbrev EditLinks (f : Frame) (k : Nat) : Prop :=
  Asked (ask edited f) f k .edit ∧ edited.net.state = .active ∧ edited.net.grant = some ⟨0, .links⟩ ∧ (0 : Nat) = f.origin

theorem witness_LinkEditsChangeOneLink :
    let e := Ev.start edited 1000 []
    let f := rq 6 (be 2 6143 ++ [0] ++ valveBytes 6143 2 4)
    let g := rq 6 (be 2 6143 ++ [0] ++ pipeBytes 6143 2 4)
    let h := rq 6 (be 2 103 ++ [1] ++ pipeBytes 103 3 5)
    let r := rq 6 (be 2 105 ++ [2])
    (EditLinks f 6 ∧ f.payload.length = 19 ∧ tget edited.net.links 6143 = none
      ∧ ∃ l, editedLink f.payload = some l ∧ l.normal? = some .closed ∧ e.linkSound l = true
        ∧ e.protectedLink 6143 l.ends = false)
    ∧ (EditLinks g 6 ∧ g.payload.length = 19
      ∧ ∃ l, editedLink g.payload = some l ∧ l.body = .pipe ⟨0, 0, 0⟩ 0 ∧ e.linkSound l = true
        ∧ e.protectedLink 6143 l.ends = false)
    ∧ (EditLinks h 6 ∧ h.payload.length = 19 ∧ field h.payload 2 1 = 1
      ∧ ∃ old l, tget edited.net.links 103 = some old ∧ editedLink h.payload = some l ∧ l.kind = old.kind
        ∧ e.linkSound l = true ∧ e.protectedLink 103 (old.ends ++ l.ends) = false
        ∧ tget edited.net.pipes 103 = some livePipe ∧ livePipe.pending = ⟨0, 0, 0⟩)
    ∧ (EditLinks r 6 ∧ r.payload.length = 3 ∧ field r.payload 2 1 = 2
      ∧ (∃ old, tget edited.net.links 105 = some old ∧ e.protectedLink 105 old.ends = false)
      ∧ (∀ x ∈ edited.net.tags, x.2.link ≠ 105) ∧ ∀ x ∈ edited.net.locator, x.2.lo ≤ x.2.hi → x.2.target ≠ 105) := by
  refine ⟨⟨by decide +kernel, by decide +kernel, by decide +kernel, ⟨2, 4, .lp, .valve .closed .operable⟩, by decide +kernel⟩,
    ⟨by decide +kernel, by decide +kernel, ⟨2, 4, .lp, .pipe ⟨0, 0, 0⟩ 0⟩, by decide +kernel⟩,
    ⟨by decide +kernel, by decide +kernel, by decide +kernel, ⟨3, 4, .lp, .pipe ⟨1, 5, 40⟩ 100⟩,
      ⟨3, 5, .lp, .pipe ⟨0, 0, 0⟩ 0⟩, by decide +kernel⟩,
    by decide +kernel, by decide +kernel, by decide +kernel,
    ⟨⟨5, 1, .lp, .pipe ⟨0, 0, 10⟩ 100⟩, by decide +kernel⟩, by decide +kernel⟩

/-- Pipe 105 made a valve and valve 102 made a pipe; pipe 105 with a tag and with pending, pipe 103 that entry 0 targets. -/
theorem witness_LinkEditChangesKind :
    let f := rq 6 (be 2 105 ++ [1] ++ valveBytes 105 5 1)
    let g := rq 6 (be 2 102 ++ [1] ++ pipeBytes 102 2 3)
    let r := fun id => rq 6 (be 2 id ++ [2])
    let k := rq 6 (be 2 105 ++ [1] ++ pipeBytes 105 5 1)
    let e := Ev.start edited 1000 []
    let pend : Plant := withNet { granted .links with pipes := [(105, { livePipe with pending := ⟨0, 0, 1⟩ })] }
    let tag : Plant := withNet { granted .links with tags := [(0, ⟨105, .workInProgress, 1, 400⟩)] }
    (EditLinks f 6 ∧ f.payload.length = 19 ∧ field f.payload 2 1 = 1
      ∧ editedLink f.payload = some ⟨5, 1, .lp, .valve .closed .operable⟩
      ∧ e.linkSound ⟨5, 1, .lp, .valve .closed .operable⟩ = true ∧ e.protectedLink 105 ([5, 1] ++ [5, 1]) = false)
    ∧ (EditLinks g 6 ∧ editedLink g.payload = some ⟨2, 3, .lp, .pipe ⟨0, 0, 0⟩ 0⟩
      ∧ e.linkSound ⟨2, 3, .lp, .pipe ⟨0, 0, 0⟩ 0⟩ = true ∧ e.protectedLink 102 ([2, 3] ++ [2, 3]) = false)
    ∧ (∀ id ∈ [102, 105], (∀ x ∈ edited.net.tags, x.2.link ≠ id) ∧ (tget edited.net.pipes id).all (fun p => p.pending.isZero) = true
      ∧ ∀ x ∈ edited.net.locator, x.2.lo ≤ x.2.hi → x.2.target ≠ id)
    ∧ (EditLinks (r 103) 6 ∧ (r 103).payload.length = 3 ∧ e.protectedLink 103 [3, 4] = false
      ∧ ∃ x ∈ edited.net.locator, x.2.lo ≤ x.2.hi ∧ x.2.target = 103)
    ∧ (Asked (ask tag (r 105)) (r 105) 6 .edit ∧ ∃ x ∈ tag.net.tags, x.2.link = 105)
    ∧ (Asked (ask pend k) k 6 .edit ∧ (Ev.start pend 1000 []).protectedLink 105 ([5, 1] ++ [5, 1]) = false
      ∧ editedLink k.payload = some ⟨5, 1, .lp, .pipe ⟨0, 0, 0⟩ 0⟩
      ∧ tget pend.net.pipes 105 = some { livePipe with pending := ⟨0, 0, 1⟩ } ∧ (0 : Nat) < 1) := by decide +kernel

theorem witness_LinkEditProtected :
    let e := Ev.start { edited with net := { granted .links with pipes := [(105, { livePipe with claim := some 0 })] } } 1000 []
    e.protectedLink 105 [5, 1] = true := by decide +kernel

theorem witness_NodeEditsChangeOneNode :
    let e := Ev.start edited 1000 []
    let f := rq 7 (be 2 4095 ++ [0] ++ nodeBytes 4095)
    let g := rq 7 (be 2 1 ++ [1] ++ nodeBytes 1)
    let lone : Plant := { edited with net := { granted .links with nodes := net.nodes ++ [(9, node false)] } }
    let r := rq 7 (be 2 9 ++ [2])
    let last := rq 7 (be 2 1 ++ [2])
    (EditLinks f 7 ∧ e.protectedNode 4095 = false ∧ f.payload.length = 7 ∧ tget edited.net.nodes 4095 = none
      ∧ editedNode f.payload = some ⟨.lp, true, true, false⟩
      ∧ hasSource (tset edited.net.nodes 4095 ⟨.lp, true, true, false⟩) = true)
    ∧ (EditLinks g 7 ∧ field g.payload 2 1 = 1 ∧ tget edited.net.nodes 1 = some (node true)
      ∧ editedNode g.payload = some ⟨.lp, true, true, false⟩
      ∧ hasSource (tset edited.net.nodes 1 ⟨.lp, true, true, true⟩) = true)
    ∧ (Asked (ask lone r) r 7 .edit ∧ tget lone.net.nodes 9 = some (node false)
      ∧ hasSource (terase lone.net.nodes 9) = true ∧ (∀ x ∈ lone.net.links, x.2.endA ≠ 9 ∧ x.2.endB ≠ 9)
      ∧ ∀ x ∈ lone.mon.stations, x.2.cfg.node ≠ some 9)
    ∧ (EditLinks last 7 ∧ (tget edited.net.nodes 1).isSome ∧ hasSource (terase edited.net.nodes 1) = false) := by
  decide +kernel

def tagged (kind : TagKind) (link : Nat) : Plant := withNet { net with tags := [(0, ⟨link, kind, 1, 400⟩)] }

theorem witness_TagsSetAndCleared :
    let f := rq7 8 (be 2 103 ++ [1])
    let c := rq7 9 (be 2 0)
    (Asked (ask plant f) f 8 .operate ∧ f.payload.length = 3 ∧ field f.payload 0 2 ≤ 6143 ∧ field f.payload 2 1 = 1
      ∧ (tget net.links 103).map Link.kind = some .pipe)
    ∧ (tget net.tags 0 = none ∧ ∀ k < 0, (tget net.tags k).isSome)
    ∧ (∃ x ∈ (tagged .workInProgress 103).net.tags, x.2.link = 103 ∧ x.2.kind = .workInProgress)
    ∧ (Asked (ask (tagged .doNotOperate 102) c) c 9 .operate ∧ c.payload.length = 2
      ∧ tget (tagged .doNotOperate 102).net.tags 0 = some ⟨102, .doNotOperate, 1, 400⟩) := by decide +kernel

theorem witness_LocatorSetWritesItsRange :
    let f := rq 0x0A (be 2 510 ++ be 2 2 ++ be 3 5 ++ be 3 5 ++ be 2 105 ++ be 3 7 ++ be 3 6 ++ be 2 6143)
    let g := rq 0x0A (be 2 511 ++ be 2 2 ++ be 16 0)
    let none_ := rq7 0x0A (be 2 0 ++ be 2 0)
    let empty := rq 0x0A (be 2 0 ++ be 2 0)
    let far := rq 0x0A (be 2 0 ++ be 2 1 ++ be 3 1 ++ be 3 0 ++ be 2 6144)
    let valve := rq 0x0A (be 2 0 ++ be 2 1 ++ be 3 1 ++ be 3 1 ++ be 2 102)
    (Asked (ask plant f) f 0x0A .edit ∧ f.payload.length = 4 + 8 * field f.payload 2 2
      ∧ field f.payload 0 2 + field f.payload 2 2 ≤ 512
      ∧ locatorEntriesOf f.payload = [⟨5, 5, 105⟩, ⟨7, 6, 6143⟩] ∧ (tget net.links 105).map Link.kind = some .pipe)
    ∧ (Asked (ask plant g) g 0x0A .edit ∧ g.payload.length = 4 + 8 * field g.payload 2 2
      ∧ 512 < field g.payload 0 2 + field g.payload 2 2)
    ∧ ((ask plant none_).handles none_ 0x0A ∧ none_.payload.length = 4 ∧ ¬ (ask plant none_).allows none_ .edit)
    ∧ (Asked (ask plant empty) empty 0x0A .edit ∧ field empty.payload 2 2 = 0)
    ∧ (Asked (ask plant far) far 0x0A .edit ∧ far.payload.length = 12 ∧ ∃ x ∈ locatorEntriesOf far.payload, 6143 < x.target)
    ∧ (Asked (ask plant valve) valve 0x0A .edit ∧ valve.payload.length = 12 ∧ net.state = .active
      ∧ locatorEntriesOf valve.payload = [⟨1, 1, 102⟩] ∧ (tget net.links 102).map Link.kind = some .valve) := by
  decide +kernel

/-! ## Witnesses: the Station Monitor -/

def stationBytes : List Byte :=
  be 2 4 ++ [0] ++ be 2 13107 ++ be 4 250 ++ be 4 13107 ++ [0] ++ be 2 2 ++ bePu 150 ++ bePu 200 ++ bePu 650 ++ bePu 750
    ++ bePu 20 ++ be 4 10 ++ be 2 60 ++ be 2 5 ++ [0]

theorem witness_StationDefinedAndRemoved :
    let f := rq 0x0B (be 2 511 ++ [0] ++ stationBytes ++ [0])
    let r := rq 0x0B (be 2 40 ++ [1])
    let u := rq 0x0B (be 2 511 ++ [1])
    (Asked (ask plant f) f 0x0B .edit ∧ f.payload.length = 44 ∧ field f.payload 0 2 ≤ 511
      ∧ stationRecord f.payload = some stationCfg ∧ (tget net.nodes 4).isSome)
    ∧ (Asked (ask plant r) r 0x0B .edit ∧ r.payload.length = 3 ∧ (tget plant.mon.stations 40).isSome)
    ∧ (Asked (ask plant u) u 0x0B .edit ∧ tget plant.mon.stations 511 = none) := by decide +kernel

theorem witness_StationReadAndStaleness :
    let f := fun flags => rq7 0x0C (be 2 40 ++ [flags])
    let none_ : Frame := ⟨0x0C, 0, 6, be 2 40 ++ [1]⟩
    let s := { ask plant none_ with link := { (ask plant none_).link with
      rights := State.reset.link.rights.set 6 ⟨false, false, false, false, false⟩ } }
    ((ask plant (f 0)).handles (f 0) 0x0C ∧ (f 0).payload.length = 3 ∧ tget plant.mon.stations 40 = some station
      ∧ flagAt (f 0).payload 2 0 = false)
    ∧ (Asked (ask plant (f 1)) (f 1) 0x0C .operate ∧ flagAt (f 1).payload 2 0 = true)
    ∧ (s.handles none_ 0x0C ∧ ¬ s.allows none_ .operate)
    ∧ ((clockAt 1200 false).link.clockEnded = false ∧ station.rt.deadline = some 1200
      ∧ 1200 ≤ (clockAt 1200 false).link.partTime ∧ (clockAt 1199 false).link.partTime < 1200) := by decide +kernel

def report (path count : Nat) (samples : List Byte) : Frame := rq 0x0D (be 2 40 ++ be 1 path ++ be 1 count ++ samples)

theorem witness_TelemetrySampleAccepted :
    let f := report 0 1 (be 2 11796 ++ be 2 99)
    (ask plant f).handles f 0x0D ∧ f.payload.length = 8 ∧ field f.payload 2 1 = 0 ∧ field f.payload 3 1 = 1
      ∧ tget plant.mon.stations (field f.payload 0 2) = some station ∧ 11796 ≤ field f.payload 4 2
      ∧ field f.payload 4 2 ≠ 65535 ∧ station.rt.lastTime = some 900
      ∧ 900 < (ask plant f).link.partTime - field f.payload 6 2 := by decide +kernel

/-- Station 40 without smoothing, its ring holding one pair, with this raw value: entry to LOW_LOW with FALLING and a tier that
becomes low, entry to HIGH_HIGH, and an unfed node. -/
theorem witness_TelemetrySampleAccepted_incidents :
    let c : StationRec := { stationCfg with k := 0 }
    let x : Station := ⟨c, { station.rt with ring := [(480, 900)] }⟩
    let p : Plant := { plant with mon := { stations := [(40, x)], threshold := 1 } }
    let f := report 0 1 (be 2 11796 ++ be 2 0)
    let g := report 0 1 (be 2 65534 ++ be 2 0)
    (p.keyed ∧ p.reg.table.length ≤ 253 ∧ (ask p f).handles f 0x0D ∧ tget p.mon.stations 40 = some x)
    ∧ (bandOf c .normal (-25) = .lowLow ∧ ringRate [(480, 900), (-25, 1000)] 0 = 303 ∧ fallingOf 10 303 false = true)
    ∧ (clampPu (scaleRaw c 11796) = -25 ∧ clampPu (scaleRaw c 65534) = 1000 ∧ bandOf c .normal 1000 = .highHigh)
    ∧ (tget net.nodes 4 = some (node false) ∧ (node false).fed = true ∧ p.ctl.isos = [])
    ∧ (p.mon.tierLow.at .lp = false ∧ (nextOf (st p) (exec .telemetry (ask p f))).plant.mon.tierLow.at .lp = true)
    ∧ (nextOf (st p) (exec .telemetry (ask p f))).plant.reg.table.map (·.2.kind)
      = [.odourInside, .tierLow, .pressureLoss, .pressureFall]
    ∧ (nextOf (st p) (exec .telemetry (ask p g))).plant.reg.table.map (·.2.kind) = [.odourInside, .overPressure] := by
  decide +kernel

theorem witness_TelemetrySampleTurnedAway :
    let late := report 0 1 (be 2 20000 ++ be 2 100)
    let bad := report 0 1 (be 2 11795 ++ be 2 0)
    let degraded := report 1 1 (be 2 20000 ++ be 2 0)
    let short := report 2 4 (be 2 0)
    let other := rq 0x0D (be 2 41 ++ [2, 4] ++ be 16 0)
    ((ask plant late).handles late 0x0D ∧ late.payload.length = 8 ∧ station.rt.lastTime = some 900
      ∧ (ask plant late).link.partTime - field late.payload 6 2 ≤ 900)
    ∧ ((ask plant bad).handles bad 0x0D ∧ field bad.payload 4 2 < 11796
      ∧ 900 < (ask plant bad).link.partTime - field bad.payload 6 2)
    ∧ ((ask plant degraded).handles degraded 0x0D ∧ field degraded.payload 2 1 = 1 ∧ stationCfg.acceptDegraded = false)
    ∧ ((ask plant other).handles other 0x0D ∧ field other.payload 2 1 ≤ 2
      ∧ other.payload.length = 4 + 4 * field other.payload 3 1 ∧ tget plant.mon.stations (field other.payload 0 2) = none)
    ∧ ((ask plant short).handles short 0x0D ∧ 4 ≤ short.payload.length
      ∧ short.payload.length ≠ 4 + 4 * field short.payload 3 1)
    ∧ (∀ n ∈ [0, 4],
      let lost := report 2 n (be (4 * n) 0)
      (ask plant lost).handles lost 0x0D ∧ field lost.payload 2 1 = 2 ∧ field lost.payload 3 1 ≤ 4
        ∧ lost.payload.length = 4 + 4 * field lost.payload 3 1)
    ∧ (station.rt.freshness ≠ .stale ∧ { station.rt with freshness := .stale }.freshness = .stale) := by decide +kernel

theorem witness_SampleConversion : stationCfg.inRange = true ∧ 65535 ≤ 65535 := by decide +kernel

theorem witness_BandFollowsLimitsAndHysteresis :
    let c : StationRec := { stationCfg with ll := 180, l := 200, h := 240, hh := 260 }
    c.ll < c.l ∧ c.l < c.h ∧ c.h < c.hh ∧ 0 ≤ c.hyst ∧ c.l + c.hyst ≤ c.h - c.hyst ∧ c.ll + c.hyst ≤ c.l
      ∧ c.h ≤ c.hh - c.hyst := by decide

/-! ## Witnesses: the Incident Register -/

def call (id kind key : Nat) : Frame := rq7 0x0E (be 4 id ++ be 1 kind ++ [0] ++ be 3 key)

theorem witness_CallOutcomes :
    let f := call 9002 2 5000
    let d := call 9001 4 5000
    let a := call 9002 4 1999
    let owned : Plant := withNet { net with pipes := [(103, { livePipe with owner := some 0 })] }
    let none_ : State := { ask plant f with link := { (ask plant f).link with
      rights := State.reset.link.rights.set 7 ⟨false, true, true, true, true⟩ } }
    (Asked (ask plant f) f 0x0E .call ∧ f.payload.length = 9 ∧ flagAt f.payload 5 0 = false
      ∧ callKindOf (field f.payload 4 1) = some .odourInside
      ∧ (∀ x ∈ plant.reg.table, x.2.state ≠ .cleared → field f.payload 0 4 ∉ x.2.refs)
      ∧ (∀ x ∈ net.locator, ¬(x.2.lo ≤ field f.payload 6 3 ∧ field f.payload 6 3 ≤ x.2.hi))
      ∧ tget plant.reg.table 1 = none ∧ (∀ k < 1, (tget plant.reg.table k).isSome)
      ∧ ∀ x ∈ plant.reg.table, x.2.id ≠ plant.reg.serial)
    ∧ (Asked (ask plant d) d 0x0E .call ∧ incident.state ≠ .cleared ∧ field d.payload 0 4 ∈ incident.refs)
    ∧ (Asked (ask owned a) a 0x0E .call ∧ field a.payload 4 1 = 4 ∧ net.locate (field a.payload 6 3) = some 103
      ∧ (tget owned.net.pipes 103).bind (·.owner) = some 0)
    ∧ (none_.handles f 0x0E ∧ ¬ none_.allows f .call) := by decide +kernel

/-- R84: the CLEARED record whose slot is taken is discarded first, so its id is offered again. -/
theorem test_discarded_id_is_offered :
    ({ table := [(0, { incident with id := 9, state := .cleared }), (1, { incident with id := 10 })], serial := 9 }
      : IncidentRegister).newId 0 = 9 := by decide +kernel

theorem witness_MergeOfCall :
    let full : Incident := { incident with calls := 65535, refs := List.replicate 16 0 }
    (1 < { incident with grade := 2 }.grade ∧ incident.grade ≤ 1) ∧ (incident.refs.length < 16 ∧ 16 ≤ full.refs.length) := by
  decide

/-- Calls on pipe 103, with and without a host reference: one that merges into incident 7, one that opens, one in a tier that
is low with and without its incident, and one at a full table. -/
theorem witness_MergeOfCall_located :
    let f := rq7 0x0E (be 4 9002 ++ be 1 2 ++ [1] ++ be 3 1500 ++ be 2 77)
    let g := call 9002 4 1500
    let low : StationMonitor := { plant.mon with tierLow := ⟨true, false, false⟩ }
    let sag : Incident := { incident with id := 9, kind := .tierLow, pipe := none, tier := some .lp }
    let full : IncidentRegister :=
      { table := (List.range 256).map fun k => (k, { incident with id := k + 1, pipe := none, refs := [] }) }
    (Asked (ask plant f) f 0x0E .call ∧ plant.keyed ∧ f.payload.length = 11 ∧ flagAt f.payload 5 0 = true
      ∧ callKindOf (field f.payload 4 1) = some .odourInside ∧ 9002 ∉ incident.refs
      ∧ plant.net.locate (field f.payload 6 3) = some 103 ∧ (tget net.links 103).isSome
      ∧ (tget net.pipes 103).isSome ∧ incident.pipe = some 103 ∧ incident.lastCall = some 500
      ∧ (ask plant f).link.partTime - 500 ≤ plant.reg.mergeWindow)
    ∧ (Asked (ask plant g) g 0x0E .call ∧ g.payload.length = 9 ∧ callKindOf (field g.payload 4 1) = some .noGas
      ∧ (tget net.pipes 103).bind (·.owner) = none ∧ plant.mon.tierLow.at .lp = false ∧ incident.kind ≠ .noGas
      ∧ tget plant.reg.table 1 = none ∧ (tget plant.reg.table 0).isSome ∧ plant.reg.serial = 8 ∧ incident.id ≠ 8)
    ∧ (low.tierLow.at .lp = true ∧ sag.state ≠ .cleared ∧ sag.kind = .tierLow ∧ sag.tier = some .lp
      ∧ incident.kind ≠ .tierLow)
    ∧ ({ plant with reg := full }.keyed ∧ full.table.all (fun x => x.2.state ≠ .cleared && x.2.pipe = none) = true
      ∧ (List.range 256).all (fun k => (tget full.table k).isSome) = true) := by decide +kernel

theorem witness_IncidentProgress :
    let f := rq7 0x0F (be 2 7 ++ [4])
    let linked : Incident := { incident with iso := some ⟨0, 0⟩ }
    let gone : Incident := { incident with state := .cleared }
    (Asked (ask plant f) f 0x0F .operate ∧ f.payload.length = 3 ∧ incidentStateOf (field f.payload 2 1) = some .cleared
      ∧ plant.reg.byId (field f.payload 0 2) = some (0, incident) ∧ incident.state.code < IncidentState.cleared.code
      ∧ incident.iso = none)
    ∧ (({ table := [(0, linked)] } : IncidentRegister).byId 7 = some (0, linked) ∧ linked.iso = some ⟨0, 0⟩)
    ∧ (({ table := [(0, gone)] } : IncidentRegister).byId 7 = some (0, gone)
      ∧ IncidentState.cleared.code ≤ gone.state.code)
    ∧ ({} : IncidentRegister).byId 7 = none
    ∧ ((clockAt 1000 false).link.clockEnded = false ∧ incident.deadline ≤ (clockAt 1000 false).link.partTime)
    ∧ (clockAt 999 false).link.partTime < incident.deadline := by decide +kernel

/-! ## Witnesses: isolations -/

def theIso : Isolation :=
  { serial := 30, requester := 1, targets := [103], hold := false, requestTime := 800 }
/-- The plan of pipe 103: section nodes 3 and 4, closure set 102 and 104. -/
def thePlan : Plan :=
  { gen := 7, pipes := [103], nodes := [3, 4], closure := [⟨102, true⟩, ⟨104, false⟩], passed := [], cutoff := []
    pipeCounts := ⟨1, 5, 40⟩, cutoffCounts := {} }
def planned : Isolation := { theIso with state := .planned, plan := some thePlan }
/-- The isolation authorised, in a state, with these holds. -/
def shut (state : IsoState) (holds : List Nat) : Isolation :=
  { planned with state := state, authoriser := some 2, authTime := some 850, holds := holds, outage := some 1 }
def holders (ks : List Nat) (p102 : Position) (o102 : Option Nat) : Table ControlRt :=
  [(102, ⟨p102, ks, o102⟩), (104, ⟨.closed, ks, none⟩)]
def claimedPipes : Table PipeRt :=
  [(101, livePipe), (103, { livePipe with claim := some 0, pending := ⟨1, 0, 9⟩, owner := some 1 }), (105, livePipe)]
def withIso (i : Isolation) : Plant := { plant with ctl := { isos := [(0, i)], serial := 31 } }
/-- A held and claimed section with isolation `i` in slot 0 and record 1 OPEN. -/
def heldBy (i : Isolation) (p102 : Position) : Plant :=
  { withIso i with
    net := { net with controls := holders (if i.holds = [] then [] else [0]) p102 none, pipes := claimedPipes }
    led := { records := [(0, { iso := none, opened := 100 }), (1, { iso := some ⟨0, 30⟩, opened := 850 })] } }
def ref (kind : Nat) : Frame := rq kind (be 1 0 ++ be 2 30)
def ref7 (kind : Nat) : Frame := rq7 kind (be 1 0 ++ be 2 30)
abbrev Named (s : State) (f : Frame) (i : Isolation) : Prop :=
  s.plant.keyed ∧ f.payload.length = 3 ∧ field f.payload 0 1 ≤ 31
    ∧ tget s.plant.ctl.isos (field f.payload 0 1) = some i ∧ i.serial = field f.payload 1 2

theorem witness_IsolateStartsPlanning :
    let f := rq7 0x10 ([1, 1] ++ be 2 7 ++ be 2 103)
    let g := rq7 0x10 ([4, 0] ++ be 2 0 ++ be 2 101 ++ be 2 103 ++ be 2 105 ++ be 2 103)
    (Asked (ask plant f) f 0x10 .operate ∧ (ask plant f).plant.keyed ∧ f.payload.length = 4 + 2 * field f.payload 0 1
      ∧ targetsOf f.payload = [103] ∧ (tget net.links 103).map Link.kind = some .pipe ∧ field f.payload 2 2 ≠ 0
      ∧ plant.reg.byId (field f.payload 2 2) = some (0, incident) ∧ incident.state ≠ .cleared ∧ incident.iso = none
      ∧ plant.trace.fifo.length < 8 ∧ tget plant.ctl.isos 0 = none)
    ∧ (Asked (ask plant g) g 0x10 .operate ∧ g.payload.length = 4 + 2 * field g.payload 0 1 ∧ field g.payload 0 1 = 4
      ∧ field g.payload 2 2 = 0 ∧ ∀ k ∈ targetsOf g.payload, (tget net.links k).map Link.kind = some .pipe)
    ∧ (let h := rq7 0x10 ([0, 0] ++ be 2 7)
      Asked (ask plant h) h 0x10 .operate ∧ h.payload.length = 4 ∧ field h.payload 0 1 = 0 ∧ targetsOf h.payload = []
        ∧ plant.reg.byId (field h.payload 2 2) = some (0, incident) ∧ incident.pipe = some 103) := by
  decide +kernel

def tracing (gen restarts : Nat) : State :=
  st { withIso theIso with trace := { running := some (.trace ⟨0, 30⟩ gen restarts 256), applied := 7 } }
def outcomeOf (s : State) (targets : List Nat) : Outcome :=
  Ev.traceOutcome (Ev.start { s.plant with trace := { s.plant.trace with running := none } } s.link.partTime []) 0 256 7 targets

theorem witness_TraceCompletionOutcome :
    (tget (tracing 7 0).plant.ctl.isos 0 = some theIso ∧ theIso.state = .planning ∧ theIso.authTime = none
      ∧ theIso.carry = none ∧ (tracing 7 0).plant.noneToIssue ∧ (tracing 7 0).plant.keyed)
    ∧ outcomeOf (tracing 7 0) theIso.targets = .plan thePlan
    ∧ outcomeOf (tracing 7 0) [101] = .failure .sourceInSection
    ∧ ((tracing 6 1).plant.net.generation ≠ 6 ∧ 1 < 2)
    ∧ ((tracing 6 2).plant.net.generation ≠ 6 ∧ 2 ≤ 2)
    ∧ (tableWf net.links ∧ tableWf net.pipes ∧ (tget net.links 102).map Link.kind = some .valve
      ∧ outcomeOf (tracing 7 0) [102] = .failure .targetNotPipe) := by decide +kernel

/-- The trace of pipe 103 meets the claim of the isolation in slot 31, CLOSING in the first state and ENDED in the second. -/
def conflicting (hold : Bool) (other : IsoState) : State :=
  let p : Plant := { withIso theIso with
    net := { net with pipes := [(101, livePipe), (103, { livePipe with claim := some 31 }), (105, livePipe)] }
    ctl := { isos := [(0, { theIso with hold := hold }), (31, { shut other [] with serial := 29, outage := none })], serial := 31 }
    trace := { running := some (.trace ⟨0, 30⟩ 7 0 256), applied := 7 } }
  st p

theorem witness_TraceCompletionOutcome_conflict :
    (∀ hold, ∀ other ∈ [IsoState.closing, .ended], outcomeOf (conflicting hold other) [103] = .conflict ⟨31, 29⟩
      ∧ tget (conflicting hold other).plant.ctl.isos 0 = some { theIso with hold := hold }
      ∧ (conflicting hold other).plant.noneToIssue ∧ (conflicting hold other).plant.keyed
      ∧ (conflicting hold other).plant.net.generation = 7)
    ∧ (tget (conflicting true .closing).plant.ctl.isos 31).any (fun w => w.serial = 29 && !w.state.terminal) = true
    ∧ (tget (conflicting true .ended).plant.ctl.isos 31).any (fun w => w.serial = 29 && !w.state.terminal) = false
    ∧ (tget (conflicting true .ended).plant.net.pipes 103).bind (·.claim) = some 31 := by decide +kernel

def recomputing : State :=
  st { withIso (shut .effective [102, 104]) with
    net := { net with controls := holders [0] .closed none, pipes := claimedPipes }
    trace := { running := some (.recompute 7 [] [] [{ net with controls := holders [0] .closed none }.floodView]) } }

theorem witness_RecomputeAssignsSupply :
    let v := recomputing.plant.net.floodView
    recomputing.plant.trace.running = some (.recompute 7 [] [] [v]) ∧ recomputing.plant.keyed
      ∧ ∃ k i, tget recomputing.plant.ctl.isos k = some i ∧ i.state = .effective := by
  exact ⟨by decide +kernel, by decide +kernel, 0, shut .effective [102, 104], by decide +kernel⟩

/-- RESTORING with its clock running and no station to judge: the recompute completes the ramp, and the isolation ends where
its record's pipes have nothing pending. -/
def recharging (pending : Counts) : State :=
  let i : Isolation := { shut .restoring [] with
    ramp := some { increment := 20, interval := 60, target := 400, band := 50, t0 := some 900, openGen := 7 } }
  let p := heldBy i .opened
  st { p with
    net := { p.net with pipes := [(101, livePipe),
      (103, { supply := .isolated, isNew := false, claim := some 0, pending := pending, owner := some 1 }),
      (105, livePipe)] }
    mon := {}, trace := { running := some (.recompute 7 [] [] [p.net.floodView]) } }

theorem witness_RecomputeAssignsSupply_restoring :
    (∀ pending ∈ [⟨1, 0, 9⟩, ⟨0, 0, 0⟩],
      (recharging pending).plant.trace.running
          = some (.recompute 7 [] [] [(recharging pending).plant.net.floodView])
        ∧ (recharging pending).plant.keyed)
    ∧ (nextOf (st plant) (exec .recomputeCompletion (recharging ⟨1, 0, 9⟩))).plant.ctl.isos.map (·.2.state) = [.relighting]
    ∧ (nextOf (st plant) (exec .recomputeCompletion (recharging ⟨0, 0, 0⟩))).plant.ctl.isos.map (·.2.state) = [.ended] := by
  decide +kernel

theorem witness_IsolationNamedBySlotAndSerial :
    let f := ref 0x11
    let far := rq 0x11 (be 1 32 ++ be 2 30)
    let stale := rq 0x11 (be 1 0 ++ be 2 29)
    let empty := rq 0x11 (be 1 31 ++ be 2 30)
    let none_ := ref7 0x11
    (Asked (ask (withIso planned) f) f 0x11 .authorise ∧ f.payload.length = 3)
    ∧ ((ask (withIso planned) none_).handles none_ 0x11 ∧ ¬ (ask (withIso planned) none_).allows none_ .authorise)
    ∧ (Asked (ask (withIso planned) far) far 0x11 .authorise ∧ 31 < field far.payload 0 1)
    ∧ (Asked (ask (withIso planned) stale) stale 0x11 .authorise ∧ field stale.payload 0 1 ≤ 31
      ∧ tget (withIso planned).ctl.isos 0 = some planned ∧ planned.serial ≠ field stale.payload 1 2)
    ∧ (field empty.payload 0 1 ≤ 31 ∧ tget (withIso planned).ctl.isos (field empty.payload 0 1) = none) := by
  decide +kernel

theorem witness_AuthoriseClaimsAndHolds :
    let f := ref 0x11
    let s := ask (withIso planned) f
    let shutNet := { withIso planned with net := { net with controls := holders [] .closed none } }
    (Asked s f 0x11 .authorise ∧ Named s f planned ∧ planned.state = .planned ∧ thePlan.gen = s.plant.net.generation
      ∧ f.origin ≠ planned.requester
      ∧ (∃ k, 1 ≤ k ∧ k ≤ 63 ∧ tget s.plant.led.records k = none ∧ planned.outage = none)
      ∧ (s.plant.net.controls.all fun c => c.2.holders.length < 4) = true ∧ planned.closure = [102, 104]
      ∧ planned.closure.Nodup)
    ∧ (tget net.controls 102).map (·.position) = some .opened
    ∧ ∀ l ∈ planned.closure, (tget shutNet.net.controls l).map (·.position) = some .closed := by
  refine ⟨⟨by decide +kernel, by decide +kernel, by decide +kernel, by decide +kernel, by decide +kernel,
    ⟨1, by decide +kernel⟩, by decide +kernel⟩, by decide +kernel, by decide +kernel⟩

/-- An emergency authorised by its own requester, and one replanning that has kept a hold and its record: 102 is at the
share limit, and its own slot is among the four. -/
theorem witness_AuthoriseClaimsAndHolds_again :
    let f := ref 0x11
    let urgent : Isolation := { planned with requester := 0, incident := some 7 }
    let again : Isolation := { shut .planned [102] with plan := some thePlan, requester := 0, incident := some 7 }
    let p := { heldBy again .closed with
      net := { net with controls := [(102, ⟨.closed, [1, 2, 3, 0], none⟩), (104, ⟨.closed, [1, 2, 3], none⟩)]
                        pipes := claimedPipes } }
    (Asked (ask (withIso urgent) f) f 0x11 .authorise ∧ Named (ask (withIso urgent) f) f urgent
      ∧ f.origin = urgent.requester ∧ plant.reg.byId 7 = some (0, incident) ∧ incident.grade = 1)
    ∧ (Asked (ask p f) f 0x11 .authorise ∧ Named (ask p f) f again ∧ again.state = .planned
      ∧ thePlan.gen = p.net.generation ∧ again.closure.Nodup ∧ again.outage = some 1
      ∧ (∀ l ∈ again.holds, l ∈ again.closure)
      ∧ ∀ l ∈ again.closure, ∃ c, tget p.net.controls l = some c ∧ (c.holders.length < 4 ∨ 0 ∈ c.holders)) := by
  refine ⟨by decide +kernel, by decide +kernel, by decide +kernel, by decide +kernel, by decide +kernel, by decide +kernel,
    by decide +kernel, by decide +kernel, fun l h => ?_⟩
  rcases (show l = 102 ∨ l = 104 from by
    have : l ∈ [102, 104] := h
    simpa using this) with rfl | rfl
  exacts [⟨_, rfl, by decide +kernel⟩, ⟨_, rfl, by decide +kernel⟩]

theorem witness_AuthoriseTurnedBack :
    let f := ref 0x11
    let own : Isolation := { planned with requester := 0 }
    let urgent : Isolation := { own with incident := some 7 }
    ((ask (withIso planned) (ref7 0x11)).handles (ref7 0x11) 0x11
      ∧ ¬ (ask (withIso planned) (ref7 0x11)).allows (ref7 0x11) .authorise ∧ Named (ask (withIso planned) f) f planned)
    ∧ (Asked (ask (withIso theIso) f) f 0x11 .authorise ∧ Named (ask (withIso theIso) f) f theIso ∧ theIso.state ≠ .planned)
    ∧ (Asked (ask (withIso own) f) f 0x11 .authorise ∧ f.origin = own.requester ∧ own.incident = none)
    ∧ (Named (ask (withIso urgent) f) f urgent ∧ plant.reg.byId 7 = some (0, incident) ∧ incident.grade = 1
      ∧ { thePlan with gen := 6 }.gen ≠ plant.net.generation) := by decide +kernel

theorem witness_AuthoriseTurnedBack_nothing_to_issue : (ask (withIso planned) (ref 0x11)).plant.noneToIssue := by
  decide +kernel

theorem witness_CancelEndsIsolation :
    let f := ref7 0x12
    let again : Isolation := { shut .planning [102, 104] with plan := some thePlan }
    (Asked (ask (withIso planned) f) f 0x12 .operate ∧ Named (ask (withIso planned) f) f planned ∧ planned.authTime = none)
    ∧ (Asked (ask (heldBy again .opened) f) f 0x12 .operate ∧ Named (ask (heldBy again .opened) f) f again
      ∧ again.authTime.isSome)
    ∧ (Named (ask (heldBy (shut .closing [102, 104]) .opened) f) f (shut .closing [102, 104])) := by decide +kernel

def verifying (value : Int) (result : Verification) : Plant :=
  { heldBy { shut .verifying [102, 104] with verifyTimer := some 1000, decay := true, result := result } .closed with
    mon := { stations := [(40, { station with rt := { station.rt with s16 := 16 * value } })] } }

theorem witness_VerificationEnds :
    let i : Isolation := { shut .verifying [102, 104] with verifyTimer := some 1000, decay := true }
    let none_ : Plant := { verifying 20 .none with mon := {} }
    let f := ref 0x13
    let j : Isolation := { i with result := .passingSuspected }
    let above := fun (p : Plant) => p.mon.stations.filter fun x => p.mon.dead.at x.2.cfg.tier < roundDiv x.2.rt.s16 16
    ((st (verifying 20 .none)).link.clockEnded = false ∧ (verifying 20 .none).keyed
      ∧ tget (verifying 20 .none).ctl.isos 0 = some i ∧ i.state = .verifying ∧ i.verifyTimer = some 1000
      ∧ 1000 ≤ (st (verifying 20 .none)).link.partTime)
    ∧ none_.mon.stations = [] ∧ above (verifying 20 .none) = [] ∧ above (verifying 21 .none) ≠ []
    ∧ (Asked (ask (verifying 21 .passingSuspected) f) f 0x13 .authorise
      ∧ Named (ask (verifying 21 .passingSuspected) f) f j ∧ j.result = .passingSuspected)
    ∧ (Named (ask (verifying 21 .none) f) f i ∧ i.result ≠ .passingSuspected) := by decide +kernel

theorem witness_IsolationReleasedAndRead :
    let ended : Isolation := { shut .ended [] with endTime := some 990 }
    let f := ref7 0x14
    let barred : State := { ask (withIso ended) f with link := { (ask (withIso ended) f).link with
      rights := State.reset.link.rights.set 7 ⟨true, false, true, true, true⟩ } }
    (barred.handles f 0x14 ∧ f.payload.length = 3 ∧ ¬ barred.allows f .operate) ∧
    let r := rq7 0x15 (be 1 0 ++ be 2 30 ++ [3] ++ be 2 1)
    (Asked (ask (withIso ended) f) f 0x14 .operate ∧ Named (ask (withIso ended) f) f ended ∧ ended.state = .ended)
    ∧ (Named (ask (withIso planned) f) f planned ∧ planned.state = .planned)
    ∧ ((ask (withIso planned) r).handles r 0x15 ∧ r.payload.length = 6
      ∧ (planned.part (field r.payload 3 1)).isSome
      ∧ (((planned.part 3).getD []).drop (field r.payload 4 2)).flatten.length ≤ 1013) := by decide +kernel

/-! ## Witnesses: valve orders -/

def theOrder (state : OrderState) (action : OrderAction) : Order :=
  { iso := ⟨0, 30⟩, link := 102, action := action, state := state, issued := 100, expiry := 1000 }
/-- Isolation 30 in CLOSING with order 500 on valve 102. -/
def ordered (state : OrderState) (expiry : Nat) : Plant :=
  { heldBy (shut .closing [102, 104]) .opened with
    net := { net with controls := holders [0] .opened (some 500), pipes := claimedPipes }
    ctl := { isos := [(0, shut .closing [102, 104])], serial := 31, orderSerial := 501
             orders := [(500, { theOrder state .close with expiry := expiry })] } }
/-- Isolation 30 in RESTORING with the OPEN order 500 on valve 102. -/
def reopening : Plant :=
  { heldBy (shut .restoring []) .closed with
    net := { net with controls := holders [] .closed (some 500), pipes := claimedPipes }
    ctl := { isos := [(0, shut .restoring [])], serial := 31, orderSerial := 501
             orders := [(500, theOrder .accepted .reopen)] } }
def told (form : Nat) : Frame := rq7 0x16 (be 1 form ++ be 2 500)

theorem witness_OrderAcceptedOrOverdue :
    let f := told 0
    (Asked (ask (ordered .issued 1000) f) f 0x16 .operate ∧ f.payload.length = 3 ∧ field f.payload 0 1 = 0
      ∧ tget (ordered .issued 1000).ctl.orders (field f.payload 1 2) = some (theOrder .issued .close)
      ∧ ((tget net.links 102).bind Link.operability?) = some .operable
      ∧ (tget (ordered .issued 1000).net.controls 102).isSome)
    ∧ tget (ordered .accepted 1000).ctl.orders 500 = some (theOrder .accepted .close)
    ∧ (let o : Order := { theOrder .withdrawn .close with cause := some .released, finishTime := some 900 }
      tget { ordered .withdrawn 1000 with ctl := { orders := [(500, o)] } }.ctl.orders 500 = some o
        ∧ o.state = .withdrawn ∧ o.cause = some .released)
    ∧ tget plant.ctl.orders 500 = none
    ∧ ((st (ordered .issued 1000)).link.clockEnded = false ∧ (theOrder .issued .close).overdue = false
      ∧ (theOrder .issued .close).expiry ≤ (st plant).link.partTime)
    ∧ (st (ordered .issued 1001)).link.partTime < { theOrder .issued .close with expiry := 1001 }.expiry := by
  decide +kernel

theorem witness_OrderOperated :
    let f := told 1
    (Asked (ask (ordered .accepted 1000) f) f 0x16 .operate ∧ f.payload.length = 3 ∧ field f.payload 0 1 = 1
      ∧ (ordered .accepted 1000).keyed ∧ (ordered .accepted 1000).noneToIssue
      ∧ tget (ordered .accepted 1000).ctl.orders 500 = some (theOrder .accepted .close)
      ∧ (tget (ordered .accepted 1000).net.controls 102).bind (·.order) = some 500)
    ∧ (tget { ordered .withdrawn 1000 with net := net }.ctl.orders 500 = some (theOrder .withdrawn .close)
      ∧ (tget (holders [] .closed none) 102).map (·.position) = some .closed) := by decide +kernel

theorem witness_CannotOperateAndFound :
    let f := told 2
    let g := fun pos => rq7 0x16 ([3] ++ be 2 102 ++ [pos])
    (Asked (ask (ordered .issued 1000) f) f 0x16 .operate ∧ f.payload.length = 3 ∧ field f.payload 0 1 = 2
      ∧ (ordered .issued 1000).keyed ∧ (theOrder .issued .close).state = .issued)
    ∧ (Asked (ask plant (g 0)) (g 0) 0x16 .operate ∧ (g 0).payload.length = 4 ∧ field (g 0).payload 0 1 = 3
      ∧ plant.keyed ∧ (tget net.links 102).map Link.kind = some .valve
      ∧ (tget net.controls 102).map (·.position) = some .opened ∧ positionOf (field (g 0).payload 3 1) = some .opened)
    ∧ positionOf (field (g 1).payload 3 1) = some .closed
    ∧ ((tget (ordered .issued 1000).net.controls 102).bind (·.order) = some 500
      ∧ (tget (ordered .issued 1000).net.controls 102).map (·.position) = some .opened
      ∧ tget (ordered .issued 1000).ctl.isos 0 = some (shut .closing [102, 104])
      ∧ 102 ∈ (shut .closing [102, 104]).holds)
    ∧ (Asked (ask reopening f) f 0x16 .operate ∧ reopening.keyed ∧ reopening.noneToIssue
      ∧ tget reopening.ctl.orders 500 = some (theOrder .accepted .reopen)
      ∧ (tget reopening.net.controls 102).bind (·.order) = some 500
      ∧ tget reopening.ctl.isos 0 = some (shut .restoring [])) := by decide +kernel

/-- With the tag on 102: no order, an order to close it, an entry to close it, and an order to open it. -/
theorem witness_DoNotOperateTagMakesUnworkable :
    let f := rq7 8 (be 2 102 ++ [0])
    let listed : Isolation := { shut .closing [102, 104] with toIssue := [⟨102, .close⟩] }
    (∀ p ∈ [plant, ordered .issued 1000, heldBy listed .opened, reopening],
      Asked (ask p f) f 8 .operate ∧ f.payload.length = 3 ∧ field f.payload 2 1 = 0 ∧ p.net.state = .active
        ∧ (tget p.net.links 102).map Link.kind = some .valve ∧ p.keyed
        ∧ (∀ x ∈ p.net.tags, ¬(x.2.link = 102 ∧ x.2.kind = .doNotOperate)) ∧ lowestFree p.net.tags 0 64 = some 0)
    ∧ ((ordered .issued 1000).noneToIssue
      ∧ ((ordered .issued 1000).ctl.isos.filter fun x => x.2.state = .closing).length ≤ 1)
    ∧ (tget (heldBy listed .opened).ctl.isos 0 = some listed
      ∧ (tget (heldBy listed .opened).net.controls 102).map (·.position) = some .opened)
    ∧ (reopening.noneToIssue ∧ (theOrder .accepted .reopen).iso = ⟨0, 30⟩
      ∧ tget reopening.ctl.isos 0 = some (shut .restoring [])) := by decide +kernel

/-! ## Witnesses: restoration and relight -/

def ramp (t0 : Option Nat) (stall : Option Stall) (timer : Option Nat) : Ramp :=
  { increment := 20, interval := 60, target := 400, band := 50, t0 := t0, stall := stall, startTimer := timer }
def restoring (r : Option Ramp) : Isolation := { shut .restoring [] with ramp := r }

/-- R8, R148, R168, R171: the opening that completes the ramp of a section with nothing pending ends the isolation, and the
report's increment of the generation, from 7, is the only one. -/
theorem test_end_in_crew_report_bumps_once :
    let p := { reopening with
      net := { reopening.net with pipes := [(103, { livePipe with claim := some 0, owner := some 1 })] }
      ctl := { reopening.ctl with isos := [(0, restoring (some (ramp (some 900) none none)))] } }
    let t := nextOf (st plant) (exec .valveReportOperated (ask p (told 1)))
    t.plant.ctl.isos.map (·.2.state) = [.ended] ∧ t.plant.net.generation = 8 := by decide +kernel

/-- R165: holds withdraw both OPEN orders of an isolation; none is left after the second, on 104. -/
theorem test_blocked_names_the_last_order :
    let r := restoring (some (ramp none none (some 2000)))
    let p := { heldBy r .closed with
      net := { net with controls := [(102, ⟨.closed, [], some 500⟩), (104, ⟨.closed, [], some 501⟩)] }
      ctl := { isos := [(0, r), (1, { planned with serial := 31 })]
               orders := [(500, theOrder .issued .reopen), (501, { theOrder .issued .reopen with link := 104 })] } }
    let e := (Ev.start p 1000 []).takeHolds 1 [102, 104]
    ((e.iso? 0).bind (·.ramp)).bind (·.stall) = some ⟨.blocked, some 104, 1000⟩ := by decide +kernel

theorem witness_RestoreStartsRamp :
    let f := rq7 0x17 (be 1 0 ++ be 2 30 ++ [15] ++ bePu 1000 ++ be 2 10 ++ bePu (-1000) ++ bePu 2000)
    let i := shut .closing [102, 104]
    let e := fun p => Ev.start (heldBy i p) 1000 []
    (Asked (ask (heldBy i .opened) f) f 0x17 .operate ∧ (heldBy i .opened).keyed ∧ f.payload.length = 15
      ∧ tget (heldBy i .opened).ctl.isos (field f.payload 0 1) = some i ∧ i.serial = field f.payload 1 2
      ∧ (rampParams f.payload).inRange = true ∧ (e .opened).workInSection i = none
      ∧ (e .opened).heldByOthers 0 i = none)
    ∧ (∃ l ∈ i.closure, (e .opened).isOpen l = true) ∧ (∀ l ∈ i.closure, (e .closed).isOpen l = false)
    ∧ (∀ x ∈ (heldBy i .closed).ctl.isos, x.2.state = .closing → x.1 = 0)
    ∧ ((heldBy i .closed).ctl.orders.length ≤ 256 ∧ 102 ∈ i.closure ∧ 102 ∈ i.holds
      ∧ (tget net.links 102).bind Link.operability? = some .operable
      ∧ (∀ x ∈ net.tags, ¬(x.2.link = 102 ∧ x.2.kind = .doNotOperate))
      ∧ tget (heldBy i .closed).net.controls 102 = some ⟨.closed, [0], none⟩)
    ∧ (let p := { heldBy i .closed with
        net := { net with controls := [(102, ⟨.closed, [0], none⟩), (104, ⟨.closed, [1, 0], none⟩)]
                          pipes := claimedPipes } }
      Asked (ask p f) f 0x17 .operate ∧ p.keyed ∧ (Ev.start p 1000 []).heldByOthers 0 i = none ∧ 104 ∈ i.closure
        ∧ tget p.net.controls 104 = some ⟨.closed, [1, 0], none⟩) := by
  decide +kernel

theorem witness_RampStallsAndResumes :
    let a := restoring (some (ramp none none (some 1000)))
    let b := restoring (some (ramp none (some ⟨.noOpening, none, 900⟩) none))
    let c := restoring (some (ramp (some 900) (some ⟨.lag, some 40, 950⟩) none))
    let f := ref7 0x18
    ((st (withIso a)).link.clockEnded = false ∧ tget (withIso a).ctl.isos 0 = some a ∧ a.state = .restoring
      ∧ 1000 ≤ (st (withIso a)).link.partTime)
    ∧ (Asked (ask (withIso b) f) f 0x18 .operate ∧ Named (ask (withIso b) f) f b)
    ∧ (Asked (ask (withIso c) f) f 0x18 .operate ∧ Named (ask (withIso c) f) f c)
    ∧ (Asked (ask (withIso a) f) f 0x18 .operate ∧ Named (ask (withIso a) f) f a) := by decide +kernel

/-- Station 40 at node 4, its third lag below 500 less the band; a value at the target less the band; and the recompute that
completes the ramp without a station (`recharging`) or leaves it where an OPEN order is out. -/
theorem witness_RampStallsAndResumes_judged :
    let r : Ramp := { ramp (some 900) none none with target := 500, stations := [⟨40, 490, 2⟩] }
    let p := { heldBy (restoring (some r)) .opened with mon := plant.mon }
    let f := report 0 1 (be 2 30000 ++ be 2 0)
    let t := nextOf (st plant) (exec .telemetry (ask p f))
    let wide := { p with ctl := { p.ctl with isos := [(0, restoring (some { r with band := 60 }))] } }
    ((ask p f).handles f 0x0D ∧ p.keyed ∧ tget p.mon.stations 40 = some station ∧ stationCfg.node = some 4
      ∧ tget p.ctl.isos 0 = some (restoring (some r)) ∧ r.t0 = some 900 ∧ r.stall = none ∧ 900 ≤ (ask p f).link.partTime
      ∧ (r.stations.map fun y => y.station).Nodup ∧ 4 ∈ (restoring (some r)).nodes)
    ∧ ((tget t.plant.mon.stations 40).map (fun y => roundDiv y.rt.s16 16) = some 441 ∧ 441 < min (490 + 20 * 1) 500 - 50)
    ∧ (tget t.plant.ctl.isos 0).map (·.state) = some .restoring
    ∧ ((tget (nextOf (st plant) (exec .telemetry (ask wide f))).plant.ctl.isos 0).map (·.state) = some .relighting
      ∧ (500 : Int) - 60 ≤ 441)
    ∧ ((recharging ⟨1, 0, 9⟩).plant.mon.stations = [] ∧ (recharging ⟨1, 0, 9⟩).plant.ctl.orders = []
      ∧ (recharging ⟨1, 0, 9⟩).plant.keyed
      ∧ ((tget (recharging ⟨1, 0, 9⟩).plant.ctl.isos 0).bind (·.ramp)).any (fun q => q.t0 = some 900 && q.openGen ≤ 7) = true) := by
  decide +kernel

theorem witness_RecloseReturnsToClosing :
    let f := ref7 0x19
    let i := restoring (some (ramp (some 900) none none))
    let e := Ev.start (heldBy i .opened) 1000 []
    (Asked (ask (heldBy i .opened) f) f 0x19 .operate ∧ Named (ask (heldBy i .opened) f) f i ∧ i.holds = []
      ∧ e.shareLimit 0 i.closure = none ∧ i.closure.Nodup ∧ (∃ l ∈ i.closure, e.isOpen l = true)
      ∧ ∀ l ∈ i.closure, e.isOpen l = true → e.workable l = true)
    ∧ (Named (ask (withIso planned) f) f planned ∧ planned.state ≠ .restoring) := by decide +kernel

theorem witness_RelightReportTaken :
    let i := shut .relighting []
    let recharging : Plant := { heldBy i .opened with net := { net with
      pipes := [(103, { livePipe with supply := .recharging, claim := some 0, pending := ⟨1, 0, 9⟩, owner := some 1 })] } }
    let f := rq7 0x1A (be 2 103 ++ be 2 1 ++ be 2 4095 ++ be 2 9)
    (Asked (ask (heldBy i .opened) f) f 0x1A .operate ∧ (heldBy i .opened).keyed ∧ f.payload.length = 8
      ∧ (∀ n ∈ [2, 4, 6], field f.payload n 2 ≤ 4095) ∧ (tget net.links 103).map Link.kind = some .pipe
      ∧ (tget (heldBy i .opened).net.pipes 103).map (·.supply) = some .live
      ∧ (tget (heldBy i .opened).net.pipes 103).bind (·.owner) = some 1
      ∧ (tget (heldBy i .opened).led.records 1).isSome)
    ∧ ((tget recharging.net.pipes 103).map (·.supply) = some .recharging
      ∧ (tget recharging.net.pipes 103).bind (·.claim) = some 0 ∧ tget recharging.ctl.isos 0 = some i) := by decide +kernel

theorem witness_CloseOutEndsIsolation :
    let f := ref 0x1B
    let i := shut .relighting []
    let j := restoring (some (ramp (some 900) (some ⟨.lag, some 40, 950⟩) none))
    (Asked (ask (heldBy i .opened) f) f 0x1B .authorise ∧ Named (ask (heldBy i .opened) f) f i)
    ∧ (Asked (ask (heldBy j .opened) f) f 0x1B .authorise ∧ Named (ask (heldBy j .opened) f) f j)
    ∧ (Named (ask (withIso planned) f) f planned ∧ planned.state = .planned) := by decide +kernel

theorem witness_RecordReleaseAndWeights :
    let f := fun k => rq7 0x1C (be 2 k)
    let old : Outage := { iso := some ⟨0, 30⟩, state := .closed, opened := 100, closed := some 400 }
    let p : Plant := { plant with led := { records := [(0, { iso := none, opened := 100 }), (63, old)] } }
    let w := rq 0x1D (be 2 255 ++ be 2 0 ++ be 2 255)
    (Asked (ask p (f 63)) (f 63) 0x1C .operate ∧ (f 63).payload.length = 2 ∧ tget p.led.records 63 = some old)
    ∧ (field (f 0).payload 0 2 = 0 ∧ 63 < field (f 64).payload 0 2 ∧ tget p.led.records 1 = none)
    ∧ ((tget (heldBy theIso .opened).led.records 1).map (·.state) = some .opened)
    ∧ (Asked (ask plant w) w 0x1D .supervise ∧ w.payload.length = 6 ∧ field w.payload 0 2 ≤ 255
      ∧ ∀ x ∈ plant.net.pipes, x.2.pending = ⟨0, 0, 0⟩)
    ∧ (Asked (ask (heldBy theIso .opened) w) w 0x1D .supervise
      ∧ ∃ x ∈ (heldBy theIso .opened).net.pipes, x.2.pending ≠ ⟨0, 0, 0⟩) := by decide +kernel

/-! ## Witnesses: rules of the whole part -/

def front (c : Instr) (s : State) : State := { s with pending := [c] }
def busy (f : Frame) : State :=
  { ask plant f with link := { (ask plant f).link with sending := some ⟨0x81, 0, [0]⟩ } }
theorem witness_LinkInvariantKept :
    (front .requestDispatch (queued 16)).link.Inv ∧ ∃ t, step (front .requestDispatch (queued 16)) = .next t := by
  refine ⟨⟨trivial, by decide +kernel, by decide +kernel, by decide +kernel, by decide +kernel, by decide +kernel,
    by decide +kernel, fun r h => (by cases h), by decide +kernel, by decide +kernel, by decide +kernel, by decide +kernel,
    by decide +kernel⟩, _, rfl⟩

theorem witness_TablesInvariantKept :
    (front .isolate (ask plant (rq 0x10 ([1, 0] ++ be 2 0 ++ be 2 103)))).plant.TablesInv := by
  refine ⟨?_, ?_, ?_, ?_, ?_, ?_, ?_, ?_, ?_, ?_, ?_⟩ <;> decide +kernel

theorem witness_LimitsInvariantKept :
    (front .telemetry (ask plant (report 0 1 (be 2 20000 ++ be 2 0)))).plant.LimitsInv := by
  refine ⟨?_, ?_, ?_, ?_, ?_, ?_, ?_, ?_, ?_, ?_⟩ <;> decide +kernel

theorem witness_EngineNeverIdlesWithWork :
    (front .traceCompletion (tracing 7 0)).plant.EngineInv
      ∧ (front .isolate (ask plant (rq 0x10 ([1, 0] ++ be 2 0 ++ be 2 103)))).plant.EngineInv :=
  ⟨fun h => (by cases h), fun _ => ⟨rfl, by decide +kernel⟩⟩

theorem witness_LinkSettingsChangeOnlyByTheirRequest :
    (∀ strap, Instr.lineBreak ≠ .powerOn strap) ∧ ∃ t, exec .lineBreak (st plant) = .next t :=
  ⟨fun _ h => (by cases h), _, rfl⟩

theorem witness_GenerationNeverDecreases :
    (∀ strap, Instr.lineBreak ≠ .powerOn strap) ∧ Instr.lineBreak ≠ .tableCheckComplete
      ∧ (st plant).plant.net.generation ≤ 4294967295 ∧ ∃ t, exec .lineBreak (st plant) = .next t :=
  ⟨fun _ h => (by cases h), by decide, by decide +kernel, _, rfl⟩

theorem witness_RefusalChangesNothing :
    let s := busy (rq7 0x21 (be 4 0))
    let x : OutFrame := ⟨0xA1, 0x37, [0x16]⟩
    Instr.noticeMask.isRequest = true ∧ s.link.sending.isSome
      ∧ (exec .noticeMask s = .next (nextOf s (exec .noticeMask s)))
      ∧ (nextOf s (exec .noticeMask s)).link.replies = s.link.replies ++ [x] ∧ x.payload = 0x16#8 :: []
      ∧ 0x10 ≤ (0x16#8).toNat := by
  refine ⟨by decide, by decide +kernel, rfl, by decide +kernel, by decide +kernel, by decide⟩

end Slice0
end

section
/-! The edit grant (R9 to R12): what EDIT_BEGIN, EDIT_END and EDIT_REVOKE do to the blocks, case by case, then what each
row answers, and O15 assembled from those. -/

namespace Sys2Proof.Machine

/-! ## Requests whose rule lists no length check -/

/-- A request of the right length (R200) that its block brings to `p` with the notices `ns` and answers `r`. -/
theorem State.answerEv_lengthFirst {s : State} {f : Frame} {kind : Nat} (h : s.handles f kind)
    {row : List Byte → Bool} (hr : row f.payload = true) {ok : List Byte → Bool} (hl : ok f.payload = true)
    {act : Req → Ev → Ev × Reply} {p : Plant} {ns : List Notice} {r : Reply} {b : Bool}
    (ha : act (s.req f) s.ev = (⟨p, s.link.partTime, ns, b⟩, r)) :
    s.answerEv kind row (lengthFirst ok act) = s.answered f p ns r :=
  State.answerEv_eq h hr ((if_pos hl).trans ha)

/-! ## Taking the grant (R9) -/

/-- No isolation is non-terminal exactly when all are terminal. -/
theorem Ev.someNonTerminal_eq_false_iff (e : Ev) :
    e.someNonTerminal = false ↔ e.p.ctl.isos.all (fun x => x.2.state.terminal) = true := by
  simp [Ev.someNonTerminal]

theorem Ev.editBegin_eq_editMode {e : Ev} {q : Req} {mode : EditMode} (hr : q.rights.edit = true)
    (hm : coded editModeOf q.payload 0 = some mode) : e.editBegin q = e.editMode q.origin mode := by
  simp [Ev.editBegin, hr, hm]

/-- While someone holds the grant, EDIT_BEGIN is refused in either mode. -/
theorem Ev.editMode_of_held {e : Ev} {g : Grant} (h : e.p.net.grant = some g) (origin : Nat) (mode : EditMode) :
    e.editMode origin mode = (e, ⟨if g.holder = origin then .wrongState else .editHeld, []⟩) := by
  simp [Ev.editMode, h]

theorem Ev.editMode_links_of_active {e : Ev} (h : e.p.net.grant = none) (ha : e.p.net.state = .active) (origin : Nat) :
    e.editMode origin .links = ({ e with p.net.grant := some ⟨origin, .links⟩ }, okReply) := by
  simp [Ev.editMode, Ev.active, h, ha]

theorem Ev.editMode_links_of_not_active {e : Ev} (h : e.p.net.grant = none) (ha : e.p.net.state ≠ .active)
    (origin : Nat) : e.editMode origin .links = (e, ⟨.notActive, []⟩) := by
  simp [Ev.editMode, Ev.active, h, ha]

/-- EDIT_BEGIN FULL is taken outside CHECKING, and from ACTIVE with every isolation terminal. -/
theorem Ev.editMode_full {e : Ev} (h : e.p.net.grant = none) (hc : e.p.net.state ≠ .checking)
    (ht : e.p.net.state = .active → e.p.ctl.isos.all (fun x => x.2.state.terminal) = true) (origin : Nat) :
    e.editMode origin .full = (Ev.discardTable { e with p.net.grant := some ⟨origin, .full⟩ }, okReply) := by
  have hn : (e.active && e.someNonTerminal) = false := by
    by_cases ha : e.p.net.state = .active
    · simp [(e.someNonTerminal_eq_false_iff).2 (ht ha)]
    · simp [Ev.active, ha]
  simp [Ev.editMode, h, hc, hn]

/-! ## What a full load discards (R12, R51, R155, R192) -/

/-- The discard, block by block: record 0 closes only when the network was ACTIVE. -/
theorem Ev.discardTable_eq (e : Ev) :
    e.discardTable =
      { e with
        p.net := { e.p.net with
          state := .loading, load := none, nodes := [], links := [], pipes := [], controls := [], tags := []
          checkViews := [] }
        p.trace := { e.p.trace with running := none, pendingRecompute := false, applied := 0 }
        p.ctl := { e.p.ctl with orders := [] }
        p.led := if e.p.net.state = .active then e.closeRecordZero.p.led else e.p.led } := by
  by_cases ha : e.p.net.state = .active <;> simp [Ev.discardTable, Ev.active, ha, Ev.closeRecordZero]

/-! ## Ending the grant (R10, R11) -/

theorem Ev.editEnd_of_free {e : Ev} (h : e.p.net.grant = none) (q : Req) : e.editEnd q = (e, ⟨.wrongState, []⟩) := by
  simp [Ev.editEnd, h]

theorem Ev.editEnd_of_holder {e : Ev} {g : Grant} (h : e.p.net.grant = some g) {q : Req} (hq : g.holder = q.origin) :
    e.editEnd q = (e.releaseGrant g, okReply) := by
  simp [Ev.editEnd, h, hq]

theorem Ev.editEnd_of_other {e : Ev} {g : Grant} (h : e.p.net.grant = some g) {q : Req} (hq : g.holder ≠ q.origin) :
    e.editEnd q = (e, ⟨.editHeld, []⟩) := by
  simp [Ev.editEnd, h, hq]

theorem Ev.editRevoke_of_no_right {q : Req} (hr : ¬ q.rights.supervise = true) (e : Ev) :
    e.editRevoke q = (e, ⟨.noRight, []⟩) := by
  simp [Ev.editRevoke, hr]

theorem Ev.editRevoke_of_free {e : Ev} (h : e.p.net.grant = none) {q : Req} (hr : q.rights.supervise = true) :
    e.editRevoke q = (e, ⟨.notFound, []⟩) := by
  simp [Ev.editRevoke, h, hr]

theorem Ev.editRevoke_of_held {e : Ev} {g : Grant} (h : e.p.net.grant = some g) {q : Req}
    (hr : q.rights.supervise = true) : e.editRevoke q = (e.releaseGrant g, okReply) := by
  simp [Ev.editRevoke, h, hr]

/-- The Network Store once a grant is released: a FULL one takes the load with it (R10). -/
def NetworkStore.released (n : NetworkStore) (g : Grant) : NetworkStore :=
  match g.mode with
  | .links => { n with grant := none }
  | .full => { n with grant := none, state := .unloaded, nodes := [], links := [], load := none }

theorem Ev.releaseGrant_eq (e : Ev) (g : Grant) : e.releaseGrant g = { e with p.net := e.p.net.released g } := by
  obtain ⟨holder, mode⟩ := g
  cases mode <;> rfl

/-! ## The four rows -/

section Rows
variable {s : State} {f : Frame} {p : Plant} {r : Reply} {b : Bool}

theorem exec_editBeginLinks (h : s.handles f 0x01) (hp : f.payload = [0]) (hr : s.allows f .edit)
    (he : s.ev.editMode f.origin .links = (⟨p, s.link.partTime, [], b⟩, r)) :
    exec .editBeginLinks s = .next (s.answered f p [] r) := by
  have hm : coded editModeOf f.payload 0 = some .links := by rw [hp]; rfl
  exact congrArg _ (State.answerEv_lengthFirst h (by rw [hp]; rfl) (by rw [hp]; rfl)
    ((Ev.editBegin_eq_editMode hr hm).trans he))

theorem exec_editBeginFull (h : s.handles f 0x01) (hp : f.payload = [1]) (hr : s.allows f .edit)
    (he : s.ev.editMode f.origin .full = (⟨p, s.link.partTime, [], b⟩, r)) :
    exec .editBeginFull s = .next (s.answered f p [] r) := by
  have hm : coded editModeOf f.payload 0 = some .full := by rw [hp]; rfl
  exact congrArg _ (State.answerEv_lengthFirst h (by rw [hp]; rfl) (by rw [hp]; rfl)
    ((Ev.editBegin_eq_editMode hr hm).trans he))

theorem exec_editEnd (h : s.handles f 0x02) (hp : f.payload = [])
    (he : s.ev.editEnd (s.req f) = (⟨p, s.link.partTime, [], b⟩, r)) :
    exec .editEnd s = .next (s.answered f p [] r) :=
  congrArg _ (State.answerEv_lengthFirst h rfl (by rw [hp]; rfl) he)

theorem exec_editRevoke (h : s.handles f 0x03) (hp : f.payload = [])
    (he : s.ev.editRevoke (s.req f) = (⟨p, s.link.partTime, [], b⟩, r)) :
    exec .editRevoke s = .next (s.answered f p [] r) :=
  congrArg _ (State.answerEv_lengthFirst h rfl (by rw [hp]; rfl) he)

end Rows

/-- Settles O15, each clause by its request's row and the case of R9, R10, R11 or R12 that its hypotheses name. -/
theorem editGrants : Obligations.EditGrants := by
  unfold Obligations.EditGrants
  refine ⟨⟨?begin, ?free, ?held⟩, ?full⟩
  case begin =>
    intro s f h hp hr
    exact ⟨fun hg ha => exec_editBeginLinks h hp hr (Ev.editMode_links_of_active hg ha _),
      fun hg ha => exec_editBeginLinks h hp hr (Ev.editMode_links_of_not_active hg ha _),
      fun g hg => exec_editBeginLinks h hp hr (Ev.editMode_of_held hg _ _)⟩
  case free =>
    intro s f hp hg
    exact ⟨fun h => exec_editEnd h hp (Ev.editEnd_of_free hg _),
      fun h hr => exec_editRevoke h hp (Ev.editRevoke_of_free hg hr),
      fun h hr => exec_editRevoke h hp (Ev.editRevoke_of_no_right hr _)⟩
  case held =>
    intro s f g hp hg
    have released : (s.ev.releaseGrant g, okReply)
        = (Ev.start { s.plant with net := s.plant.net.released g } s.link.partTime [], okReply) :=
      congrArg (·, okReply) (s.ev.releaseGrant_eq g)
    exact ⟨fun h ho => exec_editEnd h hp ((Ev.editEnd_of_holder hg ho).trans released),
      fun h ho => exec_editEnd h hp (Ev.editEnd_of_other hg ho),
      fun h hr => exec_editRevoke h hp ((Ev.editRevoke_of_held hg hr).trans released),
      fun h hr => exec_editRevoke h hp (Ev.editRevoke_of_no_right hr _)⟩
  case full =>
    intro s f h hp hr hg hc ht
    exact exec_editBeginFull h hp hr
      ((Ev.editMode_full hg hc ht f.origin).trans (congrArg (·, okReply) (Ev.discardTable_eq _)))

end Sys2Proof.Machine
end

section
/-! The conversion of a sample (R63): what the rounded quotient is, for every dividend and divisor; what the ranges of
a station record bound; and O29 assembled from those. -/

namespace Sys2Proof.Machine

/-! ## The rounded quotient -/

theorem roundDiv_natCast (n d : Nat) : roundDiv n d = ((2 * n + d) / (2 * d) : Nat) := by
  simp [roundDiv]

/-- A quotient below one half rounds to zero; `roundDiv_neg` needs it where the two branches of `roundDiv` meet. -/
theorem roundDiv_zero (d : Nat) : roundDiv 0 d = 0 := by
  have below : d / (2 * d) = 0 := Nat.div_eq_zero_iff.mpr (by omega)
  simpa [below] using roundDiv_natCast 0 d

/-- Rounding away from zero treats both signs alike. -/
theorem roundDiv_neg (q : Int) (d : Nat) : roundDiv (-q) d = -roundDiv q d := by
  rcases lt_trichotomy q 0 with neg | rfl | pos
  · have hq : ¬ 0 ≤ q := by omega
    have hnq : 0 ≤ -q := by omega
    simp only [roundDiv, if_neg hq, if_pos hnq, neg_neg]
  · simp only [neg_zero, roundDiv_zero]
  · have hq : 0 ≤ q := by omega
    have hnq : ¬ 0 ≤ -q := by omega
    simp only [roundDiv, if_pos hq, if_neg hnq, neg_neg]

theorem roundDiv_nonneg {q : Int} (h : 0 ≤ q) (d : Nat) : 0 ≤ roundDiv q d := by
  lift q to Nat using h
  exact roundDiv_natCast q d ▸ Int.natCast_nonneg _

theorem roundDiv_nonpos {q : Int} (h : q ≤ 0) (d : Nat) : roundDiv q d ≤ 0 := by
  have mirrored := roundDiv_nonneg (Int.neg_nonneg_of_nonpos h) d
  rw [roundDiv_neg] at mirrored
  omega

theorem natAbs_roundDiv (q : Int) (d : Nat) : (roundDiv q d).natAbs = (2 * q.natAbs + d) / (2 * d) := by
  obtain ⟨n, rfl | rfl⟩ := q.eq_nat_or_neg
  · rw [roundDiv_natCast, Int.natAbs_natCast, Int.natAbs_natCast]
  · rw [roundDiv_neg, roundDiv_natCast, Int.natAbs_neg, Int.natAbs_neg, Int.natAbs_natCast, Int.natAbs_natCast]

/-- The rounded magnitude is at most half a divisor above the exact one. -/
theorem roundDiv_le_half_above (q : Int) (d : Nat) : 2 * (roundDiv q d).natAbs * d ≤ 2 * q.natAbs + d :=
  calc 2 * (roundDiv q d).natAbs * d
      = (2 * q.natAbs + d) / (2 * d) * (2 * d) := by rw [natAbs_roundDiv]; ring
    _ ≤ 2 * q.natAbs + d := Nat.div_mul_le_self _ _

/-- The rounded magnitude is less than half a divisor below the exact one: an exact half is never rounded down. -/
theorem roundDiv_lt_half_below (q : Int) {d : Nat} (hd : 0 < d) : 2 * q.natAbs < 2 * (roundDiv q d).natAbs * d + d := by
  have next : 2 * q.natAbs + d < 2 * (roundDiv q d).natAbs * d + d + d :=
    calc 2 * q.natAbs + d
        < (2 * q.natAbs + d) / (2 * d) * (2 * d) + 2 * d := Nat.lt_div_mul_add (by omega)
      _ = 2 * (roundDiv q d).natAbs * d + d + d := by rw [natAbs_roundDiv]; ring
  omega

/-! ## The ranges -/

theorem StationRec.scale_bounds {c : StationRec} (h : c.inRange = true) :
    c.zero ≤ 65535 ∧ c.num ≤ 16777215 ∧ 0 < c.den := by
  simp only [StationRec.inRange, Bool.and_eq_true, decide_eq_true_eq] at h
  omega

/-- A 16-bit reading, inverted or not, stays a 16-bit reading, so its difference from the zero is bounded (R63). -/
theorem inverted_sub_zero_bounds {raw z : Nat} (hraw : raw ≤ 65535) (hz : z ≤ 65535) (invert : Bool) :
    -65535 ≤ (if invert then 65535 - raw else raw : Int) - z
      ∧ (if invert then 65535 - raw else raw : Int) - z ≤ 65535 := by
  split <;> omega

theorem natAbs_mul_num_lt {d : Int} {num : Nat} (hd : -65535 ≤ d ∧ d ≤ 65535) (hnum : num ≤ 16777215) :
    (d * num).natAbs < 2 ^ 41 :=
  calc (d * num).natAbs
      = d.natAbs * num := by rw [Int.natAbs_mul, Int.natAbs_natCast]
    _ ≤ 65535 * 16777215 := Nat.mul_le_mul (by omega) hnum
    _ < 2 ^ 41 := by norm_num

/-! ## The conversion -/

theorem StationRt.convert_lastRaw (r : StationRt) (c : StationRec) (raw : Nat) : (r.convert c raw).lastRaw = raw := by
  unfold StationRt.convert
  dsimp only
  split <;> rfl

/-- Settles O29: the ranges come from the record's own, the rounding and the sign from those of `roundDiv`, by which
`scaleRaw` divides. -/
theorem sampleConversion : Obligations.SampleConversion := by
  unfold Obligations.SampleConversion
  intro c r raw hc hraw v d q p
  obtain ⟨hzero, hnum, hden⟩ := StationRec.scale_bounds hc
  have hd : -65535 ≤ d ∧ d ≤ 65535 := inverted_sub_zero_bounds hraw hzero c.invert
  have hp : p = roundDiv q c.den := rfl
  rw [hp]
  exact ⟨hd, natAbs_mul_num_lt hd hnum, roundDiv_le_half_above q c.den, roundDiv_lt_half_below q hden,
    fun h => roundDiv_nonneg (mul_nonneg h (Int.natCast_nonneg _)) _,
    fun h => roundDiv_nonpos (mul_nonpos_of_nonpos_of_nonneg h (Int.natCast_nonneg _)) _,
    r.convert_lastRaw c raw⟩

end Sys2Proof.Machine
end

section
/-! The invariant of the Control Link (`ControlLink.Inv`; R197 to R212): each operation of the link keeps it, said once
for each, and O54 assembled from those. -/

namespace Sys2Proof.Machine

-- One theorem after another: theorems checked side by side each hold a thread and its stack.
set_option Elab.async false

/-! ## The transmitter and the notice queue (R202 to R205) -/

section Transmitter
variable {l : ControlLink}

/-- `resyncCheck` restores the clause on the resync condition, which an entry leaving the queue can break (R203). -/
theorem ControlLink.Inv.resyncCheck (h : ({ l with resync := none } : ControlLink).Inv) (hs : l.sending ≠ none)
    (hd : ∀ r, l.resync = some r → 1 ≤ r.dropped ∧ r.dropped ≤ 65535) : l.resyncCheck.Inv := by
  unfold ControlLink.resyncCheck
  split
  · next hr => exact { h with resync := fun r hx => by simp [hr] at hx }
  · next r hr =>
    split
    · next room =>
      have full : l.notices.length + 1 ≤ Config.noticeQueue := by
        simp only [Config.resyncFree, Config.noticeQueue] at *; omega
      exact { h with
        notices := by simpa using full
        idle := fun he => absurd he hs
        resync := fun _ hx => by simp at hx }
    · next room => exact { h with resync := fun x hx => ⟨Nat.lt_of_not_le room, hd x hx⟩ }

/-- `pump` restores the one clause that speaks of an idle transmitter: what it is given need hold only as if it were busy. -/
theorem ControlLink.Inv.pump (h : ∀ x, ({ l with sending := some x } : ControlLink).Inv) : l.pump.Inv := by
  obtain ⟨busy, e⟩ | ⟨r, rest, -, hr, e⟩ | ⟨n, rest, -, hr, hn, e⟩ | ⟨hs, hr, hn, e⟩ := l.pump_cases <;> rw [e]
  · obtain ⟨x, hx⟩ := Option.isSome_iff_exists.mp busy
    simpa [← hx] using h x
  · have bound := (h r).replies
    simp only [hr, List.length_cons] at bound
    exact { h r with replies := by simp only; omega, idle := by simp }
  · have bound := (h n.frame).notices
    simp only [hn, List.length_cons] at bound
    refine ControlLink.Inv.resyncCheck (l := { l with sending := some n.frame, notices := rest }) ?_ (by simp)
      fun r hx => ((h n.frame).resync r hx).2
    exact { h n.frame with
      notices := by simp only; omega
      idle := by simp
      resync := by simp }
  · exact { h ⟨0, 0, []⟩ with idle := fun _ => ⟨hr, hn⟩ }

/-- No clause speaks of the counters (R209). -/
theorem ControlLink.Inv.count (h : l.Inv) (c : LinkCounters) : ({ l with counters := c } : ControlLink).Inv :=
  ⟨h.receiver, h.inbound, h.admitted, h.current, h.replies, h.notices, h.idle, h.resync, h.mask, h.rights, h.refusals,
    h.clock, h.boundary⟩

/-- The invariant holds all the more of a busy transmitter. -/
theorem ControlLink.Inv.busy (h : l.Inv) (x : OutFrame) : ({ l with sending := some x } : ControlLink).Inv :=
  { h with idle := by simp }

theorem ControlLink.Inv.queue (h : l.Inv) (n : Notice) : (l.queue n).Inv := by
  obtain ⟨-, e⟩ | ⟨r, -, hr, e⟩ | ⟨-, hr, full, e⟩ | ⟨-, hr, room, e⟩ := l.queue_cases n <;> rw [e]
  · exact h
  · have kept := h.resync r hr
    exact { h with resync := fun x hx => by obtain rfl := Option.some.inj hx; simp only; omega }
  · exact { h with
      resync := fun x hx => by
        obtain rfl := Option.some.inj hx
        simp only [Config.resyncFree, Config.noticeQueue] at *
        omega }
  · exact ControlLink.Inv.pump fun x =>
      { h.busy x with
        notices := by simpa using room
        resync := by simp [hr]
        idle := nofun }

theorem ControlLink.Inv.queues (h : l.Inv) (ns : List Notice) : (ns.foldl ControlLink.queue l).Inv := by
  induction ns generalizing l with
  | nil => exact h
  | cons n ns ih => exact ih (h.queue n)

end Transmitter

/-! ## Replies (R199 to R201, R211) -/

section Replies
variable {l : ControlLink}

theorem ControlLink.Inv.recordRefusal (h : l.Inv) (origin : Nat) (c : Status) : (l.recordRefusal origin c).Inv := by
  unfold ControlLink.recordRefusal
  split
  · exact { h with refusals := by simpa using h.refusals }
  · exact h

theorem ControlLink.Inv.replyAtOnce (h : l.Inv) (f : Frame) (c : Status) : (l.replyAtOnce f c).Inv := by
  unfold ControlLink.replyAtOnce
  split
  · next room =>
    exact ControlLink.Inv.pump fun x =>
      { h.busy x with
        replies := by simp only [List.length_append, List.length_singleton]; omega
        idle := nofun }
  · exact h.count _

/-- The reply of the current request takes the place that was kept for it (R201). -/
theorem ControlLink.Inv.finish (h : l.Inv) (hc : l.handling = true) (f : Frame) (r : Reply) : (l.finish f r).Inv := by
  have kept := h.recordRefusal f.origin r.status
  have place := h.replies
  simp only [hc, Bool.toNat_true] at place
  exact ControlLink.Inv.pump fun x => { kept.busy x with
    inbound := Nat.le_trans (by simp) kept.inbound
    admitted := fun g hg => kept.admitted g (List.mem_of_mem_tail hg)
    current := nofun
    replies := by simpa using place
    idle := nofun }

end Replies

/-! ## The receiver and admission (R198, R199) -/

section Receiver
variable {l : ControlLink}

theorem ControlLink.Inv.admitFrame (h : l.Inv) {f : Frame} (hf : f.payload.length ≤ Config.maxPayload) :
    (l.admitFrame f).Inv := by
  unfold ControlLink.admitFrame
  split
  · exact (h.count _).replyAtOnce f .badOrigin
  · next origin =>
    split
    · exact ((h.count _).recordRefusal f.origin .busy).replyAtOnce f .busy
    · next room =>
      exact { h with
        inbound := by simp only [List.length_append, List.length_singleton]; omega
        admitted := fun g hg => by
          obtain hg | rfl := by simpa using hg
          · exact h.admitted g hg
          · exact ⟨Nat.le_of_not_lt origin, hf⟩
        current := by simp }

theorem ControlLink.Inv.frameWhole (h : l.Inv) {len : Nat} (hl : len ≤ Config.maxPayload) (b : List Byte) :
    (l.frameWhole len b).Inv := by
  unfold ControlLink.frameWhole
  have hunting : ({ l with receiver := .hunting } : ControlLink).Inv := { h with receiver := trivial }
  dsimp only
  split
  · exact (hunting.count _).admitFrame (by simp only [bytesAt, List.length_take]; omega)
  · exact hunting.count _

theorem hunt_bounded (b : Byte) : (hunt b).bounded := by
  unfold hunt; split <;> simp [Receiver.bounded]

theorem rehunt_bounded (hi lo : Byte) : (rehunt hi lo).bounded := by
  unfold rehunt
  split
  · simp [Receiver.bounded]
  · exact hunt_bounded lo

theorem ControlLink.Inv.receive (h : l.Inv) (b : Byte) : (l.receive b).Inv := by
  unfold ControlLink.receive
  have held := h.receiver
  split
  · exact { h with receiver := hunt_bounded b }
  · exact { h with receiver := by simp [Receiver.bounded] }
  · dsimp only
    split
    · exact ({ h with receiver := rehunt_bounded _ _ } : ({ l with receiver := _ } : ControlLink).Inv).count _
    · next ok => exact { h with receiver := ⟨Nat.le_of_not_lt ok, by simp⟩ }
  · next len got hr =>
    rw [hr] at held
    obtain ⟨hlen, hgot⟩ := held
    dsimp only
    split
    · exact h.frameWhole hlen _
    · next more => exact { h with receiver := ⟨hlen, by simp only [List.length_cons] at more ⊢; omega⟩ }

end Receiver

/-! ## RESET LINK and the line break (R214, R215) -/

theorem ControlLink.passed_handling {l : ControlLink} (h : l.passed = true) : l.handling = true := by
  simp only [ControlLink.passed, Bool.and_eq_true] at h
  exact h.1

theorem ControlLink.Inv.resetLink {l : ControlLink} (h : l.Inv) : l.resetLink.Inv := by
  have place := h.replies
  unfold ControlLink.resetLink
  cases hp : l.passed with
  | true =>
    have hc := ControlLink.passed_handling hp
    simp only [hc, Bool.toNat_true] at place
    exact { h with
      receiver := trivial
      inbound := by simp only [if_true, List.length_take, Config.inboundFrames]; omega
      admitted := fun f hf => h.admitted f (List.mem_of_mem_take hf)
      current := fun _ => by simpa using h.current hc
      replies := place
      notices := by simp
      idle := fun hs => ⟨(h.idle hs).1, rfl⟩
      resync := by simp }
  | false =>
    exact { h with
      receiver := trivial
      inbound := by simp
      admitted := by simp
      current := by simp
      replies := by simp only [Bool.toNat_false]; omega
      notices := by simp
      idle := fun hs => ⟨(h.idle hs).1, rfl⟩
      resync := by simp }

/-! ## Events and requests -/

theorem State.event_link_inv {s : State} (h : s.link.Inv) (f : Ev → Ev) : (s.event f).link.Inv := h.queues _

theorem State.answer_link_inv {s : State} (h : s.link.Inv) (kind : Nat) (row : List Byte → Bool)
    {act : Req → State → State × Reply}
    (ha : ∀ q f, s.current? = some f → f.kind = kind → (act q s).1.link.Inv ∧ (act q s).1.link.handling = true) :
    (s.answer kind row act).link.Inv := by
  unfold State.answer
  split
  · exact h
  · next f hf =>
    split
    · next taken =>
      simp only [Bool.and_eq_true, decide_eq_true_eq] at taken
      obtain ⟨inv, handling⟩ := ha (s.req f) f hf taken.1
      exact inv.finish handling _ _
    · exact h

theorem State.handling_of_current {s : State} {f : Frame} (h : s.current? = some f) : s.link.handling = true := by
  by_contra hc
  simp [State.current?, hc] at h

theorem State.answerEv_link_inv {s : State} (h : s.link.Inv) (kind : Nat) (row : List Byte → Bool)
    (act : Req → Ev → Ev × Reply) : (s.answerEv kind row act).link.Inv := by
  unfold State.answerEv
  refine State.answer_link_inv h kind row fun q f hf _ => ?_
  dsimp only
  exact ⟨State.event_link_inv h _, (s.event_handling _).trans (State.handling_of_current hf)⟩

/-- A test of the payload's length before the owner's step does not weaken what the step is known to do. -/
theorem lengthFirst_cases {α : Type} {P : α × Reply → Prop} {ok : List Byte → Bool} {act : Req → α → α × Reply} {q : Req}
    {x : α} (short : P (x, ⟨.badLength, []⟩)) (taken : P (act q x)) : P (lengthFirst ok act q x) := by
  unfold lengthFirst
  split
  · exact taken
  · exact short

/-! ## Part time (R188, R212) -/

/-- The events a second takes when it ends. -/
inductive TimerEvent : (Ev → Ev) → Prop
  | minute : TimerEvent Ev.minute
  | staleness (k : Nat) : TimerEvent fun e => e.stalenessExpiry k
  | deadline (k : Nat) : TimerEvent fun e => e.deadlineExpiry k
  | verify (k : Nat) : TimerEvent fun e => e.verifyExpiry k
  | overdue (k : Nat) : TimerEvent fun e => e.orderOverdue k
  | rampStart (k : Nat) : TimerEvent fun e => e.rampStartExpiry k

section Due
variable {P : State → Prop}

theorem State.expire_induction {f : Nat → Ev → Ev} (step : ∀ s k, P s → P (s.event (f k))) {s : State} (h : P s)
    (keys : List Nat) : P (s.expire keys f) := by
  induction keys generalizing s with
  | nil => exact h
  | cons k ks ih => exact ih (step s k h)

theorem State.takeMinute_induction (lower : ∀ s, P s → P { s with link.boundaryDue := false })
    (step : ∀ s, P s → P (s.event Ev.minute)) {s : State} (h : P s) : P s.takeMinute := by
  unfold State.takeMinute
  split
  · exact step _ (lower _ h)
  · exact h

/-- What the boundary flag falling and every timer's event keep, the end of a second keeps (R212). -/
theorem State.takeDue_induction (lower : ∀ s, P s → P { s with link.boundaryDue := false })
    (step : ∀ s f, TimerEvent f → P s → P (s.event f)) {s : State} (h : P s) : P s.takeDue := by
  have minute := State.takeMinute_induction lower (fun s => step s _ .minute) h
  have staleness := State.expire_induction (fun s k => step s _ (.staleness k)) minute
  have deadline := fun ks => State.expire_induction (fun s k => step s _ (.deadline k)) (staleness ks)
  have verify := fun ks ks' => State.expire_induction (fun s k => step s _ (.verify k)) (deadline ks ks')
  have overdue := fun ks ks' ks'' => State.expire_induction (fun s k => step s _ (.overdue k)) (verify ks ks' ks'')
  exact State.expire_induction (fun s k => step s _ (.rampStart k)) (overdue _ _ _ _) _

end Due

theorem State.takeDue_link_inv {s : State} (h : s.link.Inv) : s.takeDue.link.Inv :=
  State.takeDue_induction (P := fun s => s.link.Inv) (fun _ h => { h with boundary := nofun })
    (fun _ f _ h => State.event_link_inv h f) h

@[simp] theorem State.takeDue_partTime (s : State) : s.takeDue.link.partTime = s.link.partTime :=
  State.takeDue_induction (P := fun t => t.link.partTime = s.link.partTime) (fun _ h => h)
    (fun t f _ h => (t.event_partTime f).trans h) rfl

@[simp] theorem State.takeDue_clockEnded (s : State) : s.takeDue.link.clockEnded = s.link.clockEnded :=
  State.takeDue_induction (P := fun t => t.link.clockEnded = s.link.clockEnded) (fun _ h => h)
    (fun t f _ h => (t.event_clockEnded f).trans h) rfl

/-- PART_TIME_TICK: the clock has ended, or ends, or advances (R212). -/
theorem execPartTimeTick_cases (s : State) :
    (s.link.clockEnded = true ∧ execPartTimeTick s = .next s)
    ∨ (s.link.clockEnded = false ∧ s.link.partTime = max32
        ∧ execPartTimeTick s = .next { s.takeDue with link.clockEnded := true })
    ∨ (s.link.clockEnded = false ∧ s.link.partTime ≠ max32
        ∧ execPartTimeTick s = .next { s.takeDue with
            link.partTime := s.link.partTime + 1, link.boundaryDue := (s.link.partTime + 1) % 60 = 0 }) := by
  have time := s.takeDue_partTime
  unfold execPartTimeTick
  generalize s.takeDue = d at *
  cases hc : s.link.clockEnded with
  | true => simp
  | false => by_cases hp : s.link.partTime = max32 <;> simp [time, hp]

theorem State.tick_link_inv {s t : State} (h : s.link.Inv) (e : execPartTimeTick s = .next t) : t.link.Inv := by
  have due := State.takeDue_link_inv h
  have time := s.takeDue_partTime
  have running := s.takeDue_clockEnded
  have cases := execPartTimeTick_cases s
  generalize s.takeDue = d at *
  obtain ⟨-, he⟩ | ⟨-, last, he⟩ | ⟨hr, later, he⟩ := cases <;> rw [he] at e <;> cases e
  · exact h
  · exact { due with clock := ⟨due.clock.1, fun _ => time.trans last⟩ }
  · have bound := h.clock.1
    exact { due with
      clock := ⟨by simp only [max32] at *; omega, fun ended => by simp [running, hr] at ended⟩
      boundary := by simp }

/-! ## The commands -/

theorem State.status_link_inv {s : State} (h : s.link.Inv) (q : Req) : (s.status q).1.link.Inv :=
  { h with refusals := by simpa [State.status] using h.refusals }

end Sys2Proof.Machine
end

section
/-! The commands by who decides them: a block behind the link on a request, a block when a timer or a job ends, or the
Control Link alone. Rules of the whole part are proved along these three, so that no proof walks through 66 arms. -/

namespace Sys2Proof.Machine

-- One theorem after another: theorems checked side by side each hold a thread and its stack.
set_option Elab.async false

/-- A request's row at a block: the kind and the row that `answerEv` tests, and the block's step. -/
structure BlockRow where
  kind : Nat
  row : List Byte → Bool
  act : Req → Ev → Ev × Reply

/-- A right is tested before the isolation a request names is looked for (R112). -/
def onNamedWith (right : Rights → Bool) (act : Ev → Nat → Isolation → Ev × Reply) (q : Req) (e : Ev) : Ev × Reply :=
  if !right q.rights then (e, ⟨.noRight, []⟩) else e.onNamed q.payload (act e)

/-- The row of a request that a block decides; none for the other commands. -/
def blockRow : Instr → Option BlockRow
  | .editBeginLinks => some ⟨0x01, modeRow 0, lengthFirst (fun p => p.length = 1) fun q e => e.editBegin q⟩
  | .editBeginFull => some ⟨0x01, modeRow 1, lengthFirst (fun p => p.length = 1) fun q e => e.editBegin q⟩
  | .editEnd => some ⟨0x02, wholeKind, lengthFirst (fun p => p.length = 0) fun q e => e.editEnd q⟩
  | .editRevoke => some ⟨0x03, wholeKind, lengthFirst (fun p => p.length = 0) fun q e => e.editRevoke q⟩
  | .tableBegin => some ⟨0x04, wholeKind, lengthFirst (fun p => p.length = 4) fun q e => e.tableBegin q⟩
  | .tableBlock => some ⟨0x05, wholeKind, fun q e => e.tableBlock q⟩
  | .linkEditCreate => some ⟨0x06, editRow 0, lengthFirst (editLengthOk 16) fun q e => e.linkEdit q⟩
  | .linkEditChange => some ⟨0x06, editRow 1, lengthFirst (editLengthOk 16) fun q e => e.linkEdit q⟩
  | .linkEditRemove => some ⟨0x06, editRow 2, lengthFirst (editLengthOk 16) fun q e => e.linkEdit q⟩
  | .nodeEditCreate => some ⟨0x07, editRow 0, lengthFirst (editLengthOk 4) fun q e => e.nodeEdit q⟩
  | .nodeEditChange => some ⟨0x07, editRow 1, lengthFirst (editLengthOk 4) fun q e => e.nodeEdit q⟩
  | .nodeEditRemove => some ⟨0x07, editRow 2, lengthFirst (editLengthOk 4) fun q e => e.nodeEdit q⟩
  | .tagSet => some ⟨0x08, wholeKind, lengthFirst refLengthOk fun q e => e.tagSet q⟩
  | .tagClear => some ⟨0x09, wholeKind, lengthFirst (fun p => p.length = 2) fun q e => e.tagClear q⟩
  | .locatorSet => some ⟨0x0A, wholeKind, lengthFirst locatorLengthOk fun q e => e.locatorSet q⟩
  | .stationSetDefine => some ⟨0x0B, stationRow 0, lengthFirst stationSetLengthOk fun q e => e.stationSet q⟩
  | .stationSetRemove => some ⟨0x0B, stationRow 1, lengthFirst stationSetLengthOk fun q e => e.stationSet q⟩
  | .stationRead => some ⟨0x0C, readRow false, lengthFirst refLengthOk fun q e => e.stationRead q false⟩
  | .stationReadClear => some ⟨0x0C, readRow true, lengthFirst refLengthOk fun q e => e.stationRead q true⟩
  | .telemetry => some ⟨0x0D, wholeKind, fun q e => e.telemetry q⟩
  | .call => some ⟨0x0E, wholeKind, fun q e => e.call q⟩
  | .incidentUpdate => some ⟨0x0F, wholeKind, fun q e => e.incidentUpdate q⟩
  | .isolate => some ⟨0x10, wholeKind, fun q e => e.isolate q⟩
  | .authorise => some ⟨0x11, wholeKind, fun q e => e.authorise q⟩
  | .cancel => some ⟨0x12, wholeKind, lengthFirst refLengthOk (onNamedWith (·.operate) Ev.cancelNamed)⟩
  | .accept => some ⟨0x13, wholeKind, lengthFirst refLengthOk (onNamedWith (·.authorise) Ev.acceptNamed)⟩
  | .isolationRelease => some ⟨0x14, wholeKind, lengthFirst refLengthOk (onNamedWith (·.operate) Ev.releaseNamed)⟩
  | .isolationRead => some ⟨0x15, wholeKind, lengthFirst (fun p => p.length = 6) fun q e =>
      e.onNamed q.payload fun _ i => (e, readPart i q.payload)⟩
  | .valveReportAccept => some ⟨0x16, reportRow 0, fun q e => e.orderReport q e.reportAccept⟩
  | .valveReportOperated => some ⟨0x16, reportRow 1, fun q e => e.orderReport q e.reportOperated⟩
  | .valveReportCannotOperate => some ⟨0x16, reportRow 2, fun q e => e.orderReport q e.reportCannotOperate⟩
  | .valveReportFound => some ⟨0x16, reportRow 3, fun q e => e.valveReport q (e.reportFound q.payload)⟩
  | .restore => some ⟨0x17, wholeKind, fun q e => e.restore q⟩
  | .rampResume => some ⟨0x18, wholeKind, lengthFirst refLengthOk (onNamedWith (·.operate) Ev.resumeNamed)⟩
  | .reclose => some ⟨0x19, wholeKind, lengthFirst refLengthOk (onNamedWith (·.operate) Ev.recloseNamed)⟩
  | .relightReport => some ⟨0x1A, wholeKind, fun q e => e.relightReport q⟩
  | .closeOut => some ⟨0x1B, wholeKind, lengthFirst refLengthOk (onNamedWith (·.authorise) Ev.closeOutNamed)⟩
  | .outageRelease => some ⟨0x1C, wholeKind, fun q e => e.outageRelease q⟩
  | .weightsSet => some ⟨0x1D, wholeKind, fun q e => e.weightsSet q⟩
  | .settingsSet => some ⟨0x23, wholeKind, fun q e => e.settingsSet q⟩
  | .resetOperations => some ⟨0x25, resetRow 0, lengthFirst (fun p => p.length = 1) fun q e => e.reset q⟩
  | _ => none

/-- The event at the blocks of a timer's expiry or a job's completion; none for the other commands. -/
def blockEvent : Instr → Option (Ev → Ev)
  | .tableCheckComplete => some Ev.checkComplete
  | .stalenessExpiry k => some fun e => e.stalenessExpiry k
  | .incidentDeadlineExpiry k => some fun e => e.deadlineExpiry k
  | .traceCompletion => some Ev.traceCompletion
  | .recomputeCompletion => some Ev.recomputeCompletion
  | .verifyTimerExpiry k => some fun e => e.verifyExpiry k
  | .orderOverdue k => some fun e => e.orderOverdue k
  | .rampStartTimerExpiry k => some fun e => e.rampStartExpiry k
  | _ => none

/-- The requests that the Control Link decides, with what each writes. -/
def linkRow : Instr → Option (Req → State → State × Reply)
  | .list => some (lengthFirst (fun p => p.length = 5) fun q s => (s, s.plant.list q.payload))
  | .status => some (lengthFirst (fun p => p.length = 0) State.status)
  | .rightsSet => some (lengthFirst (fun p => p.length = 2) State.rightsSet)
  | .noticeMask => some (lengthFirst (fun p => p.length = 4) State.noticeMask)
  | .timeSet => some (lengthFirst (fun p => p.length = 8) State.timeSet)
  | .settingsRead => some (lengthFirst (fun p => p.length = 1) State.settingsRead)
  | .resetLink => some (lengthFirst (fun p => p.length = 1) State.resetLink)
  | _ => none

theorem exec_of_blockRow {c : Instr} {r : BlockRow} (h : blockRow c = some r) (s : State) :
    exec c s = .next (s.answerEv r.kind r.row r.act) := by
  cases c <;> cases h <;> rfl

/-- A timer that is not due and a job that does not run leave the state as it is [1]. -/
theorem exec_of_blockEvent {c : Instr} {f : Ev → Ev} (h : blockEvent c = some f) (s : State) :
    exec c s = .next s ∨ exec c s = .next (s.event f) := by
  have next_ite (p : Prop) [Decidable p] (a b : State) :
      (.next (if p then a else b) : Result) = .next a ∨ (.next (if p then a else b) : Result) = .next b := by
    by_cases hp : p <;> simp [hp]
  have done_of_timer := next_ite (s.link.clockEnded = true) s (s.event f)
  cases c <;> cases h
  case tableCheckComplete => exact (next_ite _ _ _).symm
  case traceCompletion =>
    change execTraceCompletion s = _ ∨ execTraceCompletion s = _
    unfold execTraceCompletion
    split
    · exact .inr rfl
    · exact .inl rfl
  case recomputeCompletion =>
    change execRecomputeCompletion s = _ ∨ execRecomputeCompletion s = _
    unfold execRecomputeCompletion
    split
    · exact .inr rfl
    · exact .inl rfl
  all_goals exact done_of_timer

theorem exec_of_linkRow {c : Instr} {act : Req → State → State × Reply} (h : linkRow c = some act) (s : State) :
    ∃ kind row, isRequestKind kind = true ∧ exec c s = .next (s.answer kind row act) := by
  cases c <;> cases h <;> exact ⟨_, _, rfl, rfl⟩

/-- The current request of the link, once it has been handed to its owner (R200). -/
def ControlLink.current? (l : ControlLink) : Option Frame := if l.handling then l.inbound.head? else none

/-- What the commands that no block and no request takes part in make of the link; none for the other commands. -/
def linkEvent : Instr → Option (ControlLink → ControlLink)
  | .frameReceived bytes => some fun l => if l.lineLow then l else bytes.foldl (fun l b => l.receive (lineValue b)) l
  | .gapAbort => some fun l =>
      match l.receiver with
      | .hunting => l
      | .header _ | .body .. => { l with receiver := .hunting, counters := { l.counters with gaps := l.counters.gaps + 1 } }
  | .lineBreak => some fun l =>
      if l.lineLow then l
      else { l.resetLink with lineLow := true, counters := { l.counters with breaks := l.counters.breaks + 1 } }
  | .requestDispatch => some fun l =>
      if !l.handling && !l.inbound.isEmpty && l.replies.length < Config.replyBuffer then { l with handling := true } else l
  | .unknownKind => some fun l =>
      match l.current? with
      | none => l
      | some f => if isRequestKind f.kind then l else l.finish f ⟨.unknownKind, []⟩
  | .transmitComplete => some fun l =>
      match l.sending with
      | none => l
      | some _ => ({ l with sending := none } : ControlLink).pump
  | .lineReturnsHigh => some fun l => { l with lineLow := false }
  | _ => none

theorem exec_of_linkEvent {c : Instr} {f : ControlLink → ControlLink} (h : linkEvent c = some f) (s : State) :
    exec c s = .next { s with link := f s.link } := by
  cases c <;> cases h
  case frameReceived bytes =>
    change execFrameReceived bytes s = _
    by_cases low : s.link.lineLow = true <;> simp [execFrameReceived, low]
  case gapAbort =>
    change execGapAbort s = _
    cases hr : s.link.receiver <;> simp [execGapAbort, hr]
  case lineBreak =>
    change execLineBreak s = _
    by_cases low : s.link.lineLow = true <;> simp [execLineBreak, low]
  case requestDispatch =>
    change execRequestDispatch s = _
    by_cases free : (!s.link.handling && !s.link.inbound.isEmpty && s.link.replies.length < Config.replyBuffer) = true
    · simp only [execRequestDispatch, if_pos free]
    · simp only [execRequestDispatch, if_neg free]
  case unknownKind =>
    change execUnknownKind s = _
    cases hc : s.link.current? with
    | none => simp [execUnknownKind, show s.current? = none from hc, hc]
    | some f => cases hk : isRequestKind f.kind <;> simp [execUnknownKind, show s.current? = some f from hc, hc, hk]
  case transmitComplete =>
    change execTransmitComplete s = _
    cases hs : s.link.sending <;> simp [execTransmitComplete, hs]
  case lineReturnsHigh => rfl

/-- Every command is a request of a block, an event of a block, a request of the link, an event of the link, or POWER_ON
or one of the two of the clock. -/
theorem instr_cases (c : Instr) :
    (∃ r, blockRow c = some r) ∨ (∃ f, blockEvent c = some f) ∨ (∃ act, linkRow c = some act)
    ∨ (∃ f, linkEvent c = some f) ∨ (∃ strap, c = .powerOn strap) ∨ c = .partTimeTick ∨ c = .minuteBoundary := by
  cases c <;> simp [blockRow, blockEvent, linkRow, linkEvent]

end Sys2Proof.Machine
end

section
/-! Rules of the whole part that need nothing of what the blocks do: how a step runs, what reaches the blocks at all, the
invariant of the Control Link over every command, and its settings. -/

namespace Sys2Proof.Machine

-- One theorem after another: theorems checked side by side each hold a thread and its stack.
set_option Elab.async false

/-! ## A step -/

theorem step_nil {s : State} (h : s.pending = []) : step s = .next s := by
  unfold step
  rw [h]

theorem step_cons {s : State} {c : Instr} {rest : List Instr} (h : s.pending = c :: rest) :
    step s = exec c { s with pending := rest } := by
  unfold step
  rw [h]

/-- A step idles, or runs one command on the state with the queue's rest. -/
theorem step_cases {s t : State} (h : step s = .next t) :
    t = s ∨ ∃ c rest, exec c { s with pending := rest } = .next t := by
  cases hp : s.pending with
  | nil => exact .inl (Host.Outcome.next.inj ((step_nil hp).symm.trans h)).symm
  | cons c rest => exact .inr ⟨c, rest, (step_cons hp).symm.trans h⟩

/-! ## What reaches the blocks -/

/-- What a command may ask of the blocks: an event of its own, or its request, or a timer's event at the end of a second. -/
inductive BlockStep (c : Instr) : (Ev → Ev) → Prop
  | timer {f : Ev → Ev} : c = .partTimeTick ∨ c = .minuteBoundary → TimerEvent f → BlockStep c f
  | event {f : Ev → Ev} : blockEvent c = some f → BlockStep c f
  | request {r : BlockRow} (q : Req) : blockRow c = some r → BlockStep c fun e => (r.act q e).1

theorem State.answer_plant_of_act {s : State} {kind : Nat} {row : List Byte → Bool} {act : Req → State → State × Reply}
    {P : Plant → Prop} (h : P s.plant) (ha : ∀ q, P (act q s).1.plant) : P (s.answer kind row act).plant := by
  unfold State.answer
  split
  · exact h
  · split
    · exact ha _
    · exact h

theorem State.answerEv_plant_of_act {s : State} {kind : Nat} {row : List Byte → Bool} {act : Req → Ev → Ev × Reply}
    {P : Plant → Prop} (h : P s.plant) (ha : ∀ q, P (s.event fun e => (act q e).1).plant) :
    P (s.answerEv kind row act).plant :=
  State.answer_plant_of_act h ha

theorem State.takeMinute_plant {P : Plant → Prop} {s : State} (h : P s.plant)
    (step : ∀ (s : State) f, TimerEvent f → P s.plant → P (s.event f).plant) : P s.takeMinute.plant :=
  State.takeMinute_induction (P := fun s => P s.plant) (fun _ h => h) (fun s => step s _ .minute) h

theorem State.takeDue_plant {P : Plant → Prop} {s : State} (h : P s.plant)
    (step : ∀ (s : State) f, TimerEvent f → P s.plant → P (s.event f).plant) : P s.takeDue.plant :=
  State.takeDue_induction (P := fun s => P s.plant) (fun _ h => h) step h

theorem State.tick_plant {P : Plant → Prop} {s t : State} (h : P s.plant)
    (step : ∀ (s : State) f, TimerEvent f → P s.plant → P (s.event f).plant) (e : execPartTimeTick s = .next t) :
    P t.plant := by
  have due := State.takeDue_plant h step
  have cases := execPartTimeTick_cases s
  generalize s.takeDue = d at *
  obtain ⟨-, he⟩ | ⟨-, -, he⟩ | ⟨-, -, he⟩ := cases <;> rw [he] at e <;> cases e
  · exact h
  · exact due
  · exact due

theorem linkRow_plant {c : Instr} {act : Req → State → State × Reply} (h : linkRow c = some act) (q : Req) (s : State) :
    (act q s).1.plant = s.plant := by
  cases c <;> cases h <;>
    refine lengthFirst_cases (P := fun x : State × Reply => x.1.plant = s.plant) rfl ?_
  case list => rfl
  case status => rfl
  case rightsSet => unfold State.rightsSet; dsimp only; split <;> (try split) <;> (try split) <;> rfl
  case noticeMask => unfold State.noticeMask; split <;> rfl
  case timeSet => unfold State.timeSet; split <;> rfl
  case settingsRead => unfold State.settingsRead; split <;> rfl
  case resetLink => unfold State.resetLink; split <;> (try split) <;> rfl

/-- The blocks change by events alone, but for POWER_ON: what each event a command may ask for keeps, the command keeps. -/
theorem exec_plant {P : Plant → Prop} {c : Instr} {s t : State} (h : exec c s = .next t) (hp : P s.plant)
    (power : ∀ strap, c = .powerOn strap → P { draws := s.plant.draws })
    (step : ∀ (s : State) f, BlockStep c f → P s.plant → P (s.event f).plant) : P t.plant := by
  obtain ⟨r, hr⟩ | ⟨f, hf⟩ | ⟨act, ha⟩ | ⟨f, hf⟩ | ⟨strap, hc⟩ | hc | hc := instr_cases c
  · obtain rfl := Host.Outcome.next.inj ((exec_of_blockRow hr s).symm.trans h)
    exact State.answerEv_plant_of_act hp fun q => step s (fun e => (r.act q e).1) (.request q hr) hp
  · obtain he | he := exec_of_blockEvent hf s <;> obtain rfl := Host.Outcome.next.inj (he.symm.trans h)
    · exact hp
    · exact step s f (.event hf) hp
  · obtain ⟨kind, row, -, he⟩ := exec_of_linkRow ha s
    obtain rfl := Host.Outcome.next.inj (he.symm.trans h)
    exact State.answer_plant_of_act hp fun q => linkRow_plant ha q s ▸ hp
  · obtain rfl := Host.Outcome.next.inj ((exec_of_linkEvent hf s).symm.trans h)
    exact hp
  · subst hc
    obtain rfl := Host.Outcome.next.inj h
    exact power strap rfl
  · subst hc
    exact State.tick_plant hp (fun s f ht => step s f (.timer (.inl rfl) ht)) h
  · subst hc
    obtain rfl := Host.Outcome.next.inj h
    exact State.takeMinute_plant hp fun s f ht => step s f (.timer (.inr rfl) ht)

/-- What every event a command may ask for keeps, and power-on gives, every step keeps. -/
theorem step_plant {P : Plant → Prop} (power : ∀ d, P { draws := d })
    (event : ∀ c s f, BlockStep c f → P s.plant → P (State.event s f).plant) {s t : State} (hp : P s.plant)
    (h : step s = .next t) : P t.plant := by
  obtain rfl | ⟨c, rest, he⟩ := step_cases h
  · exact hp
  · exact exec_plant he hp (fun _ _ => power _) (event c)

end Sys2Proof.Machine
end

section
/-! The Control Link over every command: its invariant (O54), what it keeps (O58); and the rules of the whole part that
no block's operation takes part in (O1, O53, O57). -/

namespace Sys2Proof.Machine

-- One theorem after another: theorems checked side by side each hold a thread and its stack.
set_option Elab.async false

/-! ## Events of the link and POWER_ON keep its invariant -/

theorem ControlLink.Inv.lineBreak {l : ControlLink} (h : l.Inv) :
    ({ l.resetLink with lineLow := true, counters := { l.counters with breaks := l.counters.breaks + 1 } } : ControlLink).Inv :=
  have reset := h.resetLink
  { reset with }

theorem ControlLink.current?_handling {l : ControlLink} {f : Frame} (h : l.current? = some f) : l.handling = true := by
  by_contra hc
  simp [ControlLink.current?, hc] at h

theorem linkEvent_inv {c : Instr} {f : ControlLink → ControlLink} (hf : linkEvent c = some f) {l : ControlLink} (h : l.Inv) :
    (f l).Inv := by
  cases c <;> cases hf
  case frameReceived bytes =>
    dsimp only
    split
    · exact h
    · exact List.foldlRecOn bytes _ h fun l h b _ => h.receive (lineValue b)
  case gapAbort =>
    dsimp only
    split
    · exact h
    · exact ({ h with receiver := trivial } : ({ l with receiver := .hunting } : ControlLink).Inv).count _
    · exact ({ h with receiver := trivial } : ({ l with receiver := .hunting } : ControlLink).Inv).count _
  case lineBreak =>
    dsimp only
    split
    · exact h
    · exact h.lineBreak
  case requestDispatch =>
    dsimp only
    split
    · next free =>
      simp only [Bool.and_eq_true, Bool.not_eq_true', decide_eq_true_eq, List.isEmpty_eq_false_iff] at free
      obtain ⟨⟨-, waits⟩, room⟩ := free
      exact { h with current := fun _ => waits, replies := by simpa using room }
    · exact h
  case unknownKind =>
    dsimp only
    split
    · exact h
    · next f hf =>
      split
      · exact h
      · exact h.finish (ControlLink.current?_handling hf) _ _
  case transmitComplete =>
    dsimp only
    split
    · exact h
    · exact ControlLink.Inv.pump fun x => h.busy x
  case lineReturnsHigh => exact { h with }

theorem linkPowerOn_inv (strap : Strap) : (linkPowerOn strap).Inv where
  receiver := trivial
  inbound := Nat.zero_le _
  admitted := nofun
  current := nofun
  replies := Nat.zero_le _
  notices := Nat.zero_le _
  idle := fun _ => ⟨rfl, rfl⟩
  resync := nofun
  mask := by cases strap <;> decide
  rights := by cases strap <;> decide
  refusals := by cases strap <;> decide
  clock := ⟨Nat.zero_le _, nofun⟩
  boundary := nofun

/-! ## Requests of the link keep its invariant -/

theorem maskOf_resync (p : List Byte) : (maskOf p).getLsbD 19 = true := by
  simp only [maskOf, BitVec.getLsbD_or, show (0x00080000#32).getLsbD 19 = true by decide, Bool.or_true]

theorem linkRow_inv {c : Instr} {act : Req → State → State × Reply} (ha : linkRow c = some act) (q : Req) {s : State}
    (h : s.link.Inv) (passed : s.link.passed = true) :
    (act q s).1.link.Inv ∧ (act q s).1.link.handling = true := by
  have hc := ControlLink.passed_handling passed
  have kept : s.link.Inv ∧ s.link.handling = true := ⟨h, hc⟩
  cases c <;> cases ha <;>
    refine lengthFirst_cases (P := fun x : State × Reply => x.1.link.Inv ∧ x.1.link.handling = true) kept ?_
  case list => exact kept
  case status => exact ⟨State.status_link_inv h q, hc⟩
  case rightsSet =>
    unfold State.rightsSet
    dsimp only
    split
    · exact kept
    · split
      · exact kept
      · split
        · exact kept
        · next ok =>
          simp only [Bool.or_eq_true, decide_eq_true_eq, Bool.not_eq_true', not_or, Bool.not_eq_false] at ok
          exact ⟨{ h with rights := ⟨by simpa using h.rights.1, ok.2⟩ }, hc⟩
  case noticeMask =>
    unfold State.noticeMask
    split
    · exact kept
    · exact ⟨{ h with mask := maskOf_resync q.payload }, hc⟩
  case timeSet =>
    unfold State.timeSet
    split
    · exact kept
    · exact ⟨{ h with }, hc⟩
  case settingsRead =>
    unfold State.settingsRead
    split <;> exact kept
  case resetLink =>
    unfold State.resetLink
    split
    · exact kept
    · split
      · exact kept
      · exact ⟨h.resetLink, passed⟩

/-- A RESET is a request kind, so the one that is handled has an owner (R214, R217). -/
theorem ControlLink.passed_of_kind {s : State} {f : Frame} (h : s.current? = some f) (hk : isRequestKind f.kind = true) :
    s.link.passed = true := by
  have hc : s.link.handling = true := ControlLink.current?_handling (l := s.link) h
  simp only [State.current?, hc, if_true] at h
  simp [ControlLink.passed, hc, h, hk]

/-- Every command keeps the invariant of the Control Link. -/
theorem exec_link_inv {c : Instr} {s t : State} (e : exec c s = .next t) (h : s.link.Inv) : t.link.Inv := by
  obtain ⟨r, hr⟩ | ⟨f, hf⟩ | ⟨act, ha⟩ | ⟨f, hf⟩ | ⟨strap, hc⟩ | hc | hc := instr_cases c
  · obtain rfl := Host.Outcome.next.inj ((exec_of_blockRow hr s).symm.trans e)
    exact State.answerEv_link_inv h _ _ _
  · obtain he | he := exec_of_blockEvent hf s <;> obtain rfl := Host.Outcome.next.inj (he.symm.trans e)
    · exact h
    · exact State.event_link_inv h f
  · obtain ⟨kind, row, hk, he⟩ := exec_of_linkRow ha s
    obtain rfl := Host.Outcome.next.inj (he.symm.trans e)
    exact State.answer_link_inv h _ _ fun q f hf hfk =>
      linkRow_inv ha q h (ControlLink.passed_of_kind hf (hfk ▸ hk))
  · obtain rfl := Host.Outcome.next.inj ((exec_of_linkEvent hf s).symm.trans e)
    exact linkEvent_inv hf h
  · subst hc
    obtain rfl := Host.Outcome.next.inj e
    exact linkPowerOn_inv strap
  · subst hc
    exact State.tick_link_inv h e
  · subst hc
    obtain rfl := Host.Outcome.next.inj e
    exact State.takeMinute_induction (P := fun s => s.link.Inv) (fun _ h => { h with boundary := nofun })
      (fun s h => State.event_link_inv h _) h

/-- Settles O54: the queue's rest is no part of the link, and every command keeps its invariant. -/
theorem linkInvariantKept : Obligations.LinkInvariantKept := by
  unfold Obligations.LinkInvariantKept
  intro s t h e
  obtain rfl | ⟨c, rest, he⟩ := step_cases e
  · exact h
  · exact exec_link_inv he h

/-! ## What the Control Link keeps (R204, R210, R212) -/

/-- `t` has the settings of `s`, but for the one that the command is there to write, and its commands that wait. -/
structure State.Keeps (c : Instr) (s t : State) : Prop where
  rate : t.link.rate = s.link.rate
  rights : c ≠ .rightsSet → t.link.rights = s.link.rights
  mask : c ≠ .noticeMask → t.link.mask = s.link.mask
  wallOffset : c ≠ .timeSet → t.link.wallOffset = s.link.wallOffset
  partTime : c ≠ .partTimeTick → t.link.partTime = s.link.partTime
  pending : t.pending = s.pending

theorem State.Keeps.refl (c : Instr) (s : State) : s.Keeps c s :=
  ⟨rfl, fun _ => rfl, fun _ => rfl, fun _ => rfl, fun _ => rfl, rfl⟩

theorem State.Keeps.trans {c : Instr} {s t u : State} (h : s.Keeps c t) (k : t.Keeps c u) : s.Keeps c u :=
  ⟨k.rate.trans h.rate, fun hc => (k.rights hc).trans (h.rights hc), fun hc => (k.mask hc).trans (h.mask hc),
    fun hc => (k.wallOffset hc).trans (h.wallOffset hc), fun hc => (k.partTime hc).trans (h.partTime hc),
    k.pending.trans h.pending⟩

theorem State.Keeps.event (c : Instr) (s : State) (f : Ev → Ev) : s.Keeps c (s.event f) :=
  ⟨s.event_rate f, fun _ => s.event_rights f, fun _ => s.event_mask f, fun _ => s.event_wallOffset f,
    fun _ => s.event_partTime f, rfl⟩

theorem State.Keeps.finish (c : Instr) (s : State) (f : Frame) (r : Reply) :
    s.Keeps c { s with link := s.link.finish f r } :=
  ⟨s.link.finish_rate f r, fun _ => s.link.finish_rights f r, fun _ => s.link.finish_mask f r,
    fun _ => s.link.finish_wallOffset f r, fun _ => s.link.finish_partTime f r, rfl⟩

theorem State.Keeps.answer {c : Instr} {s : State} {kind : Nat} {row : List Byte → Bool}
    {act : Req → State → State × Reply} (ha : ∀ q, s.Keeps c (act q s).1) : s.Keeps c (s.answer kind row act) := by
  unfold State.answer
  split
  · exact .refl c s
  · split
    · exact (ha _).trans (.finish c _ _ _)
    · exact .refl c s

theorem State.Keeps.answerEv (c : Instr) (s : State) (kind : Nat) (row : List Byte → Bool) (act : Req → Ev → Ev × Reply) :
    s.Keeps c (s.answerEv kind row act) :=
  State.Keeps.answer fun q => State.Keeps.event c s fun _ => (act q s.ev).1

theorem State.Keeps.linkRow {c : Instr} {act : Req → State → State × Reply} (ha : linkRow c = some act) (q : Req)
    (s : State) : s.Keeps c (act q s).1 := by
  have same := State.Keeps.refl c s
  cases c <;> cases ha <;>
    refine lengthFirst_cases (P := fun x : State × Reply => s.Keeps _ x.1) same ?_
  case list => exact same
  case status => exact { same with }
  case rightsSet =>
    unfold State.rightsSet
    dsimp only
    split
    · exact same
    · split
      · exact same
      · split
        · exact same
        · exact { same with rights := fun hc => absurd rfl hc }
  case noticeMask =>
    unfold State.noticeMask
    split
    · exact same
    · exact { same with mask := fun hc => absurd rfl hc }
  case timeSet =>
    unfold State.timeSet
    split
    · exact same
    · exact { same with wallOffset := fun hc => absurd rfl hc }
  case settingsRead =>
    unfold State.settingsRead
    split <;> exact same
  case resetLink =>
    unfold State.resetLink
    split
    · exact same
    · split
      · exact same
      · exact { same with }

/-- The settings of a link, in one value, that its own events leave alone. -/
def ControlLink.settings (l : ControlLink) : LineRate × List Rights × BitVec 32 × BitVec 64 × Nat :=
  (l.rate, l.rights, l.mask, l.wallOffset, l.partTime)

@[simp] theorem ControlLink.pump_settings (l : ControlLink) : l.pump.settings = l.settings := by
  simp [ControlLink.settings]

theorem ControlLink.replyAtOnce_settings (l : ControlLink) (f : Frame) (c : Status) :
    (l.replyAtOnce f c).settings = l.settings := by
  unfold ControlLink.replyAtOnce
  split
  · exact ControlLink.pump_settings _
  · rfl

theorem ControlLink.admitFrame_settings (l : ControlLink) (f : Frame) : (l.admitFrame f).settings = l.settings := by
  unfold ControlLink.admitFrame
  split
  · exact ControlLink.replyAtOnce_settings _ _ _
  · split
    · exact (ControlLink.replyAtOnce_settings _ _ _).trans (by simp [ControlLink.settings])
    · rfl

theorem ControlLink.frameWhole_settings (l : ControlLink) (len : Nat) (b : List Byte) :
    (l.frameWhole len b).settings = l.settings := by
  unfold ControlLink.frameWhole
  dsimp only
  split
  · exact ControlLink.admitFrame_settings _ _
  · rfl

theorem ControlLink.receive_settings (l : ControlLink) (b : Byte) : (l.receive b).settings = l.settings := by
  unfold ControlLink.receive
  split
  · rfl
  · rfl
  · dsimp only
    split <;> rfl
  · dsimp only
    split
    · exact ControlLink.frameWhole_settings _ _ _
    · rfl

theorem linkEvent_settings {c : Instr} {f : ControlLink → ControlLink} (hf : linkEvent c = some f) (l : ControlLink) :
    (f l).settings = l.settings := by
  cases c <;> cases hf
  case frameReceived bytes =>
    dsimp only
    split
    · rfl
    · exact List.foldlRecOn (motive := fun m : ControlLink => m.settings = l.settings) bytes _ rfl
        fun m h b _ => (ControlLink.receive_settings m _).trans h
  case gapAbort => dsimp only; split <;> rfl
  case lineBreak => dsimp only; split <;> rfl
  case requestDispatch => dsimp only; split <;> rfl
  case unknownKind =>
    dsimp only
    split
    · rfl
    · split
      · rfl
      · simp [ControlLink.settings]
  case transmitComplete =>
    dsimp only
    split
    · rfl
    · exact ControlLink.pump_settings _
  case lineReturnsHigh => rfl

theorem State.Keeps.of_settings (c : Instr) (s : State) {l : ControlLink} (h : l.settings = s.link.settings) :
    s.Keeps c { s with link := l } := by
  simp only [ControlLink.settings, Prod.mk.injEq] at h
  obtain ⟨rate, rights, mask, wallOffset, partTime⟩ := h
  exact ⟨rate, fun _ => rights, fun _ => mask, fun _ => wallOffset, fun _ => partTime, rfl⟩

theorem State.Keeps.takeDue (c : Instr) (s : State) : s.Keeps c s.takeDue :=
  State.takeDue_induction (P := s.Keeps c) (fun _ h => { h with }) (fun t f _ h => h.trans (.event c t f)) (.refl c s)

theorem State.Keeps.tick {s t : State} (e : execPartTimeTick s = .next t) : s.Keeps .partTimeTick t := by
  have due := State.Keeps.takeDue .partTimeTick s
  have cases := execPartTimeTick_cases s
  generalize s.takeDue = d at *
  obtain ⟨-, he⟩ | ⟨-, -, he⟩ | ⟨-, -, he⟩ := cases <;> obtain rfl := Host.Outcome.next.inj (he.symm.trans e)
  · exact .refl _ _
  · exact { due with }
  · exact { due with partTime := fun hc => absurd rfl hc }

theorem exec_keeps {c : Instr} {s t : State} (running : ∀ strap, c ≠ .powerOn strap) (e : exec c s = .next t) :
    s.Keeps c t := by
  obtain ⟨r, hr⟩ | ⟨f, hf⟩ | ⟨act, ha⟩ | ⟨f, hf⟩ | ⟨strap, hc⟩ | hc | hc := instr_cases c
  · obtain rfl := Host.Outcome.next.inj ((exec_of_blockRow hr s).symm.trans e)
    exact .answerEv c s _ _ _
  · obtain he | he := exec_of_blockEvent hf s <;> obtain rfl := Host.Outcome.next.inj (he.symm.trans e)
    · exact .refl c s
    · exact .event c s f
  · obtain ⟨kind, row, -, he⟩ := exec_of_linkRow ha s
    obtain rfl := Host.Outcome.next.inj (he.symm.trans e)
    exact .answer fun q => .linkRow ha q s
  · obtain rfl := Host.Outcome.next.inj ((exec_of_linkEvent hf s).symm.trans e)
    exact .of_settings c s (linkEvent_settings hf _)
  · exact absurd hc (running strap)
  · subst hc
    exact .tick e
  · subst hc
    obtain rfl := Host.Outcome.next.inj e
    exact State.takeMinute_induction (P := s.Keeps .minuteBoundary) (fun _ h => { h with })
      (fun t h => h.trans (.event _ t _)) (.refl _ s)

/-- Settles O58: each kind of command, by what it can write of the link. -/
theorem linkSettingsChangeOnlyByTheirRequest : Obligations.LinkSettingsChangeOnlyByTheirRequest := by
  unfold Obligations.LinkSettingsChangeOnlyByTheirRequest
  intro c s t running e
  obtain ⟨rate, rights, mask, wallOffset, partTime, pending⟩ := exec_keeps running e
  exact ⟨rate, rights, mask, wallOffset, partTime, pending⟩

/-! ## The Trace Engine, reset and the queue of commands -/

theorem Ev.settle_engine (e : Ev) : e.settle.p.EngineInv := fun idle => Ev.takeJob_idle _ idle

/-- Settles O57: every event of the blocks ends with the engine taking its next job. -/
theorem engineNeverIdlesWithWork : Obligations.EngineNeverIdlesWithWork := by
  unfold Obligations.EngineNeverIdlesWithWork
  intro s t h e
  exact step_plant (P := Plant.EngineInv) (fun _ _ => ⟨rfl, by simp⟩) (fun _ s f _ _ => Ev.settle_engine (f s.ev)) h e

theorem Plant.TablesInv.powerOn (d : Nat) : ({ draws := d } : Plant).TablesInv where
  nodes := ⟨tableWf_nil, nofun⟩
  links := ⟨tableWf_nil, nofun⟩
  pipes := tableWf_nil
  controls := tableWf_nil
  tags := ⟨tableWf_nil, nofun⟩
  locator := ⟨tableWf_nil, nofun, nofun⟩
  stations := ⟨tableWf_nil, nofun⟩
  incidents := ⟨tableWf_nil, nofun⟩
  isolations := ⟨tableWf_nil, nofun⟩
  orders := tableWf_nil
  records := ⟨tableWf_nil, nofun⟩

theorem Plant.LimitsInv.powerOn (d : Nat) : ({ draws := d } : Plant).LimitsInv where
  generation := Nat.zero_le max32
  fifo := Nat.zero_le Config.traceFifo
  limit := ⟨show 1 ≤ 256 by omega, show 256 ≤ 1024 by omega⟩
  threshold := ⟨show 1 ≤ 5 by omega, show 5 ≤ 512 by omega⟩
  response := ⟨show 60 ≤ 3600 by omega, show 3600 ≤ 7200 by omega, show 7200 ≤ 86400 by omega, show 86400 ≤ 604800 by omega⟩
  times := ⟨⟨show 60 ≤ 1800 by omega, show 1800 ≤ 14400 by omega⟩, show 60 ≤ 900 by omega, show 900 ≤ 14400 by omega⟩
  weights := ⟨show 10 ≤ 255 by omega, show 4 ≤ 255 by omega, show 1 ≤ 255 by omega⟩
  stations := fun _ h => absurd h List.not_mem_nil
  calls := fun _ h => absurd h List.not_mem_nil
  accumulators := fun _ h => absurd h List.not_mem_nil

/-- Settles O53: the tables of the reset state are empty, and its settings are the power-on values. -/
theorem invariantsHoldAtReset : Obligations.InvariantsHoldAtReset := by
  unfold Obligations.InvariantsHoldAtReset
  exact ⟨linkPowerOn_inv .low, .powerOn 0, .powerOn 0, fun _ => ⟨rfl, by simp [State.reset]⟩⟩

/-- Settles O1. -/
theorem stepRunsFrontCommand : Obligations.StepRunsFrontCommand := by
  unfold Obligations.StepRunsFrontCommand
  exact ⟨fun _ _ _ h => step_cons h, fun _ h => step_nil h⟩

end Sys2Proof.Machine
end

section
/-! A refusal changes nothing (R201): what each row of a request does when it refuses, said once for each, and O60
assembled from those. -/

namespace Sys2Proof.Machine

-- One theorem after another: theorems checked side by side each hold a thread and its stack.
set_option Elab.async false

/-! ## Steps that refuse whole -/

/-- An owner's step that answered with an accepting code, or left everything as it was. -/
def Whole {α : Type} (x : α) (y : α × Reply) : Prop := y.2.status.accepting = true ∨ y.1 = x

section Whole
variable {α : Type} {x y : α} {b : List Byte}

@[simp] theorem whole_same (r : Reply) : Whole x (x, r) := .inr rfl
@[simp] theorem whole_ok : Whole x (y, ⟨.ok, b⟩) := .inl rfl
@[simp] theorem whole_okReply : Whole x (y, okReply) := .inl rfl
@[simp] theorem whole_retraced : Whole x (y, ⟨.retraced, b⟩) := .inl rfl
@[simp] theorem whole_late : Whole x (y, ⟨.late, b⟩) := .inl rfl

theorem whole_of_accepting {r : Reply} (h : r.status.accepting = true) : Whole x (y, r) := .inl h

theorem whole_ite {p : Prop} [Decidable p] {u v : α × Reply} (h : Whole x u) (k : Whole x v) :
    Whole x (if p then u else v) := by
  split
  · exact h
  · exact k

/-- A check that refuses, before the rest. -/
theorem whole_check {p : Prop} [Decidable p] {r : Reply} {v : α × Reply} (h : Whole x v) :
    Whole x (if p then (x, r) else v) := whole_ite (whole_same r) h

theorem whole_lengthFirst {ok : List Byte → Bool} {act : Req → α → α × Reply} {q : Req} (h : Whole x (act q x)) :
    Whole x (lengthFirst ok act q x) :=
  lengthFirst_cases (P := Whole x) (whole_same _) h

end Whole

variable {e : Ev}

/-! ## The Network Store -/

theorem Ev.edited_whole (e e' : Ev) : Whole e e'.edited := whole_okReply

theorem Ev.editMode_whole (e : Ev) (origin : Nat) (mode : EditMode) : Whole e (e.editMode origin mode) := by
  unfold Ev.editMode
  split
  · simp
  · cases mode <;> dsimp only <;> split <;> simp

theorem Ev.editBegin_whole (e : Ev) (q : Req) : Whole e (e.editBegin q) := by
  unfold Ev.editBegin
  split
  · simp
  · split
    · simp
    · exact e.editMode_whole _ _

theorem Ev.editEnd_whole (e : Ev) (q : Req) : Whole e (e.editEnd q) := by
  unfold Ev.editEnd
  split
  · simp
  · split <;> simp

theorem Ev.editRevoke_whole (e : Ev) (q : Req) : Whole e (e.editRevoke q) := by
  unfold Ev.editRevoke
  split
  · simp
  · split <;> simp

theorem Ev.tableBegin_whole (e : Ev) (q : Req) : Whole e (e.tableBegin q) := by
  unfold Ev.tableBegin
  split_ifs <;> simp

theorem Ev.takeBlock_whole (e : Ev) (p : List Byte) (l : Load) : Whole e (e.takeBlock p l) := by
  unfold Ev.takeBlock
  dsimp only
  split_ifs
  · simp
  · simp
  · split <;> simp
  · split <;> simp

theorem Ev.tableBlock_whole (e : Ev) (q : Req) : Whole e (e.tableBlock q) := by
  unfold Ev.tableBlock
  refine whole_check (whole_check (whole_check ?_))
  split
  · simp
  · exact whole_check (whole_check (e.takeBlock_whole _ _))

theorem Ev.edit_whole {q : Req} {taken : Ev × Reply} (h : Whole e taken) : Whole e (e.edit q taken) := by
  unfold Ev.edit
  split_ifs
  · simp
  · simp
  · simp
  · exact h

theorem Ev.uproot_whole {id : Nat} {taken : Ev × Reply} (h : Whole e taken) : Whole e (e.uproot id taken) := by
  unfold Ev.uproot
  split_ifs
  · simp
  · simp
  · simp
  · exact h

theorem Ev.createLink_whole (e : Ev) (p : List Byte) (id : Nat) : Whole e (e.createLink p id) := by
  unfold Ev.createLink
  split
  · simp
  · split
    · simp
    · split_ifs <;> simp [Ev.edited_whole]

theorem Ev.changeLink_whole (e : Ev) (p : List Byte) (id : Nat) : Whole e (e.changeLink p id) := by
  unfold Ev.changeLink
  split
  · simp
  · split
    · simp
    · dsimp only
      split_ifs <;> simp [Ev.edited_whole, Ev.uproot_whole]

theorem Ev.removeLink_whole (e : Ev) (id : Nat) : Whole e (e.removeLink id) := by
  unfold Ev.removeLink
  split
  · simp
  · split <;> simp [Ev.edited_whole, Ev.uproot_whole]

theorem Ev.linkEdit_whole (e : Ev) (q : Req) : Whole e (e.linkEdit q) := by
  refine Ev.edit_whole ?_
  split
  · exact e.createLink_whole _ _
  · exact e.changeLink_whole _ _
  · exact e.removeLink_whole _
  · simp

theorem Ev.createNode_whole (e : Ev) (p : List Byte) (id : Nat) : Whole e (e.createNode p id) := by
  unfold Ev.createNode
  split
  · simp
  · split
    · simp
    · dsimp only
      split_ifs <;> simp [Ev.edited_whole]

theorem Ev.changeNode_whole (e : Ev) (p : List Byte) (id : Nat) : Whole e (e.changeNode p id) := by
  unfold Ev.changeNode
  split
  · simp
  · split
    · simp
    · dsimp only
      split_ifs <;> simp [Ev.edited_whole]

theorem Ev.removeNode_whole (e : Ev) (id : Nat) : Whole e (e.removeNode id) := by
  unfold Ev.removeNode
  dsimp only
  split_ifs <;> simp [Ev.edited_whole]

theorem Ev.nodeEdit_whole (e : Ev) (q : Req) : Whole e (e.nodeEdit q) := by
  refine Ev.edit_whole ?_
  split
  · exact e.createNode_whole _ _
  · exact e.changeNode_whole _ _
  · exact e.removeNode_whole _
  · simp

theorem Ev.tagLink_whole (e : Ev) (origin link : Nat) (l : Link) (kind : TagKind) :
    Whole e (e.tagLink origin link l kind) := by
  unfold Ev.tagLink
  split_ifs
  · simp
  · simp
  · split <;> simp

theorem Ev.tagSet_whole (e : Ev) (q : Req) : Whole e (e.tagSet q) := by
  unfold Ev.tagSet
  dsimp only
  split_ifs
  · simp
  · simp
  · simp
  · split
    · simp
    · split
      · simp
      · exact e.tagLink_whole _ _ _ _

theorem Ev.tagClear_whole (e : Ev) (q : Req) : Whole e (e.tagClear q) := by
  unfold Ev.tagClear
  dsimp only
  split_ifs
  · simp
  · simp
  · simp
  · split <;> simp

theorem Ev.locatorSet_whole (e : Ev) (q : Req) : Whole e (e.locatorSet q) := by
  unfold Ev.locatorSet
  dsimp only
  split_ifs <;> simp

/-! ## The Station Monitor and the Incident Register -/

theorem Ev.stationSet_whole (e : Ev) (q : Req) : Whole e (e.stationSet q) := by
  unfold Ev.stationSet
  dsimp only
  split_ifs
  · simp
  · simp
  · unfold Ev.remove
    split <;> simp
  · unfold Ev.define
    split
    · simp
    · split <;> simp

theorem Ev.stationRead_whole (e : Ev) (q : Req) (clear : Bool) : Whole e (e.stationRead q clear) := by
  unfold Ev.stationRead
  dsimp only
  split
  · simp
  · split <;> simp

theorem Ev.incidentUpdate_whole (e : Ev) (q : Req) : Whole e (e.incidentUpdate q) := by
  unfold Ev.incidentUpdate
  split_ifs
  · simp
  · simp
  · split
    · simp
    · simp
    · split
      · simp
      · split <;> simp

/-! ## The Isolation Controller -/

theorem Ev.onNamed_whole {p : List Byte} {act : Nat → Isolation → Ev × Reply} (h : ∀ k i, Whole e (act k i)) :
    Whole e (e.onNamed p act) := by
  unfold Ev.onNamed
  split
  · simp
  · split
    · simp
    · exact h _ _

theorem onNamedWith_whole {right : Rights → Bool} {act : Ev → Nat → Isolation → Ev × Reply} {q : Req}
    (h : ∀ k i, Whole e (act e k i)) : Whole e (onNamedWith right act q e) := by
  unfold onNamedWith
  split
  · simp
  · exact Ev.onNamed_whole h

theorem Ev.newIsolation_whole (e : Ev) (origin : Nat) (ts : List Nat) (hold : Bool) (inc : Option (Nat × Incident))
    (slot : Nat) : Whole e (e.newIsolation origin ts hold inc slot) := by
  unfold Ev.newIsolation
  exact whole_of_accepting (by cases hold <;> rfl)

theorem Ev.isolateNamed_whole (e : Ev) (origin : Nat) (ts : List Nat) (hold : Bool) (named : Option (Nat × Incident)) :
    Whole e (e.isolateNamed origin ts hold named) := by
  unfold Ev.isolateNamed
  split
  · simp
  · split
    · simp
    · split
      · simp
      · exact e.newIsolation_whole _ _ _ _ _

theorem Ev.isolate_whole (e : Ev) (q : Req) : Whole e (e.isolate q) := by
  unfold Ev.isolate
  refine whole_check (whole_check (whole_check (whole_check ?_)))
  split
  · simp
  · split
    · exact whole_check (e.isolateNamed_whole _ _ _ _)
    · split
      · simp
      · exact e.isolateNamed_whole _ _ _ _

theorem Ev.authoriseNamed_whole (e : Ev) (origin slot : Nat) (i : Isolation) :
    Whole e (e.authoriseNamed origin slot i) := by
  unfold Ev.authoriseNamed
  split_ifs
  · simp
  · simp
  · simp
  · split <;> simp [orderedReply]

theorem Ev.authorise_whole (e : Ev) (q : Req) : Whole e (e.authorise q) := by
  unfold Ev.authorise
  split_ifs
  · simp
  · simp
  · exact Ev.onNamed_whole fun _ _ => e.authoriseNamed_whole _ _ _

theorem Ev.cancelNamed_whole (e : Ev) (slot : Nat) (i : Isolation) : Whole e (e.cancelNamed slot i) := by
  unfold Ev.cancelNamed
  split <;> simp

theorem Ev.acceptNamed_whole (e : Ev) (slot : Nat) (i : Isolation) : Whole e (e.acceptNamed slot i) := by
  unfold Ev.acceptNamed
  split <;> simp

theorem Ev.releaseNamed_whole (e : Ev) (slot : Nat) (i : Isolation) : Whole e (e.releaseNamed slot i) := by
  unfold Ev.releaseNamed
  split <;> simp

theorem Ev.restoreNamed_whole (e : Ev) (p : List Byte) (slot : Nat) (i : Isolation) :
    Whole e (e.restoreNamed p slot i) := by
  unfold Ev.restoreNamed
  split_ifs
  · simp
  · simp
  · split
    · simp
    · split <;> simp

theorem Ev.restore_whole (e : Ev) (q : Req) : Whole e (e.restore q) := by
  unfold Ev.restore
  split_ifs
  · simp
  · simp
  · exact Ev.onNamed_whole fun _ _ => e.restoreNamed_whole _ _ _

theorem Ev.resumeNamed_whole (e : Ev) (slot : Nat) (i : Isolation) : Whole e (e.resumeNamed slot i) := by
  unfold Ev.resumeNamed
  split
  · simp
  · dsimp only
    split_ifs <;> simp

theorem Ev.recloseNamed_whole (e : Ev) (slot : Nat) (i : Isolation) : Whole e (e.recloseNamed slot i) := by
  unfold Ev.recloseNamed
  split
  · simp
  · split <;> simp [orderedReply]

theorem Ev.closeOutNamed_whole (e : Ev) (slot : Nat) (i : Isolation) : Whole e (e.closeOutNamed slot i) := by
  unfold Ev.closeOutNamed
  split <;> simp

/-! ## Crew reports -/

theorem Ev.valveReport_whole {q : Req} {taken : Ev × Reply} (h : Whole e taken) : Whole e (e.valveReport q taken) := by
  unfold Ev.valveReport
  split
  · simp
  · split
    · simp
    · split_ifs
      · simp
      · simp
      · simp
      · exact h

theorem Ev.orderReport_whole {q : Req} {act : Nat → Order → Ev × Reply} (h : ∀ id o, Whole e (act id o)) :
    Whole e (e.orderReport q act) := by
  refine Ev.valveReport_whole ?_
  split
  · simp
  · exact h _ _

theorem Ev.reportAccept_whole (e : Ev) (id : Nat) (o : Order) : Whole e (e.reportAccept id o) := by
  unfold Ev.reportAccept
  split <;> simp [orderReply]

theorem Ev.reportOperated_whole (e : Ev) (id : Nat) (o : Order) : Whole e (e.reportOperated id o) := by
  unfold Ev.reportOperated
  split <;> simp [orderReply]

theorem Ev.reportCannotOperate_whole (e : Ev) (id : Nat) (o : Order) : Whole e (e.reportCannotOperate id o) := by
  unfold Ev.reportCannotOperate
  split <;> simp [orderReply]

theorem Ev.reportFound_whole (e : Ev) (p : List Byte) : Whole e (e.reportFound p) := by
  unfold Ev.reportFound
  dsimp only
  split
  · simp
  · split
    · simp
    · split
      · simp
      · split <;> simp

/-! ## The Outage Ledger, settings and RESET -/

theorem Ev.takeRelight_whole (e : Ev) (pipe owner : Nat) (p : PipeRt) (k : Counts) :
    Whole e (e.takeRelight pipe owner p k) := by
  unfold Ev.takeRelight
  refine whole_of_accepting ?_
  dsimp only
  split <;> rfl

theorem Ev.relightPipe_whole (e : Ev) (pipe : Nat) (k : Counts) : Whole e (e.relightPipe pipe k) := by
  unfold Ev.relightPipe
  split
  · simp
  · split
    · simp
    · split
      · exact e.takeRelight_whole _ _ _ _
      · simp

theorem Ev.relightReport_whole (e : Ev) (q : Req) : Whole e (e.relightReport q) := by
  unfold Ev.relightReport
  dsimp only
  split_ifs
  · simp
  · simp
  · simp
  · simp
  · split
    · simp
    · split
      · simp
      · exact e.relightPipe_whole _ _

theorem Ev.outageRelease_whole (e : Ev) (q : Req) : Whole e (e.outageRelease q) := by
  unfold Ev.outageRelease Ev.releaseRecord
  split_ifs
  · simp
  · simp
  · simp
  · split
    · simp
    · split <;> simp

theorem Ev.weightsSet_whole (e : Ev) (q : Req) : Whole e (e.weightsSet q) := by
  unfold Ev.weightsSet
  dsimp only
  split_ifs <;> simp

theorem Ev.settingsSet_whole (e : Ev) (q : Req) : Whole e (e.settingsSet q) := by
  unfold Ev.settingsSet Ev.setGroup
  refine whole_check (whole_check ?_)
  split
  · simp
  · exact whole_check (whole_check whole_ok)

theorem Ev.reset_whole (e : Ev) (q : Req) : Whole e (e.reset q) := by
  unfold Ev.reset
  split_ifs <;> simp

/-- Every row of a block but CALL and TELEMETRY refuses whole. -/
theorem blockRow_whole {c : Instr} {r : BlockRow} (h : blockRow c = some r) (call : c ≠ .call) (telemetry : c ≠ .telemetry)
    (q : Req) (e : Ev) : Whole e (r.act q e) := by
  cases c <;> cases h
  case call => exact absurd rfl call
  case telemetry => exact absurd rfl telemetry
  case editBeginLinks | editBeginFull => exact whole_lengthFirst (e.editBegin_whole q)
  case editEnd => exact whole_lengthFirst (e.editEnd_whole q)
  case editRevoke => exact whole_lengthFirst (e.editRevoke_whole q)
  case tableBegin => exact whole_lengthFirst (e.tableBegin_whole q)
  case tableBlock => exact e.tableBlock_whole q
  case linkEditCreate | linkEditChange | linkEditRemove => exact whole_lengthFirst (e.linkEdit_whole q)
  case nodeEditCreate | nodeEditChange | nodeEditRemove => exact whole_lengthFirst (e.nodeEdit_whole q)
  case tagSet => exact whole_lengthFirst (e.tagSet_whole q)
  case tagClear => exact whole_lengthFirst (e.tagClear_whole q)
  case locatorSet => exact whole_lengthFirst (e.locatorSet_whole q)
  case stationSetDefine | stationSetRemove => exact whole_lengthFirst (e.stationSet_whole q)
  case stationRead | stationReadClear => exact whole_lengthFirst (e.stationRead_whole q _)
  case incidentUpdate => exact e.incidentUpdate_whole q
  case isolate => exact e.isolate_whole q
  case authorise => exact e.authorise_whole q
  case cancel => exact whole_lengthFirst (onNamedWith_whole e.cancelNamed_whole)
  case accept => exact whole_lengthFirst (onNamedWith_whole e.acceptNamed_whole)
  case isolationRelease => exact whole_lengthFirst (onNamedWith_whole e.releaseNamed_whole)
  case isolationRead => exact whole_lengthFirst (Ev.onNamed_whole fun _ _ => whole_same _)
  case valveReportAccept => exact Ev.orderReport_whole e.reportAccept_whole
  case valveReportOperated => exact Ev.orderReport_whole e.reportOperated_whole
  case valveReportCannotOperate => exact Ev.orderReport_whole e.reportCannotOperate_whole
  case valveReportFound => exact Ev.valveReport_whole (e.reportFound_whole _)
  case restore => exact e.restore_whole q
  case rampResume => exact whole_lengthFirst (onNamedWith_whole e.resumeNamed_whole)
  case reclose => exact whole_lengthFirst (onNamedWith_whole e.recloseNamed_whole)
  case relightReport => exact e.relightReport_whole q
  case closeOut => exact whole_lengthFirst (onNamedWith_whole e.closeOutNamed_whole)
  case outageRelease => exact e.outageRelease_whole q
  case weightsSet => exact e.weightsSet_whole q
  case settingsSet => exact e.settingsSet_whole q
  case resetOperations => exact whole_lengthFirst (e.reset_whole q)

theorem linkRow_whole {c : Instr} {act : Req → State → State × Reply} (h : linkRow c = some act) (q : Req) (s : State) :
    Whole s (act q s) := by
  cases c <;> cases h <;> refine whole_lengthFirst ?_
  case list => exact whole_same _
  case status => exact whole_ok
  case rightsSet =>
    unfold State.rightsSet
    dsimp only
    split
    · simp
    · split
      · simp
      · split <;> simp
  case noticeMask => unfold State.noticeMask; split <;> simp
  case timeSet => unfold State.timeSet; split <;> simp
  case settingsRead => unfold State.settingsRead; split <;> simp
  case resetLink => unfold State.resetLink; split_ifs <;> simp

/-! ## The reply behind a busy transmitter (R201, R205) -/

theorem ControlLink.queue_busy {l : ControlLink} (h : l.sending.isSome) (n : Notice) :
    (l.queue n).sending = l.sending := by
  obtain ⟨-, e⟩ | ⟨r, -, -, e⟩ | ⟨-, -, -, e⟩ | ⟨-, -, -, e⟩ := l.queue_cases n <;> rw [e]
  simp [ControlLink.pump, h]

theorem ControlLink.queues_busy {l : ControlLink} (h : l.sending.isSome) (ns : List Notice) :
    (ns.foldl ControlLink.queue l).sending = l.sending := by
  induction ns generalizing l with
  | nil => rfl
  | cons n ns ih =>
    have first := ControlLink.queue_busy h n
    exact (ih (first ▸ h)).trans first

/-- The reply of a request joins the tail of the buffer. -/
theorem ControlLink.finish_replies_of_busy {l : ControlLink} (h : l.sending.isSome) (f : Frame) (r : Reply) :
    (l.finish f r).replies = l.replies ++ [⟨replyKind f.kind, f.tag, r.payload⟩] := by
  simp [ControlLink.finish, ControlLink.pump, h]

theorem linkRow_sending {c : Instr} {act : Req → State → State × Reply} (h : linkRow c = some act) (q : Req) (s : State) :
    (act q s).1.link.sending = s.link.sending := by
  cases c <;> cases h <;>
    refine lengthFirst_cases (P := fun x : State × Reply => x.1.link.sending = s.link.sending) rfl ?_
  case list => rfl
  case status => rfl
  case rightsSet => unfold State.rightsSet; dsimp only; split <;> (try split) <;> (try split) <;> rfl
  case noticeMask => unfold State.noticeMask; split <;> rfl
  case timeSet => unfold State.timeSet; split <;> rfl
  case settingsRead => unfold State.settingsRead; split <;> rfl
  case resetLink => unfold State.resetLink; split <;> (try split) <;> rfl

/-- The first byte of a reply's payload is 0x10 or more for a refusal alone (R218). -/
theorem Reply.not_accepting_of_byte {r : Reply} {b : Byte} {body : List Byte} (h : r.payload = b :: body)
    (hb : 0x10 ≤ b.toNat) : r.status.accepting ≠ true := by
  have first : b = BitVec.ofNat 8 r.status.code := by
    simp only [Reply.payload, be, Nat.pow_zero, Nat.div_one, List.cons_append, List.cons.injEq] at h
    exact h.1.symm
  subst first
  intro accepted
  cases hs : r.status <;> simp [hs, Status.accepting, Status.code] at accepted hb

/-- A request whose owner refuses whole: what it leaves, when the reply behind a busy transmitter is a refusal. -/
theorem State.answer_refused {s : State} {kind : Nat} {row : List Byte → Bool} {act : Req → State → State × Reply}
    {x : OutFrame} {b : Byte} {body : List Byte} (busy : ∀ q, (act q s).1.link.sending.isSome)
    (hx : (s.answer kind row act).link.replies = s.link.replies ++ [x]) (hp : x.payload = b :: body) (hb : 0x10 ≤ b.toNat) :
    ∃ q f, (act q s).2.status.accepting ≠ true
      ∧ s.answer kind row act = { (act q s).1 with link := (act q s).1.link.finish f (act q s).2 } := by
  unfold State.answer at hx ⊢
  split at hx
  · simp at hx
  · next f hf =>
    split at hx
    · next taken =>
      refine ⟨s.req f, f, ?_, by simp [taken]⟩
      have joined := ControlLink.finish_replies_of_busy (busy (s.req f)) f (act (s.req f) s).2
      have last := List.append_inj_right' (joined.symm.trans hx) rfl
      simp only [List.cons.injEq, and_true] at last
      subst last
      exact Reply.not_accepting_of_byte hp hb
    · simp at hx

/-- Settles O60: the reply's first byte shows the refusal, and the owner's step refuses whole. -/
theorem refusalChangesNothing : Obligations.RefusalChangesNothing := by
  unfold Obligations.RefusalChangesNothing
  intro c s t x b body request call telemetry busy he hx hp hb
  obtain ⟨r, hr⟩ | ⟨f, hf⟩ | ⟨act, ha⟩ | ⟨f, hf⟩ | ⟨strap, hc⟩ | hc | hc := instr_cases c
  · obtain rfl := Host.Outcome.next.inj ((exec_of_blockRow hr s).symm.trans he)
    have busy' : ∀ q, (s.event fun _ => (r.act q s.ev).1).link.sending.isSome := fun q =>
      (ControlLink.queues_busy busy _).symm ▸ busy
    obtain ⟨q, f, refused, e⟩ := State.answer_refused busy' hx hp hb
    have same : (r.act q s.ev).1 = s.ev := (blockRow_whole hr call telemetry q s.ev).resolve_left refused
    have settings : s.Keeps .call (s.answerEv r.kind r.row r.act) := .answerEv _ _ _ _ _
    refine ⟨.inr ?_, settings.rights nofun, settings.mask nofun, settings.wallOffset nofun⟩
    rw [State.answerEv, e]
    show (s.event fun _ => (r.act q s.ev).1).plant = _
    rw [same]
    rfl
  · cases c <;> cases hf <;> cases request
  · obtain ⟨kind, row, -, hn⟩ := exec_of_linkRow ha s
    obtain rfl := Host.Outcome.next.inj (hn.symm.trans he)
    obtain ⟨q, f, refused, e⟩ := State.answer_refused (fun q => linkRow_sending ha q s ▸ busy) hx hp hb
    rw [e, (linkRow_whole ha q s).resolve_left refused]
    exact ⟨.inl rfl, by simp, by simp, by simp⟩
  · cases c <;> cases hf <;> cases request
  · subst hc; cases request
  · subst hc; cases request
  · subst hc; cases request

end Sys2Proof.Machine
end

section
/-! What an event leaves alone. `Ev.Within A e e'` says that the blocks went from `e` to `e'` with nothing changed outside
the parts of `A`, and with every invariant of the blocks kept. Each operation of an event has one lemma of this form;
the frames of the requests and the invariants over every step are read off it. -/

namespace Sys2Proof.Machine

-- One theorem after another: theorems checked side by side each hold a thread and its stack.
set_option Elab.async false

/-! ## The parts of the blocks -/

/-- What an operation may change. -/
inductive Part where
  /-- Some isolation record. -/
  | isos
  /-- Which isolations there are, and the next serial. -/
  | slots
  /-- The plan of an isolation. -/
  | plans
  /-- Orders and the next order serial. -/
  | orders
  /-- Runtime of a valve or regulator: its order field, and with the next two parts the others. -/
  | controls
  | holders
  | positions
  | links
  | nodes
  | pipes
  /-- Network state, grant, load, tags and locator. -/
  | net
  /-- What the running job and the lists of the Trace Engine are. -/
  | trace
  /-- The pending-recompute flag. -/
  | ask
  /-- The applied generation. -/
  | applied
  | mon
  | reg
  | records
  /-- Settings and class weights. -/
  | settings
  /-- The generation, one increment in the event. -/
  | bump
  /-- The generation, by more than one event. -/
  | regen
  /-- The generation, by an activation. -/
  | activate
  deriving DecidableEq

/-- What no operation changes of an isolation once it is there. -/
def Isolation.fixed (i : Isolation) : Nat × Nat × List Nat × Bool × Nat :=
  (i.serial, i.requester, i.targets, i.hold, i.requestTime)

/-- The settings of the blocks. -/
def Plant.settings (p : Plant) : Nat × (Nat × PerTier Int) × (Nat × Nat × Nat × Nat) × (Nat × Nat × PerTier Int) × Counts :=
  (p.trace.limit, (p.mon.threshold, p.mon.dead), (p.reg.mergeWindow, p.reg.response1, p.reg.response2, p.reg.response3),
    (p.ctl.verifyTime, p.ctl.acceptTime, p.ctl.target), p.led.weights)

/-- One event's increment of the generation (R8). -/
def Ev.BumpedOnce (e e' : Ev) : Prop :=
  (e.bumped = true → e'.bumped = true ∧ e'.p.net.generation = e.p.net.generation)
    ∧ (e.bumped = false → (e'.bumped = false ∧ e'.p.net.generation = e.p.net.generation)
      ∨ (e'.bumped = true ∧ e'.p.net.generation = min max32 (e.p.net.generation + 1)))

/-- Nothing outside the parts of `A` changes, and the invariants of the blocks are kept. -/
structure Ev.Within (A : List Part) (e e' : Ev) : Prop where
  now : e'.now = e.now
  out : e.out <+: e'.out
  isos : .isos ∉ A → e'.p.ctl.isos = e.p.ctl.isos
  fixed : .slots ∉ A → ∀ k, (e'.iso? k).map Isolation.fixed = (e.iso? k).map Isolation.fixed
  serial : .slots ∉ A → e'.p.ctl.serial = e.p.ctl.serial
  plans : .slots ∉ A → .plans ∉ A → ∀ k, (e'.iso? k).map (·.plan) = (e.iso? k).map (·.plan)
  orders : .orders ∉ A → e'.p.ctl.orders = e.p.ctl.orders ∧ e'.p.ctl.orderSerial = e.p.ctl.orderSerial
  controls : .controls ∉ A → e'.p.net.controls = e.p.net.controls
  holders : .holders ∉ A → ∀ k, (e'.control? k).map (·.holders) = (e.control? k).map (·.holders)
  positions : .positions ∉ A → ∀ k, (e'.control? k).map (·.position) = (e.control? k).map (·.position)
  links : .links ∉ A → e'.p.net.links = e.p.net.links
  nodes : .nodes ∉ A → e'.p.net.nodes = e.p.net.nodes
  pipes : .pipes ∉ A → e'.p.net.pipes = e.p.net.pipes
  net : .net ∉ A → e'.p.net.state = e.p.net.state ∧ e'.p.net.grant = e.p.net.grant ∧ e'.p.net.load = e.p.net.load
    ∧ e'.p.net.tags = e.p.net.tags ∧ e'.p.net.locator = e.p.net.locator
  trace : .trace ∉ A → e'.p.trace.running = e.p.trace.running ∧ e'.p.trace.fifo = e.p.trace.fifo
    ∧ e'.p.trace.deferred = e.p.trace.deferred
  ask : .ask ∉ A → e'.p.trace.pendingRecompute = e.p.trace.pendingRecompute
  applied : .applied ∉ A → e'.p.trace.applied = e.p.trace.applied
  mon : .mon ∉ A → e'.p.mon = e.p.mon
  reg : .reg ∉ A → e'.p.reg = e.p.reg
  records : .records ∉ A → e'.p.led.records = e.p.led.records
  settings : .settings ∉ A → e'.p.settings = e.p.settings
  still : .bump ∉ A → .regen ∉ A → .activate ∉ A →
    e'.p.net.generation = e.p.net.generation ∧ e'.bumped = e.bumped
  once : .regen ∉ A → .activate ∉ A → e.BumpedOnce e'
  mono : .activate ∉ A → e.p.net.generation ≤ max32 →
    e.p.net.generation ≤ e'.p.net.generation ∧ e'.p.net.generation ≤ max32
  tables : e.p.TablesInv → e'.p.TablesInv
  limits : e.p.LimitsInv → e'.p.LimitsInv

theorem Ev.BumpedOnce.refl (e : Ev) : e.BumpedOnce e := ⟨fun h => ⟨h, rfl⟩, fun h => .inl ⟨h, rfl⟩⟩

theorem Ev.BumpedOnce.trans {e f g : Ev} (h : e.BumpedOnce f) (k : f.BumpedOnce g) : e.BumpedOnce g := by
  constructor
  · intro he
    obtain ⟨hf, gf⟩ := h.1 he
    obtain ⟨hg, gg⟩ := k.1 hf
    exact ⟨hg, gg.trans gf⟩
  · intro he
    obtain ⟨hf, gf⟩ | ⟨hf, gf⟩ := h.2 he
    · obtain ⟨hg, gg⟩ | ⟨hg, gg⟩ := k.2 hf
      · exact .inl ⟨hg, gg.trans gf⟩
      · exact .inr ⟨hg, gf ▸ gg⟩
    · obtain ⟨hg, gg⟩ := k.1 hf
      exact .inr ⟨hg, gg.trans gf⟩

theorem Ev.Within.refl (A : List Part) (e : Ev) : Ev.Within A e e where
  now := rfl
  out := List.prefix_rfl
  isos _ := rfl
  fixed _ _ := rfl
  serial _ := rfl
  plans _ _ _ := rfl
  orders _ := ⟨rfl, rfl⟩
  controls _ := rfl
  holders _ _ := rfl
  positions _ _ := rfl
  links _ := rfl
  nodes _ := rfl
  pipes _ := rfl
  net _ := ⟨rfl, rfl, rfl, rfl, rfl⟩
  trace _ := ⟨rfl, rfl, rfl⟩
  ask _ := rfl
  applied _ := rfl
  mon _ := rfl
  reg _ := rfl
  records _ := rfl
  settings _ := rfl
  still _ _ _ := ⟨rfl, rfl⟩
  once _ _ := .refl e
  mono _ h := ⟨Nat.le_refl _, h⟩
  tables h := h
  limits h := h

theorem Ev.Within.trans {A : List Part} {e f g : Ev} (h : Ev.Within A e f) (k : Ev.Within A f g) : Ev.Within A e g where
  now := k.now.trans h.now
  out := h.out.trans k.out
  isos a := (k.isos a).trans (h.isos a)
  fixed a j := (k.fixed a j).trans (h.fixed a j)
  serial a := (k.serial a).trans (h.serial a)
  plans a b j := (k.plans a b j).trans (h.plans a b j)
  orders a := ⟨(k.orders a).1.trans (h.orders a).1, (k.orders a).2.trans (h.orders a).2⟩
  controls a := (k.controls a).trans (h.controls a)
  holders a j := (k.holders a j).trans (h.holders a j)
  positions a j := (k.positions a j).trans (h.positions a j)
  links a := (k.links a).trans (h.links a)
  nodes a := (k.nodes a).trans (h.nodes a)
  pipes a := (k.pipes a).trans (h.pipes a)
  net a := by
    obtain ⟨h1, h2, h3, h4, h5⟩ := h.net a
    obtain ⟨k1, k2, k3, k4, k5⟩ := k.net a
    exact ⟨k1.trans h1, k2.trans h2, k3.trans h3, k4.trans h4, k5.trans h5⟩
  trace a := by
    obtain ⟨h1, h2, h3⟩ := h.trace a
    obtain ⟨k1, k2, k3⟩ := k.trace a
    exact ⟨k1.trans h1, k2.trans h2, k3.trans h3⟩
  ask a := (k.ask a).trans (h.ask a)
  applied a := (k.applied a).trans (h.applied a)
  mon a := (k.mon a).trans (h.mon a)
  reg a := (k.reg a).trans (h.reg a)
  records a := (k.records a).trans (h.records a)
  settings a := (k.settings a).trans (h.settings a)
  still a b c := ⟨(k.still a b c).1.trans (h.still a b c).1, (k.still a b c).2.trans (h.still a b c).2⟩
  once a b := (h.once a b).trans (k.once a b)
  mono a bound := by
    obtain ⟨h1, h2⟩ := h.mono a bound
    obtain ⟨k1, k2⟩ := k.mono a h2
    exact ⟨h1.trans k1, k2⟩
  tables inv := k.tables (h.tables inv)
  limits inv := k.limits (h.limits inv)

theorem Ev.Within.mono_parts {A B : List Part} {e f : Ev} (h : Ev.Within A e f) (sub : A ⊆ B) : Ev.Within B e f where
  now := h.now
  out := h.out
  isos a := h.isos fun b => a (sub b)
  fixed a := h.fixed fun b => a (sub b)
  serial a := h.serial fun b => a (sub b)
  plans a b := h.plans (fun c => a (sub c)) fun c => b (sub c)
  orders a := h.orders fun b => a (sub b)
  controls a := h.controls fun b => a (sub b)
  holders a := h.holders fun b => a (sub b)
  positions a := h.positions fun b => a (sub b)
  links a := h.links fun b => a (sub b)
  nodes a := h.nodes fun b => a (sub b)
  pipes a := h.pipes fun b => a (sub b)
  net a := h.net fun b => a (sub b)
  trace a := h.trace fun b => a (sub b)
  ask a := h.ask fun b => a (sub b)
  applied a := h.applied fun b => a (sub b)
  mon a := h.mon fun b => a (sub b)
  reg a := h.reg fun b => a (sub b)
  records a := h.records fun b => a (sub b)
  settings a := h.settings fun b => a (sub b)
  still a b c := h.still (fun d => a (sub d)) (fun d => b (sub d)) fun d => c (sub d)
  once a b := h.once (fun c => a (sub c)) fun c => b (sub c)
  mono a := h.mono fun b => a (sub b)
  tables := h.tables
  limits := h.limits

section Combine
variable {A B C : List Part} {e f g : Ev}

/-- A step within fewer parts after one within `A`. -/
theorem Ev.Within.andThen (h : Ev.Within A e f) (k : Ev.Within B f g) (sub : B ⊆ A := by decide) : Ev.Within A e g :=
  h.trans (k.mono_parts sub)

/-- The same, the last step first: the form in which a chain is read off the term it ends in. -/
theorem Ev.Within.last (k : Ev.Within B f g) (h : Ev.Within A e f) (sub : B ⊆ A := by decide) : Ev.Within A e g :=
  h.andThen k sub

/-- The first step of a chain within `A`. -/
theorem Ev.Within.of (k : Ev.Within B e f) (sub : B ⊆ A := by decide) : Ev.Within A e f := k.mono_parts sub

theorem Ev.Within.ite {p : Prop} [Decidable p] (h : Ev.Within A e f) (k : Ev.Within A e g) :
    Ev.Within A e (if p then f else g) := by
  split
  · exact h
  · exact k

theorem Ev.Within.each {h : Nat → Ev → Ev} (step : ∀ k e, Ev.Within A e (h k e)) (e : Ev) (ks : List Nat) :
    Ev.Within A e (e.each ks h) := by
  induction ks generalizing e with
  | nil => exact .refl A e
  | cons k ks ih => exact (step k e).trans (ih (h k e))

end Combine

end Sys2Proof.Machine
end

section
/-! What each named update of an event leaves alone: the first layer of `Ev.Within`. -/

namespace Sys2Proof.Machine

-- One theorem after another: theorems checked side by side each hold a thread and its stack.
set_option Elab.async false

variable {e : Ev}

/-! ## Notices -/

theorem Ev.note_within (e : Ev) (kind : NoticeKind) (object : Nat) (d : List Byte) : Ev.Within [] e (e.note kind object d) :=
  { Ev.Within.refl [] e with out := List.prefix_append _ _ }

theorem Ev.noteIso_within (e : Ev) (slot serial : Nat) (old : Option IsoState) (new : IsoState) (cause : IsoCause)
    (other : Other) (left : Nat) : Ev.Within [] e (e.noteIso slot serial old new cause other left) := e.note_within _ _ _

/-! ## Isolations -/

theorem tget_tmod_map {α β : Type} (t : Table α) (n : Nat) {f : α → α} {g : α → β} (h : ∀ x, g (f x) = g x) (k : Nat) :
    (tget (tmod t n f) k).map g = (tget t k).map g := by
  rw [tget_tmod]
  split
  · cases tget t k <;> simp [h]
  · rfl

theorem tget_map_map {α β : Type} (t : Table α) {f : Nat → α → α} {g : α → β} (h : ∀ k x, g (f k x) = g x) (k : Nat) :
    (tget (t.map fun x => (x.1, f x.1 x.2)) k).map g = (tget t k).map g := by
  rw [tget_map]
  cases tget t k <;> simp [h]

theorem Plant.TablesInv.modIsos {p : Plant} (inv : p.TablesInv) (k : Nat) (f : Isolation → Isolation) :
    ({ p with ctl.isos := tmod p.ctl.isos k f } : Plant).TablesInv :=
  { inv with isolations := ⟨tableWf_tmod inv.isolations.1 k f, by simpa using inv.isolations.2⟩ }

theorem Ev.modIso_plan_within (e : Ev) (k : Nat) {f : Isolation → Isolation} (hf : ∀ i, (f i).fixed = i.fixed) :
    Ev.Within [.isos, .plans] e (e.modIso k f) :=
  { Ev.Within.refl [.isos, .plans] e with
    isos := fun a => absurd (by decide) a
    fixed := fun _ j => tget_tmod_map _ _ hf j
    plans := fun _ a => absurd (by decide) a
    tables := fun inv => inv.modIsos k f
    limits := fun inv => { inv with } }

theorem Ev.modIso_within (e : Ev) (k : Nat) {f : Isolation → Isolation} (hf : ∀ i, (f i).fixed = i.fixed)
    (hp : ∀ i, (f i).plan = i.plan) : Ev.Within [.isos] e (e.modIso k f) :=
  { Ev.Within.refl [.isos] e with
    isos := fun a => absurd (by decide) a
    fixed := fun _ j => tget_tmod_map _ _ hf j
    plans := fun _ _ j => tget_tmod_map _ _ hp j
    tables := fun inv => inv.modIsos k f
    limits := fun inv => { inv with } }

theorem Ev.mapIsos_within (e : Ev) {f : Nat → Isolation → Isolation} (hf : ∀ k i, (f k i).fixed = i.fixed)
    (hp : ∀ k i, (f k i).plan = i.plan) :
    Ev.Within [.isos] e { e with p.ctl.isos := e.p.ctl.isos.map fun x => (x.1, f x.1 x.2) } :=
  { Ev.Within.refl [.isos] e with
    isos := fun a => absurd (by decide) a
    fixed := fun _ j => tget_map_map _ hf j
    plans := fun _ _ j => tget_map_map _ hp j
    tables := fun inv =>
      { inv with isolations := ⟨tableWf_map inv.isolations.1 f, by simpa using inv.isolations.2⟩ }
    limits := fun inv => { inv with } }

/-! ## Orders -/

/-- A write of the orders in canonical form. -/
theorem Ev.setOrders_within (e : Ev) {t : Table Order} (n : Nat) (h : tableWf e.p.ctl.orders → tableWf t) :
    Ev.Within [.orders] e { e with p.ctl.orders := t, p.ctl.orderSerial := n } :=
  { Ev.Within.refl [.orders] e with
    orders := fun a => absurd (by decide) a
    tables := fun inv => { inv with orders := h inv.orders }
    limits := fun inv => { inv with } }

theorem Ev.modOrder_within (e : Ev) (k : Nat) (f : Order → Order) : Ev.Within [.orders] e (e.modOrder k f) :=
  e.setOrders_within e.p.ctl.orderSerial fun h => tableWf_tmod h k f

/-! ## Valves and regulators -/

theorem Plant.TablesInv.modControls {p : Plant} (inv : p.TablesInv) (k : Nat) (f : ControlRt → ControlRt) :
    ({ p with net.controls := tmod p.net.controls k f } : Plant).TablesInv :=
  { inv with controls := tableWf_tmod inv.controls k f }

/-- A change of an order field. -/
theorem Ev.modOrderField_within (e : Ev) (k : Nat) {f : ControlRt → ControlRt} (hh : ∀ c, (f c).holders = c.holders)
    (hp : ∀ c, (f c).position = c.position) : Ev.Within [.controls] e (e.modControl k f) :=
  { Ev.Within.refl [.controls] e with
    controls := fun a => absurd (by decide) a
    holders := fun _ j => tget_tmod_map _ _ hh j
    positions := fun _ j => tget_tmod_map _ _ hp j
    tables := fun inv => inv.modControls k f
    limits := fun inv => { inv with } }

theorem Ev.modHolders_within (e : Ev) (k : Nat) {f : ControlRt → ControlRt} (hp : ∀ c, (f c).position = c.position) :
    Ev.Within [.controls, .holders] e (e.modControl k f) :=
  { Ev.Within.refl [.controls, .holders] e with
    controls := fun a => absurd (by decide) a
    holders := fun a => absurd (by decide) a
    positions := fun _ j => tget_tmod_map _ _ hp j
    tables := fun inv => inv.modControls k f
    limits := fun inv => { inv with } }

theorem Ev.modPosition_within (e : Ev) (k : Nat) {f : ControlRt → ControlRt} (hh : ∀ c, (f c).holders = c.holders) :
    Ev.Within [.controls, .positions] e (e.modControl k f) :=
  { Ev.Within.refl [.controls, .positions] e with
    controls := fun a => absurd (by decide) a
    holders := fun _ j => tget_tmod_map _ _ hh j
    positions := fun a => absurd (by decide) a
    tables := fun inv => inv.modControls k f
    limits := fun inv => { inv with } }

/-! ## Links and pipes -/

theorem Ev.modLink_within (e : Ev) (k : Nat) (f : Link → Link) : Ev.Within [.links] e (e.modLink k f) :=
  { Ev.Within.refl [.links] e with
    links := fun a => absurd (by decide) a
    tables := fun inv => { inv with links := ⟨tableWf_tmod inv.links.1 k f, by simpa using inv.links.2⟩ }
    limits := fun inv => { inv with } }

theorem Ev.modPipe_within (e : Ev) (k : Nat) (f : PipeRt → PipeRt) : Ev.Within [.pipes] e (e.modPipe k f) :=
  { Ev.Within.refl [.pipes] e with
    pipes := fun a => absurd (by decide) a
    tables := fun inv => { inv with pipes := tableWf_tmod inv.pipes k f }
    limits := fun inv => { inv with } }

theorem Ev.mapPipes_within (e : Ev) (f : Nat → PipeRt → PipeRt) : Ev.Within [.pipes] e (e.mapPipes f) :=
  { Ev.Within.refl [.pipes] e with
    pipes := fun a => absurd (by decide) a
    tables := fun inv => { inv with pipes := tableWf_map inv.pipes f }
    limits := fun inv => { inv with } }

/-- A write of the fed flags, or of any field of the nodes. -/
theorem Ev.mapNodes_within (e : Ev) (f : Nat → Node → Node) :
    Ev.Within [.nodes] e { e with p.net.nodes := e.p.net.nodes.map fun x => (x.1, f x.1 x.2) } :=
  { Ev.Within.refl [.nodes] e with
    nodes := fun a => absurd (by decide) a
    tables := fun inv => { inv with nodes := ⟨tableWf_map inv.nodes.1 f, by simpa using inv.nodes.2⟩ }
    limits := fun inv => { inv with } }

/-! ## The generation (R8) and the Trace Engine -/

theorem Ev.bump_bumpedOnce (e : Ev) : e.BumpedOnce e.bump := by
  constructor <;> intro h <;> simp [h]

theorem Ev.bump_within (e : Ev) : Ev.Within [.bump] e e.bump := by
  have once := e.bump_bumpedOnce
  unfold Ev.bump at *
  split
  · exact .refl _ e
  · next h =>
    rw [if_neg h] at once
    exact { Ev.Within.refl [.bump] e with
      still := fun a => absurd (by decide) a
      once := fun _ _ => once
      mono := fun _ bound => ⟨by simp only; omega, by simp only; omega⟩
      tables := fun inv => { inv with }
      limits := fun inv => { inv with generation := by simp only; omega } }

theorem Ev.askRecompute_within (e : Ev) : Ev.Within [.ask] e e.askRecompute :=
  { Ev.Within.refl [.ask] e with
    ask := fun a => absurd (by decide) a
    tables := fun inv => { inv with }
    limits := fun inv => { inv with } }

/-- A write of the running job and of the lists, the FIFO within its bound (R28). -/
theorem Ev.setTrace_within (e : Ev) (job : Option Job) {fifo : List IsoRef} (deferred : List IsoRef)
    (h : e.p.trace.fifo.length ≤ Config.traceFifo → fifo.length ≤ Config.traceFifo) :
    Ev.Within [.trace] e { e with p.trace.running := job, p.trace.fifo := fifo, p.trace.deferred := deferred } :=
  { Ev.Within.refl [.trace] e with
    trace := fun a => absurd (by decide) a
    tables := fun inv => { inv with }
    limits := fun inv => { inv with fifo := h inv.fifo } }

theorem Ev.setRunning_within (e : Ev) (job : Option Job) : Ev.Within [.trace] e { e with p.trace.running := job } :=
  e.setTrace_within job e.p.trace.deferred id

theorem Ev.refill_within (e : Ev) : Ev.Within [.trace] e e.refill :=
  e.setTrace_within _ _ fun h => by
    simp only [List.length_append, List.length_take]
    omega

theorem Ev.askTrace_within (e : Ev) (slot : Nat) : Ev.Within [.isos, .trace] e (e.askTrace slot) := by
  unfold Ev.askTrace
  split
  · exact .refl _ e
  · next i _ =>
    dsimp only
    split
    · exact .refl _ e
    · have noted : Ev.Within [.isos, .trace] e (e.modIso slot fun i => { i with restarts := 0 }) :=
        .of (e.modIso_within slot (fun _ => rfl) fun _ => rfl)
      split
      · next room =>
        exact noted.andThen (Ev.setTrace_within (e.modIso slot fun i => { i with restarts := 0 }) e.p.trace.running
          (fifo := e.p.trace.fifo ++ [⟨slot, i.serial⟩]) e.p.trace.deferred fun _ => by
            simp only [List.length_append, List.length_singleton]; exact room)
      · exact noted.andThen (Ev.setTrace_within (e.modIso slot fun i => { i with restarts := 0 }) e.p.trace.running
          (fifo := e.p.trace.fifo) (e.p.trace.deferred ++ [⟨slot, i.serial⟩]) id)

theorem Ev.dropTrace_within (e : Ev) (slot : Nat) : Ev.Within [.trace] e (e.dropTrace slot) := by
  unfold Ev.dropTrace
  dsimp only
  refine .trans ?_ (Ev.refill_within _)
  refine .trans (f := if e.p.trace.running.any (Job.tracesSlot slot) then { e with p.trace.running := none } else e) ?_
    (Ev.setTrace_within _ _ _ fun h => (List.length_filter_le _ _).trans h)
  exact .ite (e.setRunning_within none) (.refl _ e)

theorem Ev.watchRecompute_within (e : Ev) : Ev.Within [.trace] e e.watchRecompute := by
  unfold Ev.watchRecompute
  split
  · exact .ite (.refl _ e) (e.setRunning_within _)
  · exact .refl _ e

theorem Ev.created_within (e : Ev) (node pipe : Option Nat) : Ev.Within [.trace] e (e.created node pipe) := by
  unfold Ev.created
  split
  · exact e.setRunning_within _
  · exact .refl _ e

theorem Ev.watchCheck_within (e : Ev) : Ev.Within [] e e.watchCheck := by
  unfold Ev.watchCheck
  dsimp only
  split
  · split
    · exact .refl _ e
    · exact { Ev.Within.refl [] e with
        tables := fun inv => { inv with }
        limits := fun inv => { inv with } }
  · exact .refl _ e

theorem Ev.takeJob_within (e : Ev) : Ev.Within [.trace, .ask] e e.takeJob := by
  unfold Ev.takeJob
  split
  · exact .refl _ e
  · split
    · exact { Ev.Within.refl [.trace, .ask] e with
        trace := fun a => absurd (by decide) a
        ask := fun a => absurd (by decide) a
        tables := fun inv => { inv with }
        limits := fun inv => { inv with } }
    · split
      · exact .refl _ e
      · next r rest hf =>
        refine Ev.Within.trans (.of (Ev.setTrace_within _ _ _ fun h => ?_)) (.of (Ev.refill_within _))
        rw [hf] at h
        exact (Nat.le_succ _).trans h

/-! ## The Station Monitor -/

theorem Ev.setMon_within (e : Ev) {m : StationMonitor} (hs : (m.threshold, m.dead) = (e.p.mon.threshold, e.p.mon.dead))
    (ht : (tableWf e.p.mon.stations ∧ ∀ k ∈ tkeys e.p.mon.stations, k ≤ Config.maxStation) →
      tableWf m.stations ∧ ∀ k ∈ tkeys m.stations, k ≤ Config.maxStation)
    (hl : (∀ x ∈ e.p.mon.stations, x.2.cfg.inRange = true ∧ x.2.rt.ring.length ≤ 8) →
      ∀ x ∈ m.stations, x.2.cfg.inRange = true ∧ x.2.rt.ring.length ≤ 8) :
    Ev.Within [.mon] e { e with p.mon := m } := by
  obtain ⟨threshold, dead⟩ := Prod.mk.inj hs
  exact { Ev.Within.refl [.mon] e with
    mon := fun a => absurd (by decide) a
    settings := fun _ => by simp [Plant.settings, threshold, dead]
    tables := fun inv => { inv with stations := ht inv.stations }
    limits := fun inv => { inv with threshold := threshold ▸ inv.threshold, stations := hl inv.stations } }

theorem Ev.count_within (e : Ev) (f : TelemetryCounters → TelemetryCounters) : Ev.Within [.mon] e (e.count f) :=
  e.setMon_within rfl id id

theorem forall_mem_tmod {α : Type} {t : Table α} {n : Nat} {f : α → α} {P : α → Prop} (h : ∀ x ∈ t, P x.2)
    (hf : ∀ x, P x → P (f x)) : ∀ x ∈ tmod t n f, P x.2 := by
  intro x hx
  obtain ⟨y, hy, rfl⟩ := List.mem_map.mp hx
  split
  · exact hf _ (h y hy)
  · exact h y hy

theorem mem_tset {α : Type} {t : Table α} {n : Nat} {v : α} {x : Nat × α} (h : x ∈ tset t n v) : x = (n, v) ∨ x ∈ t := by
  induction t with
  | nil => exact .inl (by simpa [tset] using h)
  | cons y t ih =>
    obtain ⟨k, w⟩ := y
    simp only [tset] at h
    split at h
    · exact List.mem_cons.mp h
    · split at h
      · obtain h | h := List.mem_cons.mp h
        · exact .inl h
        · exact .inr (List.mem_cons_of_mem _ h)
      · obtain h | h := List.mem_cons.mp h
        · exact .inr (h ▸ List.mem_cons_self)
        · obtain h | h := ih h
          · exact .inl h
          · exact .inr (List.mem_cons_of_mem _ h)

/-- A change of a station's runtime that keeps its trend ring within its bound (R68). -/
theorem Ev.modRt_within (e : Ev) (k : Nat) {f : StationRt → StationRt} (h : ∀ r, r.ring.length ≤ 8 → (f r).ring.length ≤ 8) :
    Ev.Within [.mon] e (e.modRt k f) :=
  e.setMon_within rfl
    (fun ⟨wf, keys⟩ => ⟨tableWf_tmod wf k fun s => { s with rt := f s.rt }, by simpa using keys⟩)
    fun all => forall_mem_tmod (f := fun s : Station => { s with rt := f s.rt })
      (P := fun s : Station => s.cfg.inRange = true ∧ s.rt.ring.length ≤ 8) all fun s hs => ⟨hs.1, h _ hs.2⟩

/-! ## The Incident Register -/

theorem Ev.setIncidents_within (e : Ev) {t : Table Incident} (n : Nat)
    (ht : (tableWf e.p.reg.table ∧ ∀ k ∈ tkeys e.p.reg.table, k < Config.incidentSlots) →
      tableWf t ∧ ∀ k ∈ tkeys t, k < Config.incidentSlots)
    (hl : (∀ x ∈ e.p.reg.table, x.2.calls ≤ 65535 ∧ x.2.refs.length ≤ Config.callRefs) →
      ∀ x ∈ t, x.2.calls ≤ 65535 ∧ x.2.refs.length ≤ Config.callRefs) :
    Ev.Within [.reg] e { e with p.reg.table := t, p.reg.serial := n } :=
  { Ev.Within.refl [.reg] e with
    reg := fun a => absurd (by decide) a
    tables := fun inv => { inv with incidents := ht inv.incidents }
    limits := fun inv => { inv with calls := hl inv.calls } }

/-- A change of an incident that keeps its calls within their bounds (R82). -/
theorem Ev.modIncident_within (e : Ev) (k : Nat) {f : Incident → Incident}
    (h : ∀ i, i.calls ≤ 65535 ∧ i.refs.length ≤ Config.callRefs →
      (f i).calls ≤ 65535 ∧ (f i).refs.length ≤ Config.callRefs) :
    Ev.Within [.reg] e (e.modIncident k f) :=
  e.setIncidents_within e.p.reg.serial (fun ⟨wf, keys⟩ => ⟨tableWf_tmod wf k _, by simpa using keys⟩)
    fun all => forall_mem_tmod (P := fun i : Incident => i.calls ≤ 65535 ∧ i.refs.length ≤ Config.callRefs) all h

/-! ## The Outage Ledger -/

theorem Ev.setRecords_within (e : Ev) {t : Table Outage}
    (ht : (tableWf e.p.led.records ∧ ∀ k ∈ tkeys e.p.led.records, k < Config.outageSlots) →
      tableWf t ∧ ∀ k ∈ tkeys t, k < Config.outageSlots)
    (hl : (∀ x ∈ e.p.led.records, x.2.weighted ≤ max40 ∧ x.2.service ≤ max40) →
      ∀ x ∈ t, x.2.weighted ≤ max40 ∧ x.2.service ≤ max40) :
    Ev.Within [.records] e { e with p.led.records := t } :=
  { Ev.Within.refl [.records] e with
    records := fun a => absurd (by decide) a
    tables := fun inv => { inv with records := ht inv.records }
    limits := fun inv => { inv with accumulators := hl inv.accumulators } }

/-- A change of a record that keeps its accumulators within their bounds (R189). -/
theorem Ev.modRecord_within (e : Ev) (k : Nat) {f : Outage → Outage}
    (h : ∀ o, o.weighted ≤ max40 ∧ o.service ≤ max40 → (f o).weighted ≤ max40 ∧ (f o).service ≤ max40) :
    Ev.Within [.records] e (e.modRecord k f) :=
  e.setRecords_within (fun ⟨wf, keys⟩ => ⟨tableWf_tmod wf k _, by simpa using keys⟩)
    fun all => forall_mem_tmod (P := fun o : Outage => o.weighted ≤ max40 ∧ o.service ≤ max40) all h

theorem Ev.mapRecords_within (e : Ev) {f : Nat → Outage → Outage}
    (h : ∀ k o, o.weighted ≤ max40 ∧ o.service ≤ max40 → (f k o).weighted ≤ max40 ∧ (f k o).service ≤ max40) :
    Ev.Within [.records] e { e with p.led.records := e.p.led.records.map fun x => (x.1, f x.1 x.2) } :=
  e.setRecords_within (fun ⟨wf, keys⟩ => ⟨tableWf_map wf f, by simpa using keys⟩) fun all x hx => by
    obtain ⟨y, hy, rfl⟩ := List.mem_map.mp hx
    exact h _ _ (all y hy)

/-- A new record in one of the 64 places. -/
theorem Ev.setRecord_within (e : Ev) {k : Nat}
    (hk : (∀ j ∈ tkeys e.p.led.records, j < Config.outageSlots) → k < Config.outageSlots) {o : Outage} (hw : o.weighted ≤ max40)
    (hs : o.service ≤ max40) : Ev.Within [.records] e { e with p.led.records := tset e.p.led.records k o } :=
  e.setRecords_within
    (fun ⟨wf, keys⟩ => ⟨tableWf_tset wf k o, fun j hj => (tkeys_tset_mem hj).elim (fun h => h ▸ hk keys) (keys j)⟩)
    fun all x hx => (mem_tset hx).elim (fun h => h ▸ ⟨hw, hs⟩) (all x)

theorem Ev.notePeaks_within (e : Ev) : Ev.Within [.records] e e.notePeaks :=
  e.mapRecords_within (f := fun k o => { o with peak := o.peak.most (recordPending e.p.net.pipes k) }) fun _ _ h => h

end Sys2Proof.Machine
end

section
/-! What the operations of the ledger and of the register leave alone. -/

namespace Sys2Proof.Machine

-- One theorem after another: theorems checked side by side each hold a thread and its stack.
set_option Elab.async false

/-! ## Keys chosen from a table -/

theorem foldl_pick_mem {α : Type} (p : α → α → Bool) (l : List α) (x : α) :
    l.foldl (fun best y => if p y best then y else best) x ∈ x :: l := by
  induction l generalizing x with
  | nil => exact List.mem_singleton.mpr rfl
  | cons y l ih =>
    obtain h | h := List.mem_cons.mp (ih (if p y x then y else x))
    · rw [List.foldl_cons, h]
      split <;> simp
    · exact List.mem_cons_of_mem _ (List.mem_cons_of_mem _ h)

theorem oldestKey_mem {l : List (Nat × Nat)} {k : Nat} (h : oldestKey l = some k) : ∃ t, (k, t) ∈ l := by
  cases l with
  | nil => cases h
  | cons x l =>
    have mem := foldl_pick_mem (fun y best : Nat × Nat => decide (y.2 < best.2)) l x
    simp only [oldestKey, Option.some.injEq] at h
    simp only [decide_eq_true_eq] at mem
    exact ⟨_, by rw [← h]; exact mem⟩

/-- A key that `oldestKey` chooses among the records of a table that pass a test is a key of the table. -/
theorem oldestKey_filterMap_mem {α : Type} {t : Table α} {g : Nat × α → Option (Nat × Nat)} {k : Nat}
    (h : oldestKey (t.filterMap g) = some k) (hg : ∀ x y, g x = some y → y.1 = x.1) : k ∈ tkeys t := by
  obtain ⟨time, mem⟩ := oldestKey_mem h
  obtain ⟨x, hx, hgx⟩ := List.mem_filterMap.mp mem
  exact List.mem_map.mpr ⟨x, hx, (hg x _ hgx).symm⟩

/-! ## The Outage Ledger -/

theorem Ev.openRecordZero_within (e : Ev) : Ev.Within [.records] e e.openRecordZero :=
  e.setRecord_within (fun _ => by decide) (Nat.zero_le _) (Nat.zero_le _)

theorem Ev.forgetRecord_within (e : Ev) (iso : Option IsoRef) : Ev.Within [.isos] e (e.forgetRecord iso) := by
  unfold Ev.forgetRecord
  split
  · exact .refl _ e
  · exact e.modIso_within _ (fun i => by split <;> rfl) fun i => by split <;> rfl

theorem Ev.recordSlot_lt {e : Ev} {k : Nat} (h : e.recordSlot = some k)
    (keys : ∀ j ∈ tkeys e.p.led.records, j < Config.outageSlots) : k < Config.outageSlots := by
  unfold Ev.recordSlot at h
  split at h
  · next k' hk =>
    obtain rfl := Option.some.inj h
    exact (lowestFree_some hk).2.1
  · exact keys k (oldestKey_filterMap_mem h fun x y hy => by split at hy <;> cases hy; rfl)

theorem Ev.openRecord_within (e : Ev) (r : IsoRef) : Ev.Within [.isos, .records] e (e.openRecord r) := by
  unfold Ev.openRecord
  split
  · exact .refl _ e
  · next k hk =>
    refine .last (Ev.modIso_within _ _ (fun _ => rfl) fun _ => rfl) ?_
    split
    · exact .of (e.setRecord_within (Ev.recordSlot_lt hk) (Nat.zero_le _) (Nat.zero_le _))
    · next old _ =>
      have forgot : Ev.Within [.isos, .records] e
          ((e.note .recordDiscarded k (be 1 (old.iso.getD ⟨0xFF, 0xFFFF⟩).slot
            ++ be 2 (old.iso.getD ⟨0xFF, 0xFFFF⟩).serial ++ beOpt 4 old.closed)).forgetRecord old.iso) :=
        .last (Ev.forgetRecord_within _ _) (.of (e.note_within _ _ _))
      have same := (Ev.forgetRecord_within (e.note .recordDiscarded k (be 1 (old.iso.getD ⟨0xFF, 0xFFFF⟩).slot
            ++ be 2 (old.iso.getD ⟨0xFF, 0xFFFF⟩).serial ++ beOpt 4 old.closed)) old.iso).records (by decide)
      exact .last (Ev.setRecord_within _ (fun keys => Ev.recordSlot_lt hk (by rw [same] at keys; exact keys))
        (Nat.zero_le _) (Nat.zero_le _)) forgot

theorem Ev.closeRecord_within (e : Ev) (k : Nat) : Ev.Within [.pipes, .records] e (e.closeRecord k) :=
  .last (Ev.modRecord_within _ k fun _ h => h) (.of (e.mapPipes_within _))

theorem Ev.closeRecordOf_within (e : Ev) (k : Option Nat) : Ev.Within [.pipes, .records] e (e.closeRecordOf k) := by
  cases k with
  | none => exact .refl _ e
  | some k => exact e.closeRecord_within k

theorem Ev.writeOff_within (e : Ev) (k : Nat) : Ev.Within [.pipes, .records] e (e.writeOff k).1 :=
  .last (Ev.modRecord_within _ k fun _ h => h) (.of (e.mapPipes_within _))

theorem Ev.relight_within (e : Ev) (pipe owner : Nat) (c : Counts) :
    Ev.Within [.pipes, .records] e (e.relight pipe owner c) :=
  .last (Ev.modRecord_within _ owner fun _ h => h) (.of (e.modPipe_within pipe _))

theorem Ev.absorb_within (e : Ev) (owner : Nat) : Ev.Within [.records] e (e.absorb owner) :=
  e.modRecord_within owner fun _ h => h

theorem Ev.attribute_within (e : Ev) (which : Nat → Bool) : Ev.Within [.pipes] e (e.attribute which) :=
  e.mapPipes_within _

theorem Outage.minute_bounded (o : Outage) (w pending : Counts) (h : o.weighted ≤ max40 ∧ o.service ≤ max40) :
    (o.minute w pending).weighted ≤ max40 ∧ (o.minute w pending).service ≤ max40 := by
  unfold Outage.minute
  split
  · exact ⟨Nat.min_le_left _ _, Nat.min_le_left _ _⟩
  · exact h

theorem Ev.minute_within (e : Ev) : Ev.Within [.records] e e.minute :=
  e.mapRecords_within (f := fun k o => o.minute e.p.led.weights (recordPending e.p.net.pipes k))
    fun _ o h => o.minute_bounded _ _ h

theorem Ev.closeRecordZero_within (e : Ev) : Ev.Within [.records] e e.closeRecordZero :=
  e.modRecord_within 0 fun _ h => by split <;> exact h

theorem Ev.closeIsolationRecords_within (e : Ev) : Ev.Within [.pipes, .records] e e.closeIsolationRecords :=
  .each (fun k e => e.closeRecord_within k) e _

theorem Ev.releaseClaims_within (e : Ev) (slot : Nat) (which : Nat → Bool) :
    Ev.Within [.pipes] e (e.releaseClaims slot which) := e.mapPipes_within _

/-! ## The Incident Register -/

theorem IncidentRegister.freeSlot_lt {r : IncidentRegister} {k : Nat} (h : r.freeSlot = some k)
    (keys : ∀ j ∈ tkeys r.table, j < Config.incidentSlots) : k < Config.incidentSlots := by
  unfold IncidentRegister.freeSlot at h
  split at h
  · next k' hk =>
    obtain rfl := Option.some.inj h
    exact (lowestFree_some hk).2.1
  · exact keys k (oldestKey_filterMap_mem h fun x y hy => by split at hy <;> cases hy; rfl)

theorem Ev.openIncident_within {e e' : Ev} {i i' : Incident} (h : e.openIncident i = some (e', i'))
    (hc : i.calls ≤ 65535) (hr : i.refs.length ≤ Config.callRefs) : Ev.Within [.reg] e e' := by
  unfold Ev.openIncident at h
  split at h
  · cases h
  · next k hk =>
    cases h
    exact e.setIncidents_within _
      (fun ⟨wf, keys⟩ => ⟨tableWf_tset wf _ _, fun j hj => (tkeys_tset_mem hj).elim
        (fun eq => eq ▸ IncidentRegister.freeSlot_lt hk keys) (keys j)⟩)
      fun all x hx => (mem_tset hx).elim (fun eq => by rw [eq]; exact ⟨hc, hr⟩) (all x)

theorem Ev.noteIncidentNew_within (e : Ev) (i : Incident) : Ev.Within [] e (e.noteIncidentNew i) := e.note_within _ _ _

theorem Ev.noteTableFull_within (e : Ev) (kind : IncidentKind) (pipe : Option Nat) :
    Ev.Within [] e (e.noteTableFull kind pipe) := e.note_within _ _ _

theorem Ev.askIncident_within (e : Ev) (kind : IncidentKind) (station : Option Nat) (tier : Tier) :
    Ev.Within [.reg] e (e.askIncident kind station tier) := by
  unfold Ev.askIncident
  split
  · exact .refl _ e
  · dsimp only
    split
    · next h => exact .last (Ev.noteIncidentNew_within _ _) (Ev.openIncident_within h (Nat.zero_le _) (Nat.zero_le _))
    · exact .of (e.noteTableFull_within _ _)

theorem Incident.merge_bounded (i : Incident) (call : Nat) (kind : IncidentKind) (grade deadline now : Nat)
    (inSec family : Bool) (h : i.refs.length ≤ Config.callRefs) :
    (i.merge call kind grade deadline now inSec family).calls ≤ 65535
      ∧ (i.merge call kind grade deadline now inSec family).refs.length ≤ Config.callRefs := by
  have refs : (if i.refs.length < Config.callRefs then i.refs ++ [call] else i.refs).length ≤ Config.callRefs := by
    split
    · rw [List.length_append]; assumption
    · exact h
  unfold Incident.merge
  dsimp only
  split <;> exact ⟨Nat.min_le_left _ _, refs⟩

theorem tget_forall {α : Type} {t : Table α} {n : Nat} {v : α} {P : α → Prop} (h : tget t n = some v)
    (all : ∀ x ∈ t, P x.2) : P v := all _ (mem_of_tget h)

theorem Ev.mergeCall_within (e : Ev) (slot call : Nat) (kind : IncidentKind) (grade : Nat) (inSec family : Bool)
    (pipe : Option Nat) (href : List Byte) :
    Ev.Within [.reg] e (e.mergeCall slot call kind grade inSec family pipe href).1 := by
  unfold Ev.mergeCall
  split
  · exact .refl _ e
  · next i hi =>
    refine e.setIncidents_within e.p.reg.serial (fun ⟨wf, keys⟩ => ⟨tableWf_tmod wf _ _, by simpa using keys⟩)
      fun all => forall_mem_tmod (P := fun i : Incident => i.calls ≤ 65535 ∧ i.refs.length ≤ Config.callRefs) all
        fun _ _ => ?_
    obtain ⟨-, refs⟩ := tget_forall (P := fun i : Incident => i.calls ≤ 65535 ∧ i.refs.length ≤ Config.callRefs) hi all
    exact i.merge_bounded _ _ _ _ _ _ _ refs

theorem Ev.openForCall_within (e : Ev) (call : Nat) (called : IncidentKind) (i : Incident) (pipe : Option Nat)
    (href : List Byte) : Ev.Within [.reg] e (e.openForCall call called i pipe href).1 := by
  unfold Ev.openForCall
  split
  · next h => exact Ev.openIncident_within h (by decide : 1 ≤ 65535) (by decide : 1 ≤ 16)
  · exact .of (e.noteTableFull_within _ _)

theorem Ev.takeCall_within (e : Ev) (call : Nat) (kind : IncidentKind) (key : Nat) (href : List Byte) :
    Ev.Within [.reg, .records] e (e.takeCall call kind key href).1 := by
  unfold Ev.takeCall
  dsimp only
  split
  · exact .refl _ e
  · split
    · exact .of (Ev.openForCall_within _ _ _ _ _ _)
    · split
      · exact .of (e.absorb_within _)
      · split
        · split
          · exact .of (Ev.mergeCall_within _ _ _ _ _ _ _ _ _)
          · exact .of (Ev.openForCall_within _ _ _ _ _ _)
        · split
          · exact .of (Ev.mergeCall_within _ _ _ _ _ _ _ _ _)
          · exact .of (Ev.openForCall_within _ _ _ _ _ _)

theorem Ev.call_within (e : Ev) (q : Req) : Ev.Within [.reg, .records] e (e.call q).1 := by
  unfold Ev.call
  split
  · exact .refl _ e
  · split
    · exact .refl _ e
    · split
      · exact .refl _ e
      · exact e.takeCall_within _ _ _ _

theorem Ev.unlinkIso_within (e : Ev) (iso : Option IsoRef) (incident : Nat) :
    Ev.Within [.isos] e (e.unlinkIso iso incident) := by
  unfold Ev.unlinkIso
  split
  · exact .refl _ e
  · exact e.modIso_within _ (fun i => by split <;> rfl) fun i => by split <;> rfl

theorem Ev.incidentUpdate_within (e : Ev) (q : Req) : Ev.Within [.reg, .isos] e (e.incidentUpdate q).1 := by
  unfold Ev.incidentUpdate
  split
  · exact .refl _ e
  · split
    · exact .refl _ e
    · split
      · exact .refl _ e
      · exact .refl _ e
      · split
        · exact .refl _ e
        · split
          · exact .refl _ e
          · dsimp only
            split
            · exact .last (Ev.unlinkIso_within _ _ _) (.of (e.modIncident_within _ fun _ h => h))
            · exact .of (e.modIncident_within _ fun _ h => h)

theorem Ev.deadlineExpiry_within (e : Ev) (id : Nat) : Ev.Within [.reg] e (e.deadlineExpiry id) := by
  unfold Ev.deadlineExpiry
  split
  · exact .refl _ e
  · exact .ite (.last (Ev.note_within _ _ _ _) (e.modIncident_within _ fun _ h => h)) (.refl _ e)

theorem Ev.madeSafe_within (e : Ev) (incident : Option Nat) (r : IsoRef) : Ev.Within [.reg] e (e.madeSafe incident r) := by
  unfold Ev.madeSafe
  split
  · exact .refl _ e
  · exact .ite (.last (Ev.note_within _ _ _ _) (e.modIncident_within _ fun _ h => h)) (.refl _ e)

theorem Ev.unlinkIncident_within (e : Ev) (incident : Option Nat) (r : IsoRef) :
    Ev.Within [.reg] e (e.unlinkIncident incident r) := by
  unfold Ev.unlinkIncident
  split
  · exact .refl _ e
  · exact e.modIncident_within _ fun _ h => by split <;> exact h

end Sys2Proof.Machine
end

section
/-! What the operations on orders and holds leave alone. -/

namespace Sys2Proof.Machine

-- One theorem after another: theorems checked side by side each hold a thread and its stack.
set_option Elab.async false

/-! ## A change of state, and the stalls -/

theorem Isolation.moveTo_fixed (i : Isolation) (new : IsoState) (now : Nat) : (i.moveTo new now).fixed = i.fixed := by
  unfold Isolation.moveTo
  dsimp only
  split <;> split <;> split <;> rfl

theorem Isolation.moveTo_plan (i : Isolation) (new : IsoState) (now : Nat) : (i.moveTo new now).plan = i.plan := by
  unfold Isolation.moveTo
  dsimp only
  split <;> split <;> split <;> rfl

theorem Ev.setIso_within (e : Ev) (slot : Nat) (new : IsoState) (cause : IsoCause) (other : Other) (left : Nat) :
    Ev.Within [.isos] e (e.setIso slot new cause other left) := by
  unfold Ev.setIso
  split
  · exact .refl _ e
  · exact .last (Ev.noteIso_within _ _ _ _ _ _ _ _)
      (e.modIso_within slot (fun i => i.moveTo_fixed new e.now) fun i => i.moveTo_plan new e.now)

theorem Ev.stall_within (e : Ev) (slot : Nat) (cause : StallCause) (object frozen : Option Nat) (values : Int × Int) :
    Ev.Within [.isos] e (e.stall slot cause object frozen values) := by
  unfold Ev.stall
  split
  · exact .refl _ e
  · split
    · exact .refl _ e
    · exact .ite (.refl _ e) (.last (Ev.note_within _ _ _ _) (Ev.modIso_within _ _ (fun _ => rfl) fun _ => rfl))

theorem Ev.blockedStall_within (e : Ev) (r : IsoRef) (link : Nat) : Ev.Within [.isos] e (e.blockedStall r link) := by
  unfold Ev.blockedStall
  split
  · exact .refl _ e
  · exact .ite (e.stall_within _ _ _ _ _) (.refl _ e)

/-! ## Orders -/

theorem Ev.finishOrder_within (e : Ev) (id : Nat) (st : OrderState) (cause : FinishCause) :
    Ev.Within [.orders, .controls] e (e.finishOrder id st cause) := by
  unfold Ev.finishOrder
  split
  · exact .refl _ e
  · exact .last (Ev.note_within _ _ _ _) (.last (Ev.modOrderField_within _ _ (fun _ => rfl) fun _ => rfl)
      (.of (e.modOrder_within _ _)))

theorem IsolationController.makeRoom_wf {c : IsolationController} (h : tableWf c.orders) : tableWf c.makeRoom := by
  unfold IsolationController.makeRoom
  split
  · exact h
  · split
    · exact tableWf_terase h _
    · exact h

theorem Ev.issueNow_within (e : Ev) (r : IsoRef) (link : Nat) (action : OrderAction) :
    Ev.Within [.orders, .controls] e (e.issueNow r link action) :=
  .last (Ev.note_within _ _ _ _) (.last (Ev.modOrderField_within _ _ (fun _ => rfl) fun _ => rfl)
    (.of (e.setOrders_within _ fun wf => tableWf_tset (IsolationController.makeRoom_wf wf) _ _)))

theorem Ev.issue_within (e : Ev) (slot link : Nat) (action : OrderAction) :
    Ev.Within [.isos, .orders, .controls] e (e.issue slot link action).1 := by
  unfold Ev.issue
  split
  · exact .refl _ e
  · split
    · exact .of (e.issueNow_within _ _ _)
    · exact .of (Ev.modIso_within _ _ (fun _ => rfl) fun _ => rfl)

theorem Ev.issueAll_within (slot : Nat) (action : OrderAction) (ls : List Nat) (e : Ev) :
    Ev.Within [.isos, .orders, .controls] e (Ev.issueAll slot action ls e).1 := by
  induction ls generalizing e with
  | nil => exact .refl _ e
  | cons l ls ih =>
    have both := (e.issue_within slot l action).trans (ih (e.issue slot l action).1)
    unfold Ev.issueAll
    dsimp only
    split <;> exact both

theorem Ev.serve_within (fuel : Nat) (e : Ev) : Ev.Within [.isos, .orders, .controls] e (Ev.serve fuel e) := by
  induction fuel generalizing e with
  | zero => exact .refl _ e
  | succ fuel ih =>
    unfold Ev.serve
    split
    · split
      · exact .refl _ e
      · split
        · exact .refl _ e
        · dsimp only
          refine .trans ?_ (ih _)
          split
          · exact .last (Ev.issueNow_within _ _ _ _) (.of (Ev.modIso_within _ _ (fun _ => rfl) fun _ => rfl))
          · exact .of (Ev.modIso_within _ _ (fun _ => rfl) fun _ => rfl)
    · exact .refl _ e

theorem Ev.arbitrate_within (e : Ev) : Ev.Within [.isos, .orders, .controls] e e.arbitrate := Ev.serve_within _ e

theorem Ev.dropEntries_within (e : Ev) (link : Nat) (which : OrderAction → Bool) :
    Ev.Within [.isos] e (e.dropEntries link which) :=
  e.mapIsos_within (f := fun _ i => { i with toIssue := i.toIssue.filter fun y => !(y.link = link && which y.action) })
    (fun _ _ => rfl) fun _ _ => rfl

/-! ## Holds -/

theorem Ev.releaseHolds_within (e : Ev) (slot : Nat) (links : List Nat) :
    Ev.Within [.isos, .controls, .holders] e (e.releaseHolds slot links) := by
  refine .last (Ev.modIso_within _ _ (fun _ => rfl) fun _ => rfl)
    (.of (B := [.controls, .holders]) (.each (fun l e => ?_) e links))
  exact e.modHolders_within l fun _ => rfl

theorem Ev.withdrawOpen_within (e : Ev) (link : Nat) :
    Ev.Within [.isos, .orders, .controls] e (e.withdrawOpen link) := by
  unfold Ev.withdrawOpen
  split
  · exact .ite (.last (Ev.blockedStall_within _ _ _) (.of (e.finishOrder_within _ _ _))) (.refl _ e)
  · exact .refl _ e

theorem Ev.takeHolds_within (e : Ev) (slot : Nat) (links : List Nat) :
    Ev.Within [.isos, .orders, .controls, .holders] e (e.takeHolds slot links) := by
  refine .last (Ev.modIso_within _ _ (fun _ => rfl) fun _ => rfl)
    (.last (B := [.controls, .holders]) (.each (fun l e => ?_) _ links)
      (.last (.each (fun l e => e.withdrawOpen_within l) _ links)
        (.of (B := [.isos]) (.each (fun l e => ?_) e links))))
  · exact e.modHolders_within l fun _ => rfl
  · exact e.dropEntries_within l _

/-! ## The return to planning -/

/-- What a return to planning, or anything that follows a lost member, may change. -/
abbrev Part.replanning : List Part := [.isos, .orders, .controls, .holders, .trace, .ask]

/-- One link after another is ordered closed again for its lowest holder in CLOSING, or its holders fail with it
(R144). -/
theorem Ev.retest_within {fail : List Nat → Nat → Ev → Ev}
    (step : ∀ hs l e, Ev.Within Part.replanning e (fail hs l e)) (e : Ev) (l : Nat) :
    Ev.Within Part.replanning e
      (match e.closingHolders l with
      | [] => e
      | h :: hs =>
        if e.isClosed l || (e.orderOf? l).isSome then e
        else if e.workable l then (e.issue h l .close).1
        else fail (h :: hs) l e) := by
  split
  · exact .refl _ e
  · exact .ite (.refl _ e) (.ite (.of (e.issue_within _ _ _)) (step _ _ e))

theorem Ev.memberFailed_within (fuel slot link : Nat) (e : Ev) :
    Ev.Within Part.replanning e (Ev.memberFailed fuel slot link e) := by
  induction fuel generalizing slot link e with
  | zero => exact .refl _ e
  | succ fuel ih =>
    unfold Ev.memberFailed
    split
    · exact .refl _ e
    · split
      · exact .refl _ e
      · refine .trans ?_ (.each (fun l e => ?_) _ _)
        · exact .last (Ev.askRecompute_within _) (.last (Ev.askTrace_within _ _)
            (.last (.each (A := [.orders, .controls]) (fun id e => e.finishOrder_within id _ _) _ _)
              (.last (Ev.setIso_within _ _ _ _ _ _) (.last (Ev.modIso_within _ _ (fun _ => rfl) fun _ => rfl)
                (.of (e.releaseHolds_within _ _))))))
        · exact Ev.retest_within (fail := fun hs l e => e.each hs fun s e => Ev.memberFailed fuel s l e)
            (fun hs l e => .each (fun s e => ih s l e) e hs) e l

theorem Ev.failMembers_within (e : Ev) (slots : List Nat) (link : Nat) :
    Ev.Within Part.replanning e (e.failMembers slots link) :=
  .each (fun s e => Ev.memberFailed_within _ s link e) e slots

theorem Ev.withdrawCloses_within (e : Ev) (r : IsoRef) (released : List Nat) :
    Ev.Within Part.replanning e (e.withdrawCloses r released) := by
  refine .trans (.of (B := [.orders, .controls]) (.each (fun id e => e.finishOrder_within id _ _) e _))
    (.each (fun l e => ?_) _ _)
  exact Ev.retest_within (fail := fun hs l e => e.failMembers hs l) (fun hs l e => e.failMembers_within hs l) e l

theorem Ev.unworkable_within (e : Ev) (link : Nat) (cause : FinishCause) :
    Ev.Within Part.replanning e (e.unworkable link cause) := by
  have failed (f : Ev) (closers listed : List Nat) :
      Ev.Within Part.replanning f (((f.failMembers closers link).failMembers listed link).dropEntries link fun _ => true) :=
    .last (Ev.dropEntries_within _ _ _) (.last (Ev.failMembers_within _ _ _) (.of (f.failMembers_within _ _)))
  unfold Ev.unworkable
  cases h : e.orderOf? link with
  | none => exact failed e _ _
  | some x =>
    have all := fun closers listed => Ev.Within.trans (.of (e.finishOrder_within x.1 .failed cause))
      (failed (e.finishOrder x.1 .failed cause) closers listed)
    exact .ite (.last (Ev.blockedStall_within _ _ _) (.last (Ev.note_within _ _ _ _) (all _ _))) (all _ _)

theorem Ev.orderOverdue_within (e : Ev) (id : Nat) : Ev.Within [.orders] e (e.orderOverdue id) := by
  unfold Ev.orderOverdue
  split
  · exact .refl _ e
  · exact .ite (.last (Ev.note_within _ _ _ _) (e.modOrder_within _ _)) (.refl _ e)

theorem Ev.withdrawOpens_within (e : Ev) (r : IsoRef) : Ev.Within [.orders, .controls] e (e.withdrawOpens r) :=
  .each (fun id e => e.finishOrder_within id _ _) e _

/-! ## The end of an event -/

theorem Ev.unmark_within (e : Ev) : Ev.Within [.regen] e { e with bumped := false } :=
  { Ev.Within.refl [.regen] e with
    still := fun _ a => absurd (by decide) a
    once := fun a => absurd (by decide) a }

theorem Ev.settle_within (e : Ev) :
    Ev.Within [.regen, .isos, .orders, .controls, .records, .trace, .ask] e e.settle :=
  .last (Ev.takeJob_within _) (.last (Ev.watchRecompute_within _) (.last (Ev.watchCheck_within _)
    (.last (Ev.notePeaks_within _) (.last (Ev.arbitrate_within _) (.of e.unmark_within)))))

end Sys2Proof.Machine
end

section
/-! What the operations on isolations, their ramps and the crew reports leave alone. -/

namespace Sys2Proof.Machine

-- One theorem after another: theorems checked side by side each hold a thread and its stack.
set_option Elab.async false

/-- What an event at the isolations may change: neither a position nor a plan, and which isolations there are stays. -/
abbrev Part.operating : List Part :=
  [.isos, .orders, .controls, .holders, .trace, .ask, .pipes, .records, .reg, .bump]

/-! ## Waiting and the terminal states -/

theorem Ev.waitOver_within (e : Ev) (slot : Nat) : Ev.Within [.isos, .trace] e (e.waitOver slot) :=
  .last (Ev.askTrace_within _ _) (.last (Ev.setIso_within _ _ _ _ _ _) (.of (e.modIso_within slot (fun _ => rfl) fun _ => rfl)))

theorem Ev.wake_within (e : Ev) (r : IsoRef) : Ev.Within [.isos, .trace] e (e.wake r) :=
  .each (fun k e => e.waitOver_within k) e _

theorem Ev.endIso_within (e : Ev) (slot : Nat) (new : IsoState) (cause : IsoCause) (other : Other) (left : Nat) :
    Ev.Within [.isos, .trace, .reg] e (e.endIso slot new cause other left) := by
  unfold Ev.endIso
  split
  · exact .refl _ e
  · exact .last (Ev.wake_within _ _) (.last (Ev.modIso_within _ _ (fun _ => rfl) fun _ => rfl)
      (.last (Ev.unlinkIncident_within _ _ _) (.of (e.setIso_within _ _ _ _ _))))

theorem Ev.tearDown_within (e : Ev) (slot : Nat) : Ev.Within Part.operating e (e.tearDown slot).1 := by
  unfold Ev.tearDown
  split
  · exact .refl _ e
  · exact .last (Ev.closeRecordOf_within _ _) (.last (Ev.askRecompute_within _) (.last (Ev.bump_within _)
      (.last (Ev.releaseClaims_within _ _ _) (.last (Ev.modIso_within _ _ (fun _ => rfl) fun _ => rfl)
        (.last (Ev.withdrawOpens_within _ _) (.last (Ev.withdrawCloses_within _ _ _)
          (.of (e.releaseHolds_within _ _))))))))

theorem Ev.giveUp_within (e : Ev) (slot : Nat) (new : IsoState) (cause : IsoCause) (other : Other) :
    Ev.Within Part.operating e (e.giveUp slot new cause other) := by
  unfold Ev.giveUp
  split
  · exact .refl _ e
  · split
    · exact .last (Ev.endIso_within _ _ _ _ _ _) (e.tearDown_within slot)
    · exact .of (e.endIso_within _ _ _ _ _)

theorem Ev.failIso_within (e : Ev) (slot : Nat) (reason : FailReason) (cause : IsoCause) (other : Other) :
    Ev.Within Part.operating e (e.failIso slot reason cause other) :=
  .last (Ev.giveUp_within _ _ _ _ _) (.of (e.modIso_within slot (fun _ => rfl) fun _ => rfl))

/-! ## Verification -/

theorem Ev.enterEffective_within (e : Ev) (slot : Nat) (cause : IsoCause) :
    Ev.Within [.isos, .reg, .ask] e (e.enterEffective slot cause) := by
  unfold Ev.enterEffective
  split
  · exact .refl _ e
  · exact .last (Ev.askRecompute_within _) (.last (Ev.madeSafe_within _ _ _)
      (.last (Ev.modIso_within _ _ (fun _ => rfl) fun _ => rfl) (.of (e.setIso_within _ _ _ _ _))))

theorem Ev.verified_within (e : Ev) (slot : Nat) (result : Verification) (cause : IsoCause) :
    Ev.Within [.isos, .reg, .ask] e (e.verified slot result cause) :=
  .last (Ev.enterEffective_within _ _ _) (.of (e.modIso_within slot (fun _ => rfl) fun _ => rfl))

theorem Ev.decayCheck_within (e : Ev) (slot : Nat) : Ev.Within [.isos, .reg, .ask] e (e.decayCheck slot) := by
  unfold Ev.decayCheck
  split
  · exact .refl _ e
  · exact .ite (e.verified_within _ _ _) (.refl _ e)

theorem Ev.enterVerifying_within (e : Ev) (slot : Nat) : Ev.Within [.isos, .reg, .ask] e (e.enterVerifying slot) := by
  have cleared : Ev.Within [.isos, .reg, .ask] e (e.modIso slot fun i => { i with result := .none }).askRecompute :=
    .last (Ev.askRecompute_within _) (.of (e.modIso_within slot (fun _ => rfl) fun _ => rfl))
  unfold Ev.enterVerifying
  dsimp only
  split
  · exact cleared
  · split
    · exact cleared.andThen (Ev.verified_within _ _ _ _)
    · exact .last (Ev.decayCheck_within _ _) (.last (Ev.modIso_within _ _ (fun _ => rfl) fun _ => rfl) cleared)

theorem Ev.closingCheck_within (e : Ev) (slot : Nat) : Ev.Within [.isos, .reg, .ask] e (e.closingCheck slot) := by
  unfold Ev.closingCheck
  split
  · exact .refl _ e
  · exact .ite (.last (Ev.enterVerifying_within _ _) (.of (e.setIso_within _ _ _ _ _))) (.refl _ e)

theorem Ev.notePassing_within (e : Ev) (slot serial above lowest : Nat) :
    Ev.Within [] e (e.notePassing slot serial above lowest) := e.note_within _ _ _

theorem Ev.verifyExpiry_within (e : Ev) (slot : Nat) : Ev.Within [.isos, .reg, .ask] e (e.verifyExpiry slot) := by
  unfold Ev.verifyExpiry
  split
  · exact .refl _ e
  · split
    · have stopped : Ev.Within [.isos, .reg, .ask] e (e.modIso slot fun i => { i with verifyTimer := none }) :=
        .of (e.modIso_within slot (fun _ => rfl) fun _ => rfl)
      dsimp only
      split
      · exact stopped.andThen (Ev.verified_within _ _ _ _)
      · split
        · exact stopped.andThen (Ev.verified_within _ _ _ _)
        · exact .last (Ev.notePassing_within _ _ _ _ _) (.last (Ev.modIso_within _ _ (fun _ => rfl) fun _ => rfl) stopped)
    · exact .refl _ e

/-! ## Authorisation, and the outcome of a trace -/

theorem Ev.claimSection_within (e : Ev) (slot : Nat) (pipes : List Nat) :
    Ev.Within [.pipes] e (e.claimSection slot pipes) := e.mapPipes_within _

/-- The authorisation step up to its fork: claims, holds, one bump, a record, the authoriser's mark (R122). -/
def Ev.authReady (e : Ev) (slot authoriser : Nat) (i : Isolation) : Ev :=
  let e := (e.releaseClaims slot fun k => !i.section?.contains k).claimSection slot i.section?
  let e := (e.takeHolds slot (i.closure.filter fun l => !i.holds.contains l)).bump
  let e := if i.outage.isSome then e else e.openRecord ⟨slot, i.serial⟩
  (e.modIso slot fun i =>
    { i with result := .none, carry := none, authoriser := some authoriser, authTime := some (i.authTime.getD e.now) }).askRecompute

theorem Ev.authStep_eq {e : Ev} {slot : Nat} {i : Isolation} (h : e.iso? slot = some i) (authoriser : Nat)
    (cause : IsoCause) :
    e.authStep slot authoriser cause =
      if (e.authReady slot authoriser i).allClosed i then
        (((e.authReady slot authoriser i).setIso slot .verifying cause).enterVerifying slot, 0, 0)
      else Ev.issueAll slot .close ((e.authReady slot authoriser i).needingClose i)
        ((e.authReady slot authoriser i).setIso slot .closing cause) := by
  unfold Ev.authStep
  rw [h]
  rfl

theorem Ev.authReady_within (e : Ev) (slot authoriser : Nat) (i : Isolation) :
    Ev.Within Part.operating e (e.authReady slot authoriser i) := by
  have held : Ev.Within Part.operating e
      (((e.releaseClaims slot fun k => !i.section?.contains k).claimSection slot i.section?).takeHolds slot
        (i.closure.filter fun l => !i.holds.contains l)).bump :=
    .last (Ev.bump_within _) (.last (Ev.takeHolds_within _ _ _) (.last (Ev.claimSection_within _ _ _)
      (.of (e.releaseClaims_within _ _))))
  exact .last (Ev.askRecompute_within _) (.last (Ev.modIso_within _ _ (fun _ => rfl) fun _ => rfl)
    (.ite held (.last (Ev.openRecord_within _ _) held)))

theorem Ev.authStep_within (e : Ev) (slot authoriser : Nat) (cause : IsoCause) :
    Ev.Within Part.operating e (e.authStep slot authoriser cause).1 := by
  cases h : e.iso? slot with
  | none =>
    unfold Ev.authStep
    rw [h]
    exact .refl _ e
  | some i =>
    rw [Ev.authStep_eq h]
    have ready := e.authReady_within slot authoriser i
    generalize e.authReady slot authoriser i = f at *
    split
    · exact .last (Ev.enterVerifying_within _ _) (.last (Ev.setIso_within _ _ _ _ _ _) ready)
    · exact .last (Ev.issueAll_within _ _ _ _) (.last (Ev.setIso_within _ _ _ _ _ _) ready)

/-- A new value for an isolation that stands in the slot. -/
theorem Ev.setIsolation_within {e : Ev} {slot : Nat} {old new : Isolation} (h : e.iso? slot = some old)
    (hf : new.fixed = old.fixed) : Ev.Within [.isos, .plans] e (e.modIso slot fun _ => new) :=
  { Ev.Within.refl [.isos, .plans] e with
    isos := fun a => absurd (by decide) a
    fixed := fun _ j => by
      simp only [Ev.modIso_iso?]
      split
      · next hj => rw [hj, h, Option.map_some, Option.map_some, Option.map_some, hf]
      · rfl
    plans := fun _ a => absurd (by decide) a
    tables := fun inv => inv.modIsos slot _
    limits := fun inv => { inv with } }

/-- The members a handed-on plan no longer names, of those held (R125). -/
def Isolation.loose (i : Isolation) : List Nat := i.holds.filter fun l => !i.closure.contains l

/-- A handed-on plan stored, with the holds and claims outside it released (R115, R125). -/
def Ev.freedFor (e : Ev) (slot : Nat) (i : Isolation) : Ev :=
  let e := e.modIso slot fun _ => i
  if i.authorised then
    ((e.releaseHolds slot i.loose).withdrawCloses ⟨slot, i.serial⟩ i.loose).releaseClaims slot
      fun k => !i.section?.contains k
  else e

/-- A handed-on plan loosens a hold or a claim of an isolation authorised before (R125). -/
def Ev.loosens (e : Ev) (slot : Nat) (i : Isolation) : Bool :=
  i.authorised && (!i.loose.isEmpty || (e.claimed slot).any fun k => !i.section?.contains k)

/-- The last step of a handed-on plan that is not carried through (R115, R125). -/
def Ev.toPlanned (e : Ev) (slot : Nat) (p : Plan) (changed : Bool) (cause : IsoCause) (other : Other) : Ev :=
  let e := if changed then e.bump else e
  (e.modIso slot fun i =>
    { i with carry := none, plan := if changed then some { p with gen := e.p.net.generation } else i.plan }).setIso slot
      .planned cause other

theorem Ev.takePlan_eq {e : Ev} {slot : Nat} {old : Isolation} (h : e.iso? slot = some old) (p : Plan) :
    e.takePlan slot p =
      let i := { old with plan := some p }
      let f := e.freedFor slot i
      match old.carry with
      | some authoriser =>
        if f.emergency i then
          match f.shareLimit slot i.closure with
          | some l => f.toPlanned slot p (e.loosens slot i) .shareLimit (.link l)
          | none => (f.authStep slot authoriser .carried).1
        else f.toPlanned slot p (e.loosens slot i) .plan .nothing
      | none => f.toPlanned slot p (e.loosens slot i) .plan .nothing := by
  unfold Ev.takePlan
  rw [h]
  rfl

theorem Ev.freedFor_within {e : Ev} {slot : Nat} {old new : Isolation} (h : e.iso? slot = some old)
    (hf : new.fixed = old.fixed) : Ev.Within (.plans :: Part.operating) e (e.freedFor slot new) := by
  have stored := Ev.Within.of (A := .plans :: Part.operating) (Ev.setIsolation_within h hf)
  exact .ite (.last (Ev.releaseClaims_within _ _ _) (.last (Ev.withdrawCloses_within _ _ _)
    (.last (Ev.releaseHolds_within _ _ _) stored))) stored

theorem Ev.toPlanned_within (e : Ev) (slot : Nat) (p : Plan) (changed : Bool) (cause : IsoCause) (other : Other) :
    Ev.Within [.isos, .plans, .bump] e (e.toPlanned slot p changed cause other) :=
  .last (Ev.setIso_within _ _ _ _ _ _) (.last (Ev.modIso_plan_within _ _ fun _ => rfl)
    (.ite (.of e.bump_within) (.refl _ e)))

theorem Ev.takePlan_within (e : Ev) (slot : Nat) (p : Plan) :
    Ev.Within (.plans :: Part.operating) e (e.takePlan slot p) := by
  cases h : e.iso? slot with
  | none =>
    unfold Ev.takePlan
    rw [h]
    exact .refl _ e
  | some old =>
    rw [Ev.takePlan_eq h]
    have freed := Ev.freedFor_within (new := { old with plan := some p }) h rfl
    dsimp only
    split
    · split
      · split
        · exact .last (Ev.toPlanned_within _ _ _ _ _ _) freed
        · exact .last (Ev.authStep_within _ _ _ _) freed
      · exact .last (Ev.toPlanned_within _ _ _ _ _ _) freed
    · exact .last (Ev.toPlanned_within _ _ _ _ _ _) freed

theorem Ev.takeConflict_within (e : Ev) (slot : Nat) (r : IsoRef) :
    Ev.Within Part.operating e (e.takeConflict slot r) := by
  unfold Ev.takeConflict
  split
  · exact .refl _ e
  · split
    · have waiting : Ev.Within Part.operating e
          ((e.modIso slot fun i => { i with waitingOn := some r, carry := none }).setIso slot .waiting .conflict (.iso r)) :=
        .last (Ev.setIso_within _ _ _ _ _ _) (.of (e.modIso_within slot (fun _ => rfl) fun _ => rfl))
      exact .ite (.last (Ev.waitOver_within _ _) waiting) waiting
    · exact e.failIso_within _ _ _ _

theorem Ev.takeOutcome_within (e : Ev) (slot : Nat) (o : Outcome) :
    Ev.Within (.plans :: Part.operating) e (e.takeOutcome slot o) := by
  cases o with
  | plan p => exact e.takePlan_within slot p
  | conflict r => exact .of (e.takeConflict_within slot r)
  | failure f => exact .of (e.failIso_within slot f _ _)

/-! ## Requests on isolations -/

theorem Ev.onNamed_within {A : List Part} {e : Ev} {p : List Byte} {act : Nat → Isolation → Ev × Reply}
    (h : ∀ slot i, Ev.Within A e (act slot i).1) : Ev.Within A e (e.onNamed p act).1 := by
  unfold Ev.onNamed
  split
  · exact .refl _ e
  · split
    · exact .refl _ e
    · exact h _ _

theorem IsolationController.freeSlot_lt {c : IsolationController} {k : Nat} (h : c.freeSlot = some k)
    (keys : ∀ j ∈ tkeys c.isos, j < Config.isolationSlots) : k < Config.isolationSlots := by
  unfold IsolationController.freeSlot at h
  split at h
  · next k' hk =>
    obtain rfl := Option.some.inj h
    exact (lowestFree_some hk).2.1
  · exact keys k (oldestKey_filterMap_mem h fun x y hy => by split at hy <;> cases hy; rfl)

/-- An isolation in a slot, whether or not one stood there. -/
theorem Ev.putIsolation_within (e : Ev) {slot : Nat} (i : Isolation) (serial : Nat)
    (hk : (∀ j ∈ tkeys e.p.ctl.isos, j < Config.isolationSlots) → slot < Config.isolationSlots) :
    Ev.Within [.isos, .plans, .slots] e { e with p.ctl.isos := tset e.p.ctl.isos slot i, p.ctl.serial := serial } :=
  { Ev.Within.refl [.isos, .plans, .slots] e with
    isos := fun a => absurd (by decide) a
    fixed := fun a => absurd (by decide) a
    serial := fun a => absurd (by decide) a
    plans := fun a => absurd (by decide) a
    tables := fun inv =>
      { inv with
        isolations := ⟨tableWf_tset inv.isolations.1 _ _, fun j hj => (tkeys_tset_mem hj).elim
          (fun h => h ▸ hk inv.isolations.2) (inv.isolations.2 j)⟩ }
    limits := fun inv => { inv with } }

/-- What a request for a new isolation may change. -/
abbrev Part.founding : List Part := [.isos, .plans, .slots, .reg, .trace]

theorem Ev.newIsolation_within (e : Ev) (origin : Nat) (targets : List Nat) (hold : Bool)
    (incident : Option (Nat × Incident)) {slot : Nat} (h : e.p.ctl.freeSlot = some slot) :
    Ev.Within Part.founding e (e.newIsolation origin targets hold incident slot).1 := by
  unfold Ev.newIsolation
  refine .last (Ev.noteIso_within _ _ _ _ _ _ _ _) (.last (Ev.askTrace_within _ _) ?_)
  split
  · exact .last (Ev.modIncident_within _ _ fun _ h => h)
      (.of (e.putIsolation_within _ _ (IsolationController.freeSlot_lt h)))
  · exact .of (e.putIsolation_within _ _ (IsolationController.freeSlot_lt h))

theorem Ev.isolateNamed_within (e : Ev) (origin : Nat) (ts : List Nat) (hold : Bool)
    (named : Option (Nat × Incident)) : Ev.Within Part.founding e (e.isolateNamed origin ts hold named).1 := by
  unfold Ev.isolateNamed
  split
  · exact .refl _ e
  · split
    · exact .refl _ e
    · split
      · exact .refl _ e
      · next h => exact e.newIsolation_within _ _ _ _ h

theorem Ev.isolate_within (e : Ev) (q : Req) : Ev.Within Part.founding e (e.isolate q).1 := by
  unfold Ev.isolate
  iterate 5 (split; · exact .refl _ e)
  split
  · split
    · exact .refl _ e
    · exact e.isolateNamed_within _ _ _ _
  · split
    · exact .refl _ e
    · exact e.isolateNamed_within _ _ _ _

theorem Ev.authoriseNamed_within (e : Ev) (origin slot : Nat) (i : Isolation) :
    Ev.Within Part.operating e (e.authoriseNamed origin slot i).1 := by
  unfold Ev.authoriseNamed
  split
  · exact .refl _ e
  · split
    · exact .refl _ e
    · split
      · exact .last (Ev.askTrace_within _ _) (.last (Ev.setIso_within _ _ _ _ _ _)
          (.of (e.modIso_within slot (fun _ => rfl) fun _ => rfl)))
      · split
        · exact .refl _ e
        · exact e.authStep_within _ _ _

theorem Ev.authorise_within (e : Ev) (q : Req) : Ev.Within Part.operating e (e.authorise q).1 := by
  unfold Ev.authorise
  split
  · exact .refl _ e
  · split
    · exact .refl _ e
    · exact Ev.onNamed_within fun slot i => e.authoriseNamed_within _ slot i

theorem Ev.cancelNamed_within (e : Ev) (slot : Nat) (i : Isolation) :
    Ev.Within Part.operating e (e.cancelNamed slot i).1 := by
  unfold Ev.cancelNamed
  split
  · exact .last (Ev.giveUp_within _ _ _ _ _) (.of (e.dropTrace_within slot))
  · exact .last (Ev.giveUp_within _ _ _ _ _) (.of (e.modIso_within slot (fun _ => rfl) fun _ => rfl))
  · exact e.giveUp_within _ _ _ _
  all_goals exact .refl _ e

theorem Ev.acceptNamed_within (e : Ev) (slot : Nat) (i : Isolation) :
    Ev.Within [.isos, .reg, .ask] e (e.acceptNamed slot i).1 := by
  unfold Ev.acceptNamed
  split
  · exact e.enterEffective_within _ _
  · exact .refl _ e

theorem Ev.releaseNamed_within (e : Ev) (slot : Nat) (i : Isolation) :
    Ev.Within [.isos, .plans, .slots] e (e.releaseNamed slot i).1 := by
  unfold Ev.releaseNamed
  split
  · exact { Ev.Within.refl [.isos, .plans, .slots] e with
      isos := fun a => absurd (by decide) a
      fixed := fun a => absurd (by decide) a
      serial := fun _ => rfl
      plans := fun a => absurd (by decide) a
      tables := fun inv =>
        { inv with
          isolations := ⟨tableWf_terase inv.isolations.1 _, fun j hj =>
            inv.isolations.2 j ((tkeys_terase_sublist _ _).subset hj)⟩ }
      limits := fun inv => { inv with } }
  · exact .refl _ e

/-! ## The end of an isolation, and the ramp -/

theorem Ev.endOf_within (e : Ev) (slot : Nat) (cause : IsoCause) : Ev.Within Part.operating e (e.endOf slot cause) := by
  unfold Ev.endOf
  split
  · exact .refl _ e
  · exact .last (Ev.endIso_within _ _ _ _ _ _) (.last (Ev.closeRecordOf_within _ _) (.last (Ev.askRecompute_within _)
      (.last (Ev.bump_within _) (.last (Ev.releaseClaims_within _ _ _)
        (.last (Ev.modIso_within _ _ (fun _ => rfl) fun _ => rfl) (.last (Ev.withdrawOpens_within _ _)
          (.of (e.modIso_within slot (fun _ => rfl) fun _ => rfl))))))))

theorem Ev.endingCheck_within (e : Ev) (slot : Nat) : Ev.Within Part.operating e (e.endingCheck slot) := by
  unfold Ev.endingCheck
  split
  · exact .refl _ e
  · exact .ite (e.endOf_within _ _) (.refl _ e)

theorem Ev.completionCheck_within (e : Ev) (slot : Nat) : Ev.Within Part.operating e (e.completionCheck slot) := by
  unfold Ev.completionCheck
  split
  · exact .refl _ e
  · split
    · exact .refl _ e
    · exact .ite (.last (Ev.endingCheck_within _ _) (.last (Ev.askRecompute_within _) (.last (Ev.setIso_within _ _ _ _ _ _)
        (.of (e.modIso_within slot (fun _ => rfl) fun _ => rfl))))) (.refl _ e)

theorem Ev.clockStart_within (e : Ev) (slot : Nat) : Ev.Within [.isos] e (e.clockStart slot) := by
  unfold Ev.clockStart
  split
  · exact .refl _ e
  · exact e.modIso_within slot (fun _ => rfl) fun _ => rfl

theorem Ev.opening_within (e : Ev) (slot : Nat) : Ev.Within Part.operating e (e.opening slot) := by
  unfold Ev.opening
  split
  · exact .refl _ e
  · exact .ite (.of (e.clockStart_within _)) (.last (Ev.completionCheck_within _ _)
      (.of (e.modIso_within slot (fun _ => rfl) fun _ => rfl)))

theorem Ev.rampSample_within (e : Ev) (slot station : Nat) (s : Int) (t : Nat) :
    Ev.Within Part.operating e (e.rampSample slot station s t) := by
  unfold Ev.rampSample
  split
  · exact .refl _ e
  · split
    · exact .refl _ e
    · split
      · exact e.completionCheck_within _
      · dsimp only
        refine .last (Ev.completionCheck_within _ _) ?_
        split
        · exact .of (e.modIso_within slot (fun _ => rfl) fun _ => rfl)
        · exact .last (Ev.stall_within _ _ _ _ _ _) (.of (e.modIso_within slot (fun _ => rfl) fun _ => rfl))

theorem Ev.rampLeft_within (e : Ev) (slot station : Nat) : Ev.Within Part.operating e (e.rampLeft slot station) :=
  .last (Ev.completionCheck_within _ _) (.of (e.modIso_within slot (fun _ => rfl) fun _ => rfl))

theorem Ev.rampStartExpiry_within (e : Ev) (slot : Nat) : Ev.Within [.isos] e (e.rampStartExpiry slot) := by
  unfold Ev.rampStartExpiry
  split
  · exact .refl _ e
  · exact .ite (e.stall_within _ _ _ _ _) (.refl _ e)

/-! ## Restoration requests -/

theorem Ev.restoreStep_within (e : Ev) (slot : Nat) (i : Isolation) (r : Ramp) :
    Ev.Within Part.operating e (e.restoreStep slot i r).1 := by
  have restoring : Ev.Within Part.operating e
      ((((((e.modIso slot fun i => { i with toIssue := i.toIssue.filter fun x => x.action ≠ .close }).releaseHolds slot
        i.holds).withdrawCloses ⟨slot, i.serial⟩ i.holds).bump.modIso slot fun i => { i with ramp := some r }).setIso slot
          .restoring .restore).askRecompute) :=
    .last (Ev.askRecompute_within _) (.last (Ev.setIso_within _ _ _ _ _ _)
      (.last (Ev.modIso_within _ _ (fun _ => rfl) fun _ => rfl) (.last (Ev.bump_within _)
        (.last (Ev.withdrawCloses_within _ _ _) (.last (Ev.releaseHolds_within _ _ _)
          (.of (e.modIso_within slot (fun _ => rfl) fun _ => rfl)))))))
  unfold Ev.restoreStep
  dsimp only
  split
  · exact .last (Ev.clockStart_within _ _) (.last (Ev.issueAll_within _ _ _ _) restoring)
  · exact .last (Ev.modIso_within _ _ (fun _ => rfl) fun _ => rfl) (.last (Ev.issueAll_within _ _ _ _) restoring)

theorem Ev.restoreNamed_within (e : Ev) (p : List Byte) (slot : Nat) (i : Isolation) :
    Ev.Within Part.operating e (e.restoreNamed p slot i).1 := by
  unfold Ev.restoreNamed
  split
  · exact .refl _ e
  · split
    · exact .refl _ e
    · split
      · exact .refl _ e
      · split
        · exact .refl _ e
        · exact e.restoreStep_within _ _ _

theorem Ev.restore_within (e : Ev) (q : Req) : Ev.Within Part.operating e (e.restore q).1 := by
  unfold Ev.restore
  split
  · exact .refl _ e
  · split
    · exact .refl _ e
    · exact Ev.onNamed_within fun slot i => e.restoreNamed_within _ slot i

theorem Ev.resumeNamed_within (e : Ev) (slot : Nat) (i : Isolation) :
    Ev.Within Part.operating e (e.resumeNamed slot i).1 := by
  unfold Ev.resumeNamed
  split
  · exact .refl _ e
  · split
    · exact .refl _ e
    · dsimp only
      split <;>
        exact .last (Ev.completionCheck_within _ _) (.of (e.modIso_within slot (fun _ => rfl) fun _ => rfl))

theorem Ev.recloseStep_within (e : Ev) (slot : Nat) (i : Isolation) :
    Ev.Within Part.operating e (e.recloseStep slot i).1 := by
  have closing : Ev.Within Part.operating e
      ((((((e.modIso slot fun i => { i with ramp := none, toIssue := i.toIssue.filter fun x => x.action ≠ .reopen }).takeHolds
        slot i.closure).bump).modIso slot fun i => { i with result := .none }).setIso slot .closing .reclose).askRecompute) :=
    .last (Ev.askRecompute_within _) (.last (Ev.setIso_within _ _ _ _ _ _)
      (.last (Ev.modIso_within _ _ (fun _ => rfl) fun _ => rfl) (.last (Ev.bump_within _)
        (.last (Ev.takeHolds_within _ _ _) (.of (e.modIso_within slot (fun _ => rfl) fun _ => rfl))))))
  unfold Ev.recloseStep
  dsimp only
  split
  · exact .last (Ev.failMembers_within _ _ _) closing
  · exact .last (Ev.closingCheck_within _ _) (.last (Ev.issueAll_within _ _ _ _) closing)

theorem Ev.recloseNamed_within (e : Ev) (slot : Nat) (i : Isolation) :
    Ev.Within Part.operating e (e.recloseNamed slot i).1 := by
  unfold Ev.recloseNamed
  split
  · exact .refl _ e
  · split
    · exact .refl _ e
    · exact e.recloseStep_within _ _

theorem Ev.recordEnding_within (e : Ev) (owner : Nat) : Ev.Within Part.operating e (e.recordEnding owner) := by
  unfold Ev.recordEnding
  split
  · exact .refl _ e
  · exact .ite (e.endingCheck_within _) (.refl _ e)

theorem Ev.takeRelight_within (e : Ev) (pipe owner : Nat) (p : PipeRt) (k : Counts) :
    Ev.Within Part.operating e (e.takeRelight pipe owner p k).1 :=
  .ite (.of (e.relight_within _ _ _)) (.last (Ev.recordEnding_within _ _) (.of (e.relight_within _ _ _)))

theorem Ev.relightReport_within (e : Ev) (q : Req) : Ev.Within Part.operating e (e.relightReport q).1 := by
  unfold Ev.relightReport Ev.relightPipe
  dsimp only
  iterate 8 (split; · exact .refl _ e)
  split
  · exact e.takeRelight_within _ _ _ _
  · exact .refl _ e

theorem Ev.closeOutNamed_within (e : Ev) (slot : Nat) (i : Isolation) :
    Ev.Within Part.operating e (e.closeOutNamed slot i).1 := by
  unfold Ev.closeOutNamed
  split
  · exact .refl _ e
  · dsimp only
    split
    · exact .last (Ev.endOf_within _ _ _) (.of (e.writeOff_within _))
    · exact e.endOf_within _ _

/-! ## Crew reports -/

/-- What a crew's report may change. -/
abbrev Part.reporting : List Part := .positions :: .links :: Part.operating

theorem Ev.holderOpened_within (e : Ev) (slot link : Nat) : Ev.Within [.isos, .ask] e (e.holderOpened slot link) := by
  unfold Ev.holderOpened
  split
  · exact .refl _ e
  · exact .ite (.last (Ev.askRecompute_within _) (.last (Ev.setIso_within _ _ _ _ _ _)
      (.of (e.modIso_within slot (fun _ => rfl) fun _ => rfl)))) (.refl _ e)

theorem Ev.memberOpen_within (e : Ev) (link : Nat) : Ev.Within Part.replanning e (e.memberOpen link) := by
  have settled (ks : List Nat) : Ev.Within Part.replanning e (e.each ks fun k e => e.holderOpened k link) :=
    .each (fun k e => .of (e.holderOpened_within k link)) e ks
  unfold Ev.memberOpen
  dsimp only
  split
  · exact settled _
  · exact .ite (.ite (settled _) (.last (Ev.issue_within _ _ _ _) (settled _)))
      (.last (Ev.failMembers_within _ _ _) (settled _))

theorem Ev.positionMet_within (e : Ev) (link : Nat) (pos : Position) :
    Ev.Within [.orders, .controls] e (e.positionMet link pos) := by
  unfold Ev.positionMet
  split
  · exact .ite (e.finishOrder_within _ _ _) (.refl _ e)
  · exact .refl _ e

theorem Ev.reportedPosition_within (e : Ev) (link : Nat) (pos : Position) :
    Ev.Within (.positions :: Part.operating) e (e.reportedPosition link pos) := by
  unfold Ev.reportedPosition
  split
  · exact .refl _ e
  · split
    · exact .refl _ e
    · have moved : Ev.Within (.positions :: Part.operating) e
          ((((e.modControl link fun c => { c with position := pos }).bump).askRecompute).positionMet link pos) :=
        .last (Ev.positionMet_within _ _ _) (.last (Ev.askRecompute_within _) (.last (Ev.bump_within _)
          (.of (e.modPosition_within link fun _ => rfl))))
      dsimp only
      split
      · exact moved.andThen (.each (fun k e => e.closingCheck_within k) _ _)
      · exact .ite (moved.andThen (.each (fun k e => e.opening_within k) _ _)) (.last (Ev.memberOpen_within _ _) moved)

theorem Ev.stuck_within (e : Ev) (link : Nat) (cause : FinishCause) : Ev.Within Part.reporting e (e.stuck link cause) :=
  .last (Ev.unworkable_within _ _ _) (.last (Ev.bump_within _) (.of (e.modLink_within _ _)))

theorem Ev.valveReport_within {A : List Part} {e : Ev} {q : Req} {taken : Ev × Reply} (h : Ev.Within A e taken.1) :
    Ev.Within A e (e.valveReport q taken).1 := by
  unfold Ev.valveReport
  iterate 5 (split; · exact .refl _ e)
  exact h

theorem Ev.orderReport_within {A : List Part} {e : Ev} {q : Req} {act : Nat → Order → Ev × Reply}
    (h : ∀ id o, Ev.Within A e (act id o).1) : Ev.Within A e (e.orderReport q act).1 := by
  refine Ev.valveReport_within ?_
  split
  · exact .refl _ e
  · exact h _ _

theorem Ev.reportAccept_within (e : Ev) (id : Nat) (o : Order) : Ev.Within [.orders] e (e.reportAccept id o).1 := by
  unfold Ev.reportAccept
  split
  · exact e.modOrder_within _ _
  all_goals exact .refl _ e

theorem Ev.reportOperated_within (e : Ev) (id : Nat) (o : Order) :
    Ev.Within (.positions :: Part.operating) e (e.reportOperated id o).1 := by
  unfold Ev.reportOperated
  split
  case h_5 => exact .refl _ e
  case h_1 | h_2 =>
    exact .last (Ev.reportedPosition_within _ _ _) (.last (Ev.finishOrder_within _ _ _ _) (.of (e.modOrder_within _ _)))
  all_goals exact e.reportedPosition_within _ _

theorem Ev.reportCannotOperate_within (e : Ev) (id : Nat) (o : Order) :
    Ev.Within Part.reporting e (e.reportCannotOperate id o).1 := by
  unfold Ev.reportCannotOperate
  split
  case h_1 | h_2 => exact e.stuck_within _ _
  case h_3 =>
    dsimp only
    split
    · exact .ite (.refl _ e) (e.stuck_within _ _)
    · exact .refl _ e
  all_goals exact .refl _ e

theorem Ev.reportFound_within (e : Ev) (p : List Byte) :
    Ev.Within (.positions :: Part.operating) e (e.reportFound p).1 := by
  unfold Ev.reportFound
  dsimp only
  iterate 4 (split; · exact .refl _ e)
  exact e.reportedPosition_within _ _

end Sys2Proof.Machine
end

section
/-! What the jobs of the Trace Engine and the Station Monitor leave alone. -/

namespace Sys2Proof.Machine

-- One theorem after another: theorems checked side by side each hold a thread and its stack.
set_option Elab.async false

/-! ## The two jobs -/

theorem Ev.traceCompletion_within (e : Ev) : Ev.Within (.plans :: Part.operating) e e.traceCompletion := by
  unfold Ev.traceCompletion
  split
  · split
    · dsimp only
      split
      · exact .of (e.setRunning_within none)
      · exact .last (Ev.takeOutcome_within _ _ _) (.of (e.setRunning_within none))
    · split
      · exact .last (Ev.setRunning_within _ _) (.of (e.modIso_within _ (fun _ => rfl) fun _ => rfl))
      · exact .last (Ev.takeOutcome_within _ _ _) (.of (e.setRunning_within none))
  · exact .refl _ e

theorem Ev.applyFlood_within (e : Ev) (v : Flooded) (newNodes newPipes : List Nat) :
    Ev.Within [.nodes, .pipes] e (e.applyFlood v newNodes newPipes) := by
  have flagged := e.mapNodes_within fun k x =>
    if newNodes.contains k then x else { x with fed := v.reached.contains k }
  unfold Ev.applyFlood
  dsimp only
  exact .last (Ev.mapPipes_within _ _) (.of flagged)

theorem Ev.sectionFed_within (e : Ev) (newPipes : List Nat) : Ev.Within [] e (e.sectionFed newPipes) := by
  refine .each (fun slot e => ?_) e _
  dsimp only
  split
  · exact e.note_within _ _ _
  · exact .refl _ e

theorem Ev.appliedChecks_within (e : Ev) : Ev.Within Part.operating e e.appliedChecks :=
  .each (fun slot e => .last (Ev.endingCheck_within _ _) (e.completionCheck_within slot)) e _

/-- What a recompute completion may change. -/
abbrev Part.recomputing : List Part := .nodes :: .applied :: Part.operating

theorem Ev.recomputeCompletion_within (e : Ev) : Ev.Within Part.recomputing e e.recomputeCompletion := by
  unfold Ev.recomputeCompletion
  split
  · next start newNodes newPipes views _ =>
    have taken : Ev.Within Part.recomputing e { e with
        p.draws := if views.length < 2 then e.p.draws else e.p.draws + 1
        p.trace.running := none
        p.trace.pendingRecompute := e.p.trace.pendingRecompute || e.p.net.generation ≠ start
        p.trace.applied := start } :=
      { Ev.Within.refl Part.recomputing e with
        trace := fun a => absurd (by decide) a
        ask := fun a => absurd (by decide) a
        applied := fun a => absurd (by decide) a
        tables := fun inv => { inv with }
        limits := fun inv => { inv with } }
    exact .last (Ev.appliedChecks_within _) (.last (Ev.attribute_within _ _) (.last (Ev.sectionFed_within _ _)
      (.last (Ev.applyFlood_within _ _ _ _) taken)))
  · exact .refl _ e

/-! ## Tier-low, and the tests served to isolations -/

theorem Ev.tierCheck_within (e : Ev) (t : Tier) : Ev.Within [.mon, .reg] e (e.tierCheck t) := by
  unfold Ev.tierCheck
  dsimp only
  split
  · exact .refl _ e
  · have noted : Ev.Within [.mon, .reg] e (({ e with p.mon.tierLow := e.p.mon.tierLow.put t (tierLowOf (e.p.mon.tierLow.at t)
        (e.p.mon.lowCount t) e.p.mon.threshold) } : Ev).note .tierLow t.code
          (beFlag (tierLowOf (e.p.mon.tierLow.at t) (e.p.mon.lowCount t) e.p.mon.threshold) ++ be 2 (e.p.mon.lowCount t))) :=
      .last (Ev.note_within _ _ _ _) (.of (e.setMon_within rfl id id))
    exact .ite (.last (Ev.askIncident_within _ _ _ _) noted) noted

theorem Ev.tierChecks_within (e : Ev) : Ev.Within [.mon, .reg] e e.tierChecks :=
  ((e.tierCheck_within .lp).trans (Ev.tierCheck_within _ .mp)).trans (Ev.tierCheck_within _ .ip)

theorem Ev.passingWatch_within (e : Ev) (slot station : Nat) (s : Station) :
    Ev.Within [.isos] e (e.passingWatch slot station s) := by
  unfold Ev.passingWatch
  split
  · exact .refl _ e
  · exact .ite (.last (Ev.notePassing_within _ _ _ _ _) (e.modIso_within slot (fun _ => rfl) fun _ => rfl)) (.refl _ e)

theorem Ev.isolationTest_within (e : Ev) (slot station time : Nat) :
    Ev.Within Part.operating e (e.isolationTest slot station time) := by
  unfold Ev.isolationTest
  split
  · split
    · exact .of (e.decayCheck_within _)
    · exact .of (e.passingWatch_within _ _ _)
    · exact e.rampSample_within _ _ _ _
    all_goals exact .refl _ e
  · exact .refl _ e

theorem Ev.stationLeftAt_within (e : Ev) (slot station : Nat) :
    Ev.Within Part.operating e (e.stationLeftAt slot station) := by
  unfold Ev.stationLeftAt
  split
  · exact .refl _ e
  · split
    · exact .of (e.decayCheck_within _)
    · exact e.rampLeft_within _ _
    all_goals exact .refl _ e

theorem Ev.stationLeft_within (e : Ev) (slots : List Nat) (station : Nat) :
    Ev.Within Part.operating e (e.stationLeft slots station) :=
  .each (fun slot e => e.stationLeftAt_within slot station) e slots

/-! ## The sample pipeline -/

/-- What a station's report may change. -/
abbrev Part.sampling : List Part := .mon :: Part.operating

theorem pushRing_length (ring : List (Int × Nat)) (s : Int) (t : Nat) : (pushRing ring s t).length ≤ 8 := by
  unfold pushRing
  split
  · simp only [List.length_append, List.length_singleton]
    omega
  · simp only [List.length_append, List.length_drop, List.length_singleton]
    omega

theorem StationRt.convert_ring (r : StationRt) (c : StationRec) (raw : Nat) (h : r.ring.length ≤ 8) :
    (r.convert c raw).ring.length ≤ 8 := by
  unfold StationRt.convert
  dsimp only
  split
  · exact h
  · exact Nat.zero_le _

theorem Ev.bandStage_within (e : Ev) (id : Nat) (s : Station) : Ev.Within Part.sampling e (e.bandStage id s) := by
  unfold Ev.bandStage
  dsimp only
  split
  · exact .refl _ e
  · have checked : Ev.Within Part.sampling e
        (((e.modRt id fun r => { r with band := bandOf s.cfg s.rt.band s.rt.value }).note .bandChange id
          (be 1 s.rt.band.code ++ be 1 (bandOf s.cfg s.rt.band s.rt.value).code ++ bePu s.rt.value
            ++ beFlag (e.suppressed s.cfg))).tierCheck s.cfg.tier) :=
      .last (Ev.tierCheck_within _ _) (.last (Ev.note_within _ _ _ _) (.of (e.modRt_within id fun _ h => h)))
    exact .ite (.ite checked (.last (Ev.askIncident_within _ _ _ _) checked))
      (.ite (.last (Ev.askIncident_within _ _ _ _) checked) checked)

theorem Ev.trendStage_within (e : Ev) (id : Nat) (s : Station) (time : Nat) :
    Ev.Within Part.sampling e (e.trendStage id s time) := by
  have pushed : Ev.Within Part.sampling e (e.modRt id fun x =>
      { x with ring := (s.rt.trend s.cfg.alarm time).ring, rate := (s.rt.trend s.cfg.alarm time).rate
               falling := (s.rt.trend s.cfg.alarm time).falling }) :=
    .of (e.modRt_within id fun _ _ => pushRing_length _ _ _)
  unfold Ev.trendStage
  dsimp only
  exact .ite (.ite (.last (Ev.note_within _ _ _ _) pushed)
    (.last (Ev.askIncident_within _ _ _ _) (.last (Ev.note_within _ _ _ _) pushed))) pushed

theorem Ev.freshStage_within (e : Ev) (id : Nat) (s : Station) (suspect : Bool) (time : Nat) :
    Ev.Within Part.sampling e (e.freshStage id s suspect time) := by
  have fresh : Ev.Within Part.sampling e (((e.modRt id fun r =>
      { r with freshness := if suspect then .suspect else .fresh, lastTime := some time }).count fun c =>
        { c with accepted := c.accepted + 1 }).tierCheck s.cfg.tier) :=
    .last (Ev.tierCheck_within _ _) (.last (Ev.count_within _ _) (.of (e.modRt_within id fun _ h => h)))
  exact fresh.andThen (.each (fun slot e => e.isolationTest_within slot id time) _ _)

theorem Ev.setRt_within (e : Ev) (k : Nat) {r : StationRt} (h : (∀ x ∈ e.p.mon.stations,
    x.2.cfg.inRange = true ∧ x.2.rt.ring.length ≤ 8) → r.ring.length ≤ 8) : Ev.Within [.mon] e (e.modRt k fun _ => r) :=
  e.setMon_within rfl (fun ⟨wf, keys⟩ => ⟨tableWf_tmod wf k fun s => { s with rt := r }, by simpa using keys⟩)
    fun all => forall_mem_tmod (f := fun s : Station => { s with rt := r })
      (P := fun s : Station => s.cfg.inRange = true ∧ s.rt.ring.length ≤ 8) all fun s hs => ⟨hs.1, h all⟩

theorem Ev.pipeline_within {e : Ev} {id : Nat} {s : Station} (hs : e.station? id = some s) (raw : Nat) (suspect : Bool)
    (time : Nat) : Ev.Within Part.sampling e (e.pipeline id s raw suspect time) := by
  have ring (all : ∀ x ∈ e.p.mon.stations, x.2.cfg.inRange = true ∧ x.2.rt.ring.length ≤ 8) :
      (s.rt.convert s.cfg raw).ring.length ≤ 8 :=
    s.rt.convert_ring _ _ (tget_forall (P := fun s : Station => s.cfg.inRange = true ∧ s.rt.ring.length ≤ 8) hs all).2
  unfold Ev.pipeline
  dsimp only
  refine .last (Ev.freshStage_within _ _ _ _ _) (.last (Ev.trendStage_within _ _ _ _) (.last (Ev.bandStage_within _ _ _) ?_))
  split
  · exact .of (e.setRt_within id ring)
  · exact .last (Ev.setRt_within _ id ring) (.of (e.count_within _))

theorem Ev.sample_within (e : Ev) (id raw age : Nat) (suspect : Bool) :
    Ev.Within Part.sampling e (e.sample id raw age suspect).1 := by
  unfold Ev.sample
  split
  · exact .refl _ e
  · next s hs =>
    dsimp only
    split
    · dsimp only
      exact .of (e.count_within _)
    · split
      · dsimp only
        exact .last (Ev.count_within _ _) (.of (e.modRt_within id fun _ h => h))
      · exact Ev.pipeline_within hs _ _ _

/-- What a request of several samples may change: each is an event of its own. -/
abbrev Part.reports : List Part := .regen :: Part.sampling

theorem Ev.samples_within (id : Nat) (suspect : Bool) (xs : List (Nat × Nat)) (e : Ev) :
    Ev.Within Part.reports e (Ev.samples id suspect xs e).1 := by
  induction xs generalizing e with
  | nil => exact .refl _ e
  | cons x rest ih =>
    obtain ⟨raw, age⟩ := x
    have sampled : Ev.Within Part.reports e (e.sample id raw age suspect).1 := .of (e.sample_within id raw age suspect)
    have settled := Ev.Within.ite (p := rest.isEmpty = true) sampled (.last (Ev.settle_within _) sampled)
    have all := settled.trans (ih _)
    unfold Ev.samples
    dsimp only
    split <;> exact all

theorem Ev.noteStale_within (e : Ev) (id : Nat) (s : Station) (cause : Nat) : Ev.Within [] e (e.noteStale id s cause) :=
  e.note_within _ _ _

theorem Ev.goStale_within (e : Ev) (id : Nat) (s : Station) (cause : Nat) :
    Ev.Within Part.sampling e (e.goStale id s cause) :=
  .last (Ev.stationLeft_within _ _ _) (.last (Ev.tierCheck_within _ _) (.last (Ev.noteStale_within _ _ _ _)
    (.of (e.modRt_within id fun _ h => h))))

theorem Ev.stalenessExpiry_within (e : Ev) (id : Nat) : Ev.Within Part.sampling e (e.stalenessExpiry id) := by
  unfold Ev.stalenessExpiry
  split
  · exact .refl _ e
  · exact .ite (e.goStale_within _ _ _) (.refl _ e)

theorem Ev.usedPath_within (e : Ev) (id : Nat) (s : Station) (suspect : Bool) (xs : List (Nat × Nat)) :
    Ev.Within Part.reports e (e.usedPath id s suspect xs).1 := by
  have sampled := Ev.samples_within id suspect xs e
  unfold Ev.usedPath
  exact .ite sampled (.last (Ev.modRt_within _ _ fun _ h => h) sampled)

theorem Ev.report_within (e : Ev) (id : Nat) (s : Station) (path : PathStatus) (xs : List (Nat × Nat)) :
    Ev.Within Part.reports e (e.report id s path xs).1 := by
  cases path with
  | ok => exact e.usedPath_within _ _ _ _
  | degraded =>
    unfold Ev.report
    dsimp only
    split
    · exact e.usedPath_within _ _ _ _
    · dsimp only
      exact .last (Ev.count_within _ _) (.of (e.modRt_within id fun _ h => h))
  | relayLost =>
    unfold Ev.report
    dsimp only
    split
    · dsimp only
      exact .of (e.modRt_within id fun _ h => h)
    · exact .of (e.goStale_within _ _ _)

theorem Ev.takeReport_within (e : Ev) (id : Nat) (s : Station) (path : PathStatus) (xs : List (Nat × Nat)) :
    Ev.Within Part.reports e (e.takeReport id s path xs).1 :=
  .last (Ev.report_within _ _ _ _ _) (.last (Ev.modRt_within _ _ fun _ h => h) (.of (e.count_within _)))

theorem Ev.shortReport_within (e : Ev) : Ev.Within Part.reports e e.shortReport.1 := by
  unfold Ev.shortReport
  dsimp only
  exact .of (e.count_within _)

theorem Ev.telemetry_within (e : Ev) (q : Req) : Ev.Within Part.reports e (e.telemetry q).1 := by
  unfold Ev.telemetry
  split
  · exact e.shortReport_within
  · split
    · exact .refl _ e
    · split
      · exact .refl _ e
      · split
        · exact e.shortReport_within
        · split
          · dsimp only
            exact .of (e.count_within _)
          · exact e.takeReport_within _ _ _ _

/-! ## STATION_SET and STATION_READ -/

theorem stationRecord_inRange {p : List Byte} {c : StationRec} (h : stationRecord p = some c) : c.inRange = true := by
  unfold stationRecord at h
  dsimp only at h
  split at h
  · split at h
    · next ok =>
      obtain rfl := Option.some.inj h
      exact ok
    · cases h
  · cases h

theorem Ev.putStation_within (e : Ev) {id : Nat} {s : Station} (hk : id ≤ Config.maxStation)
    (hc : s.cfg.inRange = true ∧ s.rt.ring.length ≤ 8) :
    Ev.Within [.mon] e { e with p.mon.stations := tset e.p.mon.stations id s } :=
  e.setMon_within rfl
    (fun ⟨wf, keys⟩ => ⟨tableWf_tset wf _ _, fun j hj => (tkeys_tset_mem hj).elim (fun h => h ▸ hk) (keys j)⟩)
    fun all x hx => (mem_tset hx).elim (fun h => h ▸ hc) (all x)

theorem Ev.dropStation_within (e : Ev) (id : Nat) :
    Ev.Within [.mon] e { e with p.mon.stations := terase e.p.mon.stations id } :=
  e.setMon_within rfl
    (fun ⟨wf, keys⟩ => ⟨tableWf_terase wf _, fun j hj => keys j ((tkeys_terase_sublist _ _).subset hj)⟩)
    fun all x hx => all x (List.mem_of_mem_filter hx)

theorem Ev.defineStation_within (e : Ev) {id : Nat} {c : StationRec} (hk : id ≤ Config.maxStation)
    (hc : c.inRange = true) : Ev.Within Part.sampling e (e.defineStation id c) := by
  have put := Ev.Within.of (A := Part.sampling)
    (e.putStation_within (s := { cfg := c }) hk ⟨hc, Nat.zero_le _⟩)
  unfold Ev.defineStation
  split
  · exact .last (Ev.tierCheck_within _ _) put
  · exact .last (Ev.stationLeft_within _ _ _) (.last (Ev.tierCheck_within _ _) (.last (Ev.tierCheck_within _ _) put))

theorem Ev.removeStation_within (e : Ev) (id : Nat) (old : Station) :
    Ev.Within Part.sampling e (e.removeStation id old) :=
  .last (Ev.stationLeft_within _ _ _) (.last (Ev.tierCheck_within _ _) (.of (e.dropStation_within id)))

theorem Ev.define_within (e : Ev) (p : List Byte) {id : Nat} (hk : id ≤ Config.maxStation) :
    Ev.Within Part.sampling e (e.define p id).1 := by
  unfold Ev.define
  split
  · exact .refl _ e
  · next c hc =>
    split
    · exact .refl _ e
    · exact e.defineStation_within hk (stationRecord_inRange hc)

theorem Ev.remove_within (e : Ev) (id : Nat) : Ev.Within Part.sampling e (e.remove id).1 := by
  unfold Ev.remove
  split
  · exact .refl _ e
  · exact e.removeStation_within _ _

theorem Ev.stationSet_within (e : Ev) (q : Req) : Ev.Within Part.sampling e (e.stationSet q).1 := by
  unfold Ev.stationSet
  dsimp only
  split
  · exact .refl _ e
  · split
    · exact .refl _ e
    · next known =>
      have hk : field q.payload 0 2 ≤ Config.maxStation := by
        simp only [Bool.or_eq_true, decide_eq_true_eq, not_or, Nat.not_lt] at known
        exact known.1
      split
      · exact e.remove_within _
      · exact e.define_within _ hk

theorem Ev.stationRead_within (e : Ev) (q : Req) (clear : Bool) : Ev.Within [.mon] e (e.stationRead q clear).1 := by
  unfold Ev.stationRead
  split
  · exact .refl _ e
  · dsimp only
    split
    · exact .refl _ e
    · exact .ite (e.modRt_within _ fun _ h => h) (.refl _ e)

end Sys2Proof.Machine
end

section
/-! What the Network Store and the setting requests leave alone, and the invariants of the blocks over every step. -/

namespace Sys2Proof.Machine

-- One theorem after another: theorems checked side by side each hold a thread and its stack.
set_option Elab.async false

/-- Everything an event may change but the activation of a table. -/
abbrev Part.running : List Part :=
  [.isos, .slots, .plans, .orders, .controls, .holders, .positions, .links, .nodes, .pipes, .net, .trace, .ask, .applied,
    .mon, .reg, .records, .settings, .bump, .regen]

/-- An operation about which only the generation and the invariants are said. -/
theorem Ev.Within.running {e e' : Ev} (now : e'.now = e.now) (out : e.out <+: e'.out)
    (generation : e'.p.net.generation = e.p.net.generation) (tables : e.p.TablesInv → e'.p.TablesInv)
    (limits : e.p.LimitsInv → e'.p.LimitsInv) : Ev.Within Part.running e e' where
  now := now
  out := out
  isos a := absurd (by decide) a
  fixed a := absurd (by decide) a
  serial a := absurd (by decide) a
  plans a := absurd (by decide) a
  orders a := absurd (by decide) a
  controls a := absurd (by decide) a
  holders a := absurd (by decide) a
  positions a := absurd (by decide) a
  links a := absurd (by decide) a
  nodes a := absurd (by decide) a
  pipes a := absurd (by decide) a
  net a := absurd (by decide) a
  trace a := absurd (by decide) a
  ask a := absurd (by decide) a
  applied a := absurd (by decide) a
  mon a := absurd (by decide) a
  reg a := absurd (by decide) a
  records a := absurd (by decide) a
  settings a := absurd (by decide) a
  still _ a := absurd (by decide) a
  once a := absurd (by decide) a
  mono _ bound := by
    rw [generation]
    exact ⟨Nat.le_refl _, bound⟩
  tables := tables
  limits := limits

theorem keys_nil {α : Type} {P : Nat → Prop} : tableWf ([] : Table α) ∧ ∀ k ∈ tkeys ([] : Table α), P k :=
  ⟨tableWf_nil, fun _ h => absurd h List.not_mem_nil⟩

theorem keys_tset {α : Type} {t : Table α} {P : Nat → Prop} (h : tableWf t ∧ ∀ k ∈ tkeys t, P k) {n : Nat} (v : α)
    (hn : P n) : tableWf (tset t n v) ∧ ∀ k ∈ tkeys (tset t n v), P k :=
  ⟨tableWf_tset h.1 n v, fun k hk => (tkeys_tset_mem hk).elim (fun e => e ▸ hn) (h.2 k)⟩

theorem keys_terase {α : Type} {t : Table α} {P : Nat → Prop} (h : tableWf t ∧ ∀ k ∈ tkeys t, P k) (n : Nat) :
    tableWf (terase t n) ∧ ∀ k ∈ tkeys (terase t n), P k :=
  ⟨tableWf_terase h.1 n, fun k hk => h.2 k ((tkeys_terase_sublist t n).subset hk)⟩

/-! ## The edit grant and the full load -/

theorem Ev.discardTable_within (e : Ev) : Ev.Within Part.running e e.discardTable := by
  have closed : Ev.Within Part.running e (if e.active then e.closeRecordZero else e) :=
    .ite (.of e.closeRecordZero_within) (.refl _ e)
  refine closed.trans (.running rfl List.prefix_rfl rfl (fun inv => ?_) fun inv => { inv with })
  exact { inv with
    nodes := keys_nil, links := keys_nil, pipes := tableWf_nil, controls := tableWf_nil, tags := keys_nil
    orders := tableWf_nil }

theorem Ev.setGrant_within (e : Ev) (g : Option Grant) : Ev.Within Part.running e { e with p.net.grant := g } :=
  .running rfl List.prefix_rfl rfl (fun inv => { inv with }) fun inv => { inv with }

theorem Ev.editBegin_within (e : Ev) (q : Req) : Ev.Within Part.running e (e.editBegin q).1 := by
  unfold Ev.editBegin
  split
  · exact .refl _ e
  · split
    · exact .refl _ e
    · unfold Ev.editMode
      split
      · exact .refl _ e
      · split
        · split
          · exact e.setGrant_within _
          · exact .refl _ e
        · split
          · exact .refl _ e
          · exact (e.setGrant_within _).trans (Ev.discardTable_within _)

theorem Ev.releaseGrant_within (e : Ev) (g : Grant) : Ev.Within Part.running e (e.releaseGrant g) := by
  unfold Ev.releaseGrant
  dsimp only
  split
  · exact e.setGrant_within none
  · exact .running rfl List.prefix_rfl rfl (fun inv => { inv with nodes := keys_nil, links := keys_nil })
      fun inv => { inv with }

theorem Ev.editEnd_within (e : Ev) (q : Req) : Ev.Within Part.running e (e.editEnd q).1 := by
  unfold Ev.editEnd
  split
  · exact .refl _ e
  · split
    · exact e.releaseGrant_within _
    · exact .refl _ e

theorem Ev.editRevoke_within (e : Ev) (q : Req) : Ev.Within Part.running e (e.editRevoke q).1 := by
  unfold Ev.editRevoke
  split
  · exact .refl _ e
  · split
    · exact .refl _ e
    · exact e.releaseGrant_within _

theorem Ev.startCheck_within (e : Ev) : Ev.Within Part.running e e.startCheck :=
  .running rfl List.prefix_rfl rfl (fun inv => { inv with }) fun inv => { inv with }

theorem Ev.beginLoad_within (e : Ev) (n l : Nat) : Ev.Within Part.running e (e.beginLoad n l) := by
  have begun : Ev.Within Part.running e { e with p.net.nodes := [], p.net.links := [], p.net.load := some ⟨n, l, 0⟩ } :=
    .running rfl List.prefix_rfl rfl (fun inv => { inv with nodes := keys_nil, links := keys_nil })
      fun inv => { inv with }
  exact .ite (begun.trans (Ev.startCheck_within _)) begun

theorem Ev.tableBegin_within (e : Ev) (q : Req) : Ev.Within Part.running e (e.tableBegin q).1 := by
  unfold Ev.tableBegin
  split
  · exact .refl _ e
  · split
    · exact .refl _ e
    · split
      · exact .refl _ e
      · exact e.beginLoad_within _ _

/-- A record's id is in the range of its kind (R14). -/
def BlockRecord.inRange : BlockRecord → Prop
  | .node id _ => id ≤ Config.maxNode
  | .link id _ => id ≤ Config.maxLink

theorem nodeRecord_id {b : List Byte} {x : Nat × Node} (h : nodeRecord b = some x) : x.1 ≤ Config.maxNode := by
  unfold nodeRecord at h
  split at h
  · split at h
    · next hk =>
      obtain rfl := Option.some.inj h
      exact hk
    · cases h
  · cases h

theorem linkRecord_id {b : List Byte} {x : Nat × Link} (h : linkRecord b = some x) : x.1 ≤ Config.maxLink := by
  unfold linkRecord at h
  split at h
  · split at h
    · next hk =>
      obtain ⟨body, -, rfl⟩ := Option.map_eq_some_iff.mp h
      simp only [Bool.and_eq_true, decide_eq_true_eq] at hk
      exact hk.1.1
    · cases h
  · cases h

theorem blockRecords_inRange {nodes k idx : Nat} {b : List Byte} {rs : List BlockRecord}
    (h : blockRecords nodes k idx b = some rs) : ∀ r ∈ rs, r.inRange := by
  induction k generalizing idx b rs with
  | zero =>
    obtain rfl := Option.some.inj h
    exact fun _ h => absurd h List.not_mem_nil
  | succ k ih =>
    unfold blockRecords at h
    dsimp only at h
    split at h
    · next r rest hr hrest =>
      obtain rfl := Option.some.inj h
      have first : r.inRange := by
        split at hr
        · obtain ⟨x, hx, rfl⟩ := Option.map_eq_some_iff.mp hr
          exact nodeRecord_id hx
        · obtain ⟨x, hx, rfl⟩ := Option.map_eq_some_iff.mp hr
          exact linkRecord_id hx
      exact fun x hx => (List.mem_cons.mp hx).elim (fun h => h ▸ first) (ih hrest x)
    · cases h

/-- The store of a block changes the two record tables alone, and keeps them in form. -/
theorem NetworkStore.store_keys {rs : List BlockRecord} (all : ∀ r ∈ rs, r.inRange) {n n' : NetworkStore}
    (h : n.store rs = some n') :
    n' = { n with nodes := n'.nodes, links := n'.links }
      ∧ ((tableWf n.nodes ∧ ∀ k ∈ tkeys n.nodes, k ≤ Config.maxNode) →
        tableWf n'.nodes ∧ ∀ k ∈ tkeys n'.nodes, k ≤ Config.maxNode)
      ∧ ((tableWf n.links ∧ ∀ k ∈ tkeys n.links, k ≤ Config.maxLink) →
        tableWf n'.links ∧ ∀ k ∈ tkeys n'.links, k ≤ Config.maxLink) := by
  induction rs generalizing n with
  | nil =>
    obtain rfl := Option.some.inj h
    exact ⟨rfl, id, id⟩
  | cons r rs ih =>
    have rest := fun x hx => all x (List.mem_cons_of_mem r hx)
    have here := all r List.mem_cons_self
    cases r with
    | node id x =>
      simp only [NetworkStore.store] at h
      split at h
      · cases h
      · obtain ⟨eq, nodes, links⟩ := ih rest h
        exact ⟨eq, fun w => nodes (keys_tset w x here), links⟩
    | link id l =>
      simp only [NetworkStore.store] at h
      split at h
      · cases h
      · obtain ⟨eq, nodes, links⟩ := ih rest h
        exact ⟨eq, nodes, fun w => links (keys_tset w l here)⟩

theorem Ev.takeBlock_within (e : Ev) (p : List Byte) (l : Load) : Ev.Within Part.running e (e.takeBlock p l).1 := by
  unfold Ev.takeBlock
  dsimp only
  split
  · exact .refl _ e
  · split
    · exact .refl _ e
    · split
      · exact .refl _ e
      · next n hn =>
        obtain ⟨rs, hrs, store⟩ := Option.bind_eq_some_iff.mp hn
        obtain ⟨eq, nodes, links⟩ := NetworkStore.store_keys (blockRecords_inRange hrs) store
        have stored : Ev.Within Part.running e
            { e with p.net := { n with load := some { l with expected := field p 0 2 + field p 2 2 } } } := by
          rw [eq]
          exact .running rfl List.prefix_rfl rfl
            (fun inv => { inv with nodes := nodes inv.nodes, links := links inv.links }) fun inv => { inv with }
        exact .ite (stored.trans (Ev.startCheck_within _)) stored

theorem Ev.tableBlock_within (e : Ev) (q : Req) : Ev.Within Part.running e (e.tableBlock q).1 := by
  unfold Ev.tableBlock
  split
  · exact .refl _ e
  · split
    · exact .refl _ e
    · split
      · exact .refl _ e
      · split
        · exact .refl _ e
        · split
          · exact .refl _ e
          · split
            · exact .refl _ e
            · exact e.takeBlock_within _ _

/-! ## Edits of links and nodes -/

theorem Ev.edit_within {A : List Part} {e : Ev} {q : Req} {taken : Ev × Reply} (h : Ev.Within A e taken.1) :
    Ev.Within A e (e.edit q taken).1 := by
  unfold Ev.edit
  split
  · exact .refl _ e
  · split
    · exact .refl _ e
    · split
      · exact .refl _ e
      · exact h

theorem Ev.uproot_within {A : List Part} {e : Ev} {id : Nat} {taken : Ev × Reply} (h : Ev.Within A e taken.1) :
    Ev.Within A e (e.uproot id taken).1 := by
  unfold Ev.uproot
  split
  · exact .refl _ e
  · split
    · exact .refl _ e
    · split
      · exact .refl _ e
      · exact h

theorem Ev.edited_within (e : Ev) : Ev.Within [.bump, .ask] e e.edited.1 :=
  .last (Ev.askRecompute_within _) (.of e.bump_within)

theorem editedLink_id {p : List Byte} {l : Link} (h : editedLink p = some l) : field p 0 2 ≤ Config.maxLink := by
  unfold editedLink at h
  split at h
  · next hr =>
    split at h
    · next hk => exact hk ▸ linkRecord_id hr
    · cases h
  · cases h

theorem editedNode_id {p : List Byte} {n : Node} (h : editedNode p = some n) : field p 0 2 ≤ Config.maxNode := by
  unfold editedNode at h
  split at h
  · next hr =>
    split at h
    · next hk => exact hk ▸ nodeRecord_id hr
    · cases h
  · cases h

theorem Ev.putLink_within (e : Ev) {id : Nat} (l : Link) (hk : id ≤ Config.maxLink) :
    Ev.Within Part.running e { e with p.net.links := tset e.p.net.links id l } :=
  .running rfl List.prefix_rfl rfl (fun inv => { inv with links := keys_tset inv.links l hk }) fun inv => { inv with }

theorem Ev.newRuntime_within (e : Ev) (id : Nat) (l : Link) : Ev.Within Part.running e (e.newRuntime id l) := by
  unfold Ev.newRuntime
  split
  · refine .last (Ev.created_within _ _ _) ?_
    exact .running rfl List.prefix_rfl rfl (fun inv => { inv with pipes := tableWf_tset inv.pipes id _ })
      fun inv => { inv with }
  · exact .running rfl List.prefix_rfl rfl (fun inv => { inv with controls := tableWf_tset inv.controls id _ })
      fun inv => { inv with }

theorem Ev.dropRuntime_within (e : Ev) (id : Nat) : Ev.Within Part.running e (e.dropRuntime id) :=
  .running rfl List.prefix_rfl rfl
    (fun inv => { inv with pipes := tableWf_terase inv.pipes id, controls := tableWf_terase inv.controls id })
    fun inv => { inv with }

theorem Ev.createLink_within (e : Ev) (p : List Byte) : Ev.Within Part.running e (e.createLink p (field p 0 2)).1 := by
  unfold Ev.createLink
  split
  · exact .refl _ e
  · split
    · exact .refl _ e
    · next l hl =>
      split
      · exact .refl _ e
      · split
        · exact .refl _ e
        · exact .last (Ev.edited_within _) ((e.putLink_within l (editedLink_id hl)).trans (Ev.newRuntime_within _ _ _))

theorem Ev.changeLink_within (e : Ev) (p : List Byte) : Ev.Within Part.running e (e.changeLink p (field p 0 2)).1 := by
  unfold Ev.changeLink
  split
  · exact .refl _ e
  · split
    · exact .refl _ e
    · next l hl =>
      have put := e.putLink_within l (editedLink_id hl)
      dsimp only
      split
      · exact .refl _ e
      · split
        · exact .refl _ e
        · split
          · exact Ev.uproot_within (.last (Ev.edited_within _)
              ((put.trans (Ev.dropRuntime_within _ _)).trans (Ev.newRuntime_within _ _ _)))
          · split
            · exact .refl _ e
            · exact .last (Ev.edited_within _) put

theorem Ev.removeLink_within (e : Ev) (id : Nat) : Ev.Within Part.running e (e.removeLink id).1 := by
  have removed : Ev.Within Part.running e { e with p.net.links := terase e.p.net.links id } :=
    .running rfl List.prefix_rfl rfl (fun inv => { inv with links := keys_terase inv.links id }) fun inv => { inv with }
  unfold Ev.removeLink
  split
  · exact .refl _ e
  · split
    · exact .refl _ e
    · exact Ev.uproot_within (.last (Ev.edited_within _) (removed.trans (Ev.dropRuntime_within _ _)))

theorem Ev.linkEdit_within (e : Ev) (q : Req) : Ev.Within Part.running e (e.linkEdit q).1 := by
  refine Ev.edit_within ?_
  split
  · exact e.createLink_within _
  · exact e.changeLink_within _
  · exact e.removeLink_within _
  · exact .refl _ e

theorem Ev.setNodes_within (e : Ev) {nodes : Table Node}
    (h : (tableWf e.p.net.nodes ∧ ∀ k ∈ tkeys e.p.net.nodes, k ≤ Config.maxNode) →
      tableWf nodes ∧ ∀ k ∈ tkeys nodes, k ≤ Config.maxNode) :
    Ev.Within Part.running e { e with p.net.nodes := nodes } :=
  .running rfl List.prefix_rfl rfl (fun inv => { inv with nodes := h inv.nodes }) fun inv => { inv with }

theorem Ev.createNode_within (e : Ev) (p : List Byte) : Ev.Within Part.running e (e.createNode p (field p 0 2)).1 := by
  unfold Ev.createNode
  split
  · exact .refl _ e
  · split
    · exact .refl _ e
    · next n hn =>
      dsimp only
      split
      · exact .refl _ e
      · split
        · exact .refl _ e
        · exact .last (Ev.edited_within _) (.last (Ev.created_within _ _ _)
            (e.setNodes_within fun h => keys_tset h n (editedNode_id hn)))

theorem Ev.changeNode_within (e : Ev) (p : List Byte) : Ev.Within Part.running e (e.changeNode p (field p 0 2)).1 := by
  unfold Ev.changeNode
  split
  · exact .refl _ e
  · split
    · exact .refl _ e
    · next n hn =>
      dsimp only
      split
      · exact .refl _ e
      · split
        · exact .refl _ e
        · split
          · exact .refl _ e
          · exact .last (Ev.edited_within _) (e.setNodes_within fun h => keys_tset h _ (editedNode_id hn))

theorem Ev.removeNode_within (e : Ev) (id : Nat) : Ev.Within Part.running e (e.removeNode id).1 := by
  unfold Ev.removeNode
  split
  · exact .refl _ e
  · dsimp only
    split
    · exact .refl _ e
    · split
      · exact .refl _ e
      · split
        · exact .refl _ e
        · exact .last (Ev.edited_within _) (e.setNodes_within fun h => keys_terase h id)

theorem Ev.nodeEdit_within (e : Ev) (q : Req) : Ev.Within Part.running e (e.nodeEdit q).1 := by
  refine Ev.edit_within ?_
  split
  · exact e.createNode_within _
  · exact e.changeNode_within _
  · exact e.removeNode_within _
  · exact .refl _ e

/-! ## Tags and the locator -/

/-- What a tag may change: its table, and for DO_NOT_OPERATE what an unworkable link brings (R153). -/
abbrev Part.tagging : List Part := .net :: .bump :: Part.replanning

theorem Ev.putTag_within (e : Ev) {id : Nat} (t : Tag) (hk : id < Config.tagSlots) :
    Ev.Within [.net] e { e with p.net.tags := tset e.p.net.tags id t } :=
  { Ev.Within.refl [.net] e with
    net := fun a => absurd (by decide) a
    tables := fun inv => { inv with tags := keys_tset inv.tags t hk }
    limits := fun inv => { inv with } }

theorem Ev.placeTag_within (e : Ev) {id : Nat} (origin link : Nat) (kind : TagKind) (hk : id < Config.tagSlots) :
    Ev.Within Part.tagging e (e.placeTag id origin link kind) := by
  have put := Ev.Within.of (A := Part.tagging) (e.putTag_within ⟨link, kind, origin, e.now⟩ hk)
  cases kind with
  | doNotOperate => exact .last (Ev.unworkable_within _ _ _) (.last (Ev.bump_within _) put)
  | workInProgress => exact put

theorem Ev.tagSet_within (e : Ev) (q : Req) : Ev.Within Part.tagging e (e.tagSet q).1 := by
  unfold Ev.tagSet
  dsimp only
  split
  · exact .refl _ e
  · split
    · exact .refl _ e
    · split
      · exact .refl _ e
      · split
        · exact .refl _ e
        · split
          · exact .refl _ e
          · unfold Ev.tagLink
            split
            · exact .refl _ e
            · split
              · exact .refl _ e
              · split
                · exact .refl _ e
                · next hk => exact e.placeTag_within _ _ _ (lowestFree_some hk).2.1

theorem Ev.removeTag_within (e : Ev) (id : Nat) (t : Tag) : Ev.Within [.net, .bump] e (e.removeTag id t) := by
  have removed : Ev.Within [.net, .bump] e { e with p.net.tags := terase e.p.net.tags id } :=
    { Ev.Within.refl [.net, .bump] e with
      net := fun a => absurd (by decide) a
      tables := fun inv => { inv with tags := keys_terase inv.tags id }
      limits := fun inv => { inv with } }
  unfold Ev.removeTag
  dsimp only
  split
  · exact .last (Ev.bump_within _) removed
  · exact removed

theorem Ev.tagClear_within (e : Ev) (q : Req) : Ev.Within [.net, .bump] e (e.tagClear q).1 := by
  unfold Ev.tagClear
  dsimp only
  split
  · exact .refl _ e
  · split
    · exact .refl _ e
    · split
      · exact .refl _ e
      · split
        · exact .refl _ e
        · exact e.removeTag_within _ _

/-- The form of the locator's table (R24). -/
def locatorWf (t : Table LocatorEntry) : Prop :=
  tableWf t ∧ (∀ k ∈ tkeys t, k < Config.locatorEntries) ∧ ∀ x ∈ t, x.2 ≠ {}

theorem writeEntry_wf {t : Table LocatorEntry} (h : locatorWf t) {k : Nat} (x : LocatorEntry)
    (hk : k < Config.locatorEntries) : locatorWf (writeEntry t k x) := by
  obtain ⟨wf, keys, listed⟩ := h
  unfold writeEntry
  split
  · obtain ⟨wf', keys'⟩ := keys_terase ⟨wf, keys⟩ k
    exact ⟨wf', keys', fun y hy => listed y (List.mem_of_mem_filter hy)⟩
  · next hx =>
    obtain ⟨wf', keys'⟩ := keys_tset ⟨wf, keys⟩ x hk
    exact ⟨wf', keys', fun y hy => (mem_tset hy).elim (fun e => e ▸ hx) (listed y)⟩

theorem writeEntries_wf {k : Nat} {xs : List LocatorEntry} {t : Table LocatorEntry} (h : locatorWf t)
    (hk : k + xs.length ≤ Config.locatorEntries) : locatorWf (writeEntries k xs t) := by
  induction xs generalizing k t with
  | nil => exact h
  | cons x xs ih =>
    rw [List.length_cons] at hk
    exact ih (writeEntry_wf h x (by omega)) (by omega)

theorem Ev.locatorSet_within (e : Ev) (q : Req) : Ev.Within [.net] e (e.locatorSet q).1 := by
  unfold Ev.locatorSet
  dsimp only
  split
  · exact .refl _ e
  · split
    · exact .refl _ e
    · next fits =>
      have room : field q.payload 0 2 + (locatorEntriesOf q.payload).length ≤ Config.locatorEntries := by
        simp only [Bool.or_eq_true, decide_eq_true_eq, not_or, Nat.not_lt] at fits
        simpa [locatorEntriesOf] using fits.1.2
      exact { Ev.Within.refl [.net] e with
        net := fun a => absurd (by decide) a
        tables := fun inv => { inv with locator := writeEntries_wf inv.locator room }
        limits := fun inv => { inv with } }

/-! ## The setting requests -/

theorem Ev.outageRelease_within (e : Ev) (q : Req) : Ev.Within [.isos, .records] e (e.outageRelease q).1 := by
  unfold Ev.outageRelease
  split
  · exact .refl _ e
  · split
    · exact .refl _ e
    · unfold Ev.releaseRecord
      split
      · exact .refl _ e
      · split
        · exact .refl _ e
        · split
          · exact .refl _ e
          · exact .last (Ev.forgetRecord_within _ _) (.of (e.setRecords_within (fun h => keys_terase h _)
              fun all x hx => all x (List.mem_of_mem_filter hx)))

theorem Ev.weightsSet_within (e : Ev) (q : Req) : Ev.Within [.settings] e (e.weightsSet q).1 := by
  unfold Ev.weightsSet
  dsimp only
  split
  · exact .refl _ e
  · split
    · exact .refl _ e
    · split
      · exact .refl _ e
      · next small =>
        split
        · exact .refl _ e
        · exact { Ev.Within.refl [.settings] e with
            settings := fun a => absurd (by decide) a
            tables := fun inv => { inv with }
            limits := fun inv => { inv with
              weights := by
                simp only [Bool.or_eq_true, decide_eq_true_eq, not_or, Nat.not_lt] at small
                exact ⟨small.1.1, small.1.2, small.2⟩ } }

theorem writeGroup_tables {p : Plant} (inv : p.TablesInv) (b : List Byte) (group : Nat) :
    (writeGroup p b group).TablesInv := by
  unfold writeGroup
  split <;> exact { inv with }

theorem writeGroup_limits {p : Plant} (inv : p.LimitsInv) {b : List Byte} {group : Nat}
    (h : groupInRange b group = true) : (writeGroup p b group).LimitsInv := by
  unfold writeGroup
  split <;> simp only [groupInRange, Bool.and_eq_true, decide_eq_true_eq] at h
  · exact { inv with limit := h }
  · exact { inv with threshold := h.1.1.1 }
  · obtain ⟨⟨⟨⟨⟨-, r1⟩, -⟩, r3⟩, le12⟩, le23⟩ := h
    exact { inv with response := ⟨r1.1, le12, le23, r3.2⟩ }
  · obtain ⟨⟨⟨⟨verify, accept⟩, -⟩, -⟩, -⟩ := h
    exact { inv with times := ⟨verify, accept⟩ }
  · exact inv

theorem writeGroup_generation (p : Plant) (b : List Byte) (group : Nat) :
    (writeGroup p b group).net.generation = p.net.generation := by
  unfold writeGroup
  split <;> rfl

theorem Ev.settingsSet_within (e : Ev) (q : Req) : Ev.Within Part.running e (e.settingsSet q).1 := by
  unfold Ev.settingsSet
  split
  · exact .refl _ e
  · split
    · exact .refl _ e
    · unfold Ev.setGroup
      split
      · exact .refl _ e
      · split
        · exact .refl _ e
        · split
          · exact .refl _ e
          · next ok =>
            have written : Ev.Within Part.running e
                { e with p := writeGroup e.p (q.payload.drop 1) (field q.payload 0 1) } :=
              .running rfl List.prefix_rfl (writeGroup_generation _ _ _) (fun inv => writeGroup_tables inv _ _)
                fun inv => writeGroup_limits inv (by simpa using ok)
            exact .ite (.last (Ev.tierChecks_within _) written) written

theorem Ev.resetActive_within (e : Ev) : Ev.Within Part.running e e.resetActive := by
  have cleared (f : Ev) : Ev.Within Part.running f { f with
      p.net.controls := f.p.net.controls.map fun x => (x.1, { x.2 with holders := [], order := none })
      p.trace.running := none, p.trace.fifo := [], p.trace.deferred := []
      p.ctl.orders := [] } :=
    .running rfl List.prefix_rfl rfl
      (fun inv => { inv with
        controls := tableWf_map inv.controls fun _ c => { c with holders := [], order := none }
        orders := tableWf_nil })
      fun inv => { inv with fifo := Nat.zero_le _ }
  exact .last (Ev.closeIsolationRecords_within _) (.last (Ev.askRecompute_within _) (.last (Ev.bump_within _)
    (.last (cleared _) (.of (e.mapPipes_within _)))))

theorem Ev.reset_within (e : Ev) (q : Req) : Ev.Within Part.running e (e.reset q).1 := by
  have emptied (f : Ev) : Ev.Within Part.running f { f with p.ctl.isos := [], p.reg.table := [] } :=
    .running rfl List.prefix_rfl rfl (fun inv => { inv with isolations := keys_nil, incidents := keys_nil })
      fun inv => { inv with calls := fun _ h => absurd h List.not_mem_nil }
  unfold Ev.reset
  split
  · exact .refl _ e
  · split
    · exact .refl _ e
    · exact .last (emptied _) (.ite e.resetActive_within (.refl _ e))

end Sys2Proof.Machine
end

section
/-! The invariants of the blocks over every step, and the generation. -/

namespace Sys2Proof.Machine

-- One theorem after another: theorems checked side by side each hold a thread and its stack.
set_option Elab.async false

/-! ## The completion of a table check -/

theorem newPipes_wf {links : Table Link} (h : tableWf links) : tableWf (newPipes links) := by
  have eq : newPipes links = links.filterMap fun x =>
      (if x.2.kind = .pipe then some ({} : PipeRt) else none).map fun y => (x.1, y) := by
    unfold newPipes
    congr 1
    funext x
    split <;> rfl
  rw [eq]
  exact tableWf_filterMap h fun _ l => if l.kind = .pipe then some ({} : PipeRt) else none

theorem newControls_wf {links : Table Link} (h : tableWf links) : tableWf (newControls links) := by
  have eq : newControls links = links.filterMap fun x =>
      (x.2.normal?.map fun pos => ({ position := pos } : ControlRt)).map fun y => (x.1, y) := by
    unfold newControls
    congr 1
    funext x
    cases x.2.normal? <;> rfl
  rw [eq]
  exact tableWf_filterMap h fun _ l => l.normal?.map fun pos => ({ position := pos } : ControlRt)

/-- Everything an event may change. -/
abbrev Part.all : List Part := .activate :: Part.running

theorem Ev.Within.anything {e e' : Ev} (now : e'.now = e.now) (out : e.out <+: e'.out)
    (tables : e.p.TablesInv → e'.p.TablesInv) (limits : e.p.LimitsInv → e'.p.LimitsInv) : Ev.Within Part.all e e' where
  now := now
  out := out
  isos a := absurd (by decide) a
  fixed a := absurd (by decide) a
  serial a := absurd (by decide) a
  plans a := absurd (by decide) a
  orders a := absurd (by decide) a
  controls a := absurd (by decide) a
  holders a := absurd (by decide) a
  positions a := absurd (by decide) a
  links a := absurd (by decide) a
  nodes a := absurd (by decide) a
  pipes a := absurd (by decide) a
  net a := absurd (by decide) a
  trace a := absurd (by decide) a
  ask a := absurd (by decide) a
  applied a := absurd (by decide) a
  mon a := absurd (by decide) a
  reg a := absurd (by decide) a
  records a := absurd (by decide) a
  settings a := absurd (by decide) a
  still _ a := absurd (by decide) a
  once a := absurd (by decide) a
  mono a := absurd (by decide) a
  tables := tables
  limits := limits

theorem Ev.activate_within (e : Ev) : Ev.Within Part.all e e.activate := by
  have activated : Ev.Within Part.all e { e with
      p.net.state := .active, p.net.generation := 1
      p.net.nodes := e.p.net.nodes.map fun x => (x.1, { x.2 with fed := false })
      p.net.pipes := newPipes e.p.net.links, p.net.controls := newControls e.p.net.links } :=
    .anything rfl List.prefix_rfl
      (fun inv => { inv with
        nodes := ⟨tableWf_map inv.nodes.1 fun _ x => { x with fed := false }, fun k hk =>
          inv.nodes.2 k (tkeys_map e.p.net.nodes (fun _ x => { x with fed := false }) ▸ hk)⟩
        pipes := newPipes_wf inv.links.1, controls := newControls_wf inv.links.1 })
      fun inv => { inv with generation := (by decide : 1 ≤ 4294967295) }
  exact .last (Ev.askRecompute_within _) (.last (Ev.openRecordZero_within _) activated)

theorem Ev.noteCheck_within (e : Ev) (f : Option CheckFail) : Ev.Within [] e (e.noteCheck f) := by
  unfold Ev.noteCheck
  split <;> exact e.note_within _ _ _

theorem Ev.checkComplete_within (e : Ev) : Ev.Within Part.all e e.checkComplete := by
  have noted (f : Option CheckFail) : Ev.Within Part.all e (Ev.noteCheck { e with
      p.draws := if e.p.net.checkViews.length < 2 then e.p.draws else e.p.draws + 2
      p.net.checkViews := [] } f) :=
    .last (Ev.noteCheck_within _ _)
      (.anything rfl List.prefix_rfl (fun inv => { inv with }) fun inv => { inv with })
  unfold Ev.checkComplete
  dsimp only
  split
  · exact (noted _).trans (Ev.activate_within _)
  · exact (noted _).trans (.anything rfl List.prefix_rfl (fun inv => { inv with }) fun inv => { inv with })

/-! ## Every command -/

theorem lengthFirst_within {A : List Part} {e : Ev} {ok : List Byte → Bool} {act : Req → Ev → Ev × Reply} {q : Req}
    (h : Ev.Within A e (act q e).1) : Ev.Within A e (lengthFirst ok act q e).1 :=
  lengthFirst_cases (P := fun x : Ev × Reply => Ev.Within A e x.1) (.refl A e) h

theorem onNamedWith_within {A : List Part} {right : Rights → Bool} {act : Ev → Nat → Isolation → Ev × Reply} {q : Req}
    {e : Ev} (h : ∀ slot i, Ev.Within A e (act e slot i).1) : Ev.Within A e (onNamedWith right act q e).1 := by
  unfold onNamedWith
  split
  · exact .refl A e
  · exact Ev.onNamed_within h

/-- What every request that a block decides may change. -/
theorem blockRow_within {c : Instr} {r : BlockRow} (h : blockRow c = some r) (q : Req) (e : Ev) :
    Ev.Within Part.running e (r.act q e).1 := by
  cases c <;> cases h
  case editBeginLinks => exact lengthFirst_within (e.editBegin_within q)
  case editBeginFull => exact lengthFirst_within (e.editBegin_within q)
  case editEnd => exact lengthFirst_within (e.editEnd_within q)
  case editRevoke => exact lengthFirst_within (e.editRevoke_within q)
  case tableBegin => exact lengthFirst_within (e.tableBegin_within q)
  case tableBlock => exact e.tableBlock_within q
  case linkEditCreate => exact lengthFirst_within (e.linkEdit_within q)
  case linkEditChange => exact lengthFirst_within (e.linkEdit_within q)
  case linkEditRemove => exact lengthFirst_within (e.linkEdit_within q)
  case nodeEditCreate => exact lengthFirst_within (e.nodeEdit_within q)
  case nodeEditChange => exact lengthFirst_within (e.nodeEdit_within q)
  case nodeEditRemove => exact lengthFirst_within (e.nodeEdit_within q)
  case tagSet => exact lengthFirst_within (.of (e.tagSet_within q))
  case tagClear => exact lengthFirst_within (.of (e.tagClear_within q))
  case locatorSet => exact lengthFirst_within (.of (e.locatorSet_within q))
  case stationSetDefine => exact lengthFirst_within (.of (e.stationSet_within q))
  case stationSetRemove => exact lengthFirst_within (.of (e.stationSet_within q))
  case stationRead => exact lengthFirst_within (.of (e.stationRead_within q false))
  case stationReadClear => exact lengthFirst_within (.of (e.stationRead_within q true))
  case telemetry => exact .of (e.telemetry_within q)
  case call => exact .of (e.call_within q)
  case incidentUpdate => exact .of (e.incidentUpdate_within q)
  case isolate => exact .of (e.isolate_within q)
  case authorise => exact .of (e.authorise_within q)
  case cancel => exact lengthFirst_within (onNamedWith_within fun k i => .of (e.cancelNamed_within k i))
  case accept => exact lengthFirst_within (onNamedWith_within fun k i => .of (e.acceptNamed_within k i))
  case isolationRelease => exact lengthFirst_within (onNamedWith_within fun k i => .of (e.releaseNamed_within k i))
  case isolationRead => exact lengthFirst_within (Ev.onNamed_within fun _ _ => .refl _ e)
  case valveReportAccept => exact Ev.orderReport_within fun id o => .of (e.reportAccept_within id o)
  case valveReportOperated => exact Ev.orderReport_within fun id o => .of (e.reportOperated_within id o)
  case valveReportCannotOperate => exact Ev.orderReport_within fun id o => .of (e.reportCannotOperate_within id o)
  case valveReportFound => exact Ev.valveReport_within (.of (e.reportFound_within q.payload))
  case restore => exact .of (e.restore_within q)
  case rampResume => exact lengthFirst_within (onNamedWith_within fun k i => .of (e.resumeNamed_within k i))
  case reclose => exact lengthFirst_within (onNamedWith_within fun k i => .of (e.recloseNamed_within k i))
  case relightReport => exact .of (e.relightReport_within q)
  case closeOut => exact lengthFirst_within (onNamedWith_within fun k i => .of (e.closeOutNamed_within k i))
  case outageRelease => exact .of (e.outageRelease_within q)
  case weightsSet => exact .of (e.weightsSet_within q)
  case settingsSet => exact e.settingsSet_within q
  case resetOperations => exact lengthFirst_within (e.reset_within q)

/-- What every timer's expiry and every job's completion but the table check's may change. -/
theorem blockEvent_within {c : Instr} {f : Ev → Ev} (h : blockEvent c = some f) (hc : c ≠ .tableCheckComplete) (e : Ev) :
    Ev.Within Part.running e (f e) := by
  cases c <;> cases h
  case tableCheckComplete => exact absurd rfl hc
  case stalenessExpiry k => exact .of (e.stalenessExpiry_within k)
  case incidentDeadlineExpiry k => exact .of (e.deadlineExpiry_within k)
  case traceCompletion => exact .of e.traceCompletion_within
  case recomputeCompletion => exact .of e.recomputeCompletion_within
  case verifyTimerExpiry k => exact .of (e.verifyExpiry_within k)
  case orderOverdue k => exact .of (e.orderOverdue_within k)
  case rampStartTimerExpiry k => exact .of (e.rampStartExpiry_within k)

theorem TimerEvent.within {f : Ev → Ev} (h : TimerEvent f) (e : Ev) : Ev.Within Part.running e (f e) := by
  cases h with
  | minute => exact .of e.minute_within
  | staleness k => exact .of (e.stalenessExpiry_within k)
  | deadline k => exact .of (e.deadlineExpiry_within k)
  | verify k => exact .of (e.verifyExpiry_within k)
  | overdue k => exact .of (e.orderOverdue_within k)
  | rampStart k => exact .of (e.rampStartExpiry_within k)

/-- What an event of the blocks may change, whichever command brings it. -/
theorem BlockStep.within {c : Instr} {f : Ev → Ev} (h : BlockStep c f) (hc : c ≠ .tableCheckComplete) (e : Ev) :
    Ev.Within Part.running e (f e) := by
  cases h with
  | timer _ ht => exact ht.within e
  | event he => exact blockEvent_within he hc e
  | request q hr => exact blockRow_within hr q e

theorem BlockStep.within_all {c : Instr} {f : Ev → Ev} (h : BlockStep c f) (e : Ev) : Ev.Within Part.all e (f e) := by
  by_cases hc : c = .tableCheckComplete
  · subst hc
    cases h with
    | timer ht => exact absurd ht (by simp)
    | event he =>
      cases he
      exact e.checkComplete_within
    | request _ hr => cases hr
  · exact .of (h.within hc e)

theorem Ev.Within.settle {A : List Part} {e f : Ev} (h : Ev.Within A e f)
    (sub : [Part.regen, .isos, .orders, .controls, .records, .trace, .ask] ⊆ A := by decide) :
    Ev.Within A e f.settle := h.andThen f.settle_within sub

/-- Settles O55: each operation of an event keeps the tables in form. -/
theorem tablesInvariantKept : Obligations.TablesInvariantKept := by
  intro s t inv h
  exact step_plant (P := Plant.TablesInv) Plant.TablesInv.powerOn
    (fun c s f hf inv => (Ev.Within.settle (hf.within_all s.ev)).tables inv) inv h

/-- Settles O56: each operation of an event keeps the bounds. -/
theorem limitsInvariantKept : Obligations.LimitsInvariantKept := by
  intro s t inv h
  exact step_plant (P := Plant.LimitsInv) Plant.LimitsInv.powerOn
    (fun c s f hf inv => (Ev.Within.settle (hf.within_all s.ev)).limits inv) inv h

/-- Settles O59: no operation of an event but an activation lowers the generation. -/
theorem generationNeverDecreases : Obligations.GenerationNeverDecreases := by
  intro c s t power check bound h
  exact exec_plant
    (P := fun p => s.plant.net.generation ≤ p.net.generation ∧ p.net.generation ≤ max32) h ⟨Nat.le_refl _, bound⟩
    (fun strap hc => absurd hc (power strap)) fun u f hf ⟨above, below⟩ => by
      obtain ⟨grown, small⟩ := (Ev.Within.settle (hf.within check u.ev)).mono (by decide) below
      exact ⟨above.trans grown, small⟩

end Sys2Proof.Machine
end

section
/-! Fields on the line (R216), the receiver and admission (R197 to R201): what a run of bytes does to the receiver, and
O5, O6, O7 assembled from that. -/

namespace Sys2Proof.Machine

-- One theorem after another: theorems checked side by side each hold a thread and its stack.
set_option Elab.async false

/-! ## Fields -/

theorem be_one (v : Nat) : be 1 v = [BitVec.ofNat 8 v] := by simp [be]

theorem be_two (v : Nat) : be 2 v = [BitVec.ofNat 8 (v / 256), BitVec.ofNat 8 v] := by simp [be]

theorem beVal_one (b : Byte) : beVal [b] = b.toNat := by simp [beVal]

theorem beVal_two (a b : Byte) : beVal [a, b] = a.toNat * 256 + b.toNat := by simp [beVal]

theorem beVal_be_two {v : Nat} (h : v < 65536) : beVal (be 2 v) = v := by
  rw [be_two, beVal_two, BitVec.toNat_ofNat, BitVec.toNat_ofNat]
  omega

/-! ## The receiver (R198) -/

/-- The value of line bytes without a framing error. -/
theorem foldl_lineValue (bs : List Byte) (l : ControlLink) :
    (bs.map LineByte.byte).foldl (fun l b => l.receive (lineValue b)) l = bs.foldl ControlLink.receive l := by
  rw [List.foldl_map]
  rfl

theorem exec_frameReceived_bytes {s : State} (h : s.link.lineLow = false) (bs : List Byte) :
    exec (.frameReceived (bs.map .byte)) s = .next { s with link := bs.foldl ControlLink.receive s.link } := by
  rw [← foldl_lineValue]
  simp [exec, execFrameReceived, h]

/-- In BODY, bytes short of the whole frame are stored. -/
theorem ControlLink.receive_stores (bs : List Byte) (l : ControlLink) (len : Nat) (got : List Byte)
    (h : got.length + bs.length < len + 5) :
    bs.foldl ControlLink.receive { l with receiver := .body len got }
      = { l with receiver := .body len (bs.reverse ++ got) } := by
  induction bs generalizing got with
  | nil => rfl
  | cons b bs ih =>
    have short : (b :: got).length ≠ len + 5 := by simp only [List.length_cons] at h ⊢; omega
    have step : ({ l with receiver := .body len got } : ControlLink).receive b
        = { l with receiver := .body len (b :: got) } := by
      simp only [ControlLink.receive, if_neg short]
    rw [List.foldl_cons, step, ih _ (by simp only [List.length_cons] at h ⊢; omega)]
    simp

/-- The start byte, a length in range and the bytes it asks for make a frame whole. -/
theorem ControlLink.receive_frame {l : ControlLink} (hl : l.receiver = .hunting) {len : Nat} (hlen : len ≤ 1016)
    {b : List Byte} (hb : b.length = len + 5) :
    (0xA5#8 :: be 2 len ++ b).foldl ControlLink.receive l = l.frameWhole len b := by
  have started : (0xA5#8 :: be 2 len).foldl ControlLink.receive l = { l with receiver := .body len [] } := by
    have value := beVal_be_two (v := len) (by omega)
    rw [be_two] at value ⊢
    have inRange : ¬ Config.maxPayload < len := Nat.not_lt.2 hlen
    simp [ControlLink.receive, hl, hunt, value, inRange]
  obtain ⟨bs, c, rfl⟩ : ∃ bs c, b = bs ++ [c] :=
    ⟨b.dropLast, b.getLast (by rintro rfl; simp at hb), (List.dropLast_append_getLast _).symm⟩
  rw [List.length_append, List.length_singleton] at hb
  rw [List.foldl_append, started, List.foldl_append, ControlLink.receive_stores bs l len [] (by simp; omega)]
  have whole : (c :: (bs.reverse ++ [])).length = len + 5 := by simp; omega
  simp only [List.foldl_cons, List.foldl_nil, ControlLink.receive, if_pos whole]
  simp [ControlLink.frameWhole]

/-- The good-frame counter has counted a frame (R198). -/
abbrev ControlLink.countGood (l : ControlLink) : ControlLink :=
  { l with counters := { l.counters with good := l.counters.good + 1 } }

/-- What a whole frame brings, field by field (R197, R198). -/
theorem ControlLink.frameWhole_fields {l : ControlLink} (hl : l.receiver = .hunting) {kind origin : Nat}
    (hk : kind < 256) (ho : origin < 256) (tag : Byte) (payload : List Byte) (c1 c2 : Byte) :
    l.frameWhole payload.length (be 1 kind ++ [tag] ++ be 1 origin ++ payload ++ [c1, c2])
      = if (crc16 (be 2 payload.length ++ be 1 kind ++ [tag] ++ be 1 origin ++ payload)).toNat = beVal [c1, c2] then
          l.countGood.admitFrame ⟨kind, tag, origin, payload⟩
        else { l with counters := { l.counters with crc := l.counters.crc + 1 } } := by
  have kept : ({ l with receiver := .hunting } : ControlLink) = l := by rw [← hl]
  have hkind : BitVec.toNat (BitVec.ofNat 8 kind) = kind := by rw [BitVec.toNat_ofNat]; omega
  have horigin : BitVec.toNat (BitVec.ofNat 8 origin) = origin := by rw [BitVec.toNat_ofNat]; omega
  unfold ControlLink.frameWhole
  rw [kept]
  simp [be_one, field, bytesAt, beVal_one, hkind, horigin, List.take_append, ControlLink.countGood]

/-- A frame of the line, its CRC bytes as given. -/
theorem exec_frameReceived_frame {s : State} (hl : s.link.lineLow = false) (hr : s.link.receiver = .hunting)
    {kind origin : Nat} (hk : kind < 256) (ho : origin < 256) (tag : Byte) {payload : List Byte}
    (hp : payload.length ≤ 1016) (c1 c2 : Byte) :
    exec (.frameReceived ((0xA5#8 :: (be 2 payload.length ++ be 1 kind ++ [tag] ++ be 1 origin ++ payload)
        ++ [c1, c2]).map .byte)) s
      = .next { s with link :=
          if (crc16 (be 2 payload.length ++ be 1 kind ++ [tag] ++ be 1 origin ++ payload)).toNat = beVal [c1, c2] then
            s.link.countGood.admitFrame ⟨kind, tag, origin, payload⟩
          else { s.link with counters := { s.link.counters with crc := s.link.counters.crc + 1 } } } := by
  rw [exec_frameReceived_bytes hl, ← ControlLink.frameWhole_fields hr hk ho,
    ← ControlLink.receive_frame hr hp (by simp [be_length]; omega)]
  simp

/-- A frame laid out by the rule passes the CRC (R197, R198). -/
theorem exec_frameReceived_frameBytes {s : State} (hl : s.link.lineLow = false) (hr : s.link.receiver = .hunting)
    {kind origin : Nat} (hk : kind < 256) (ho : origin < 256) (tag : Byte) {payload : List Byte}
    (hp : payload.length ≤ 1016) :
    exec (.frameReceived ((frameBytes kind tag origin payload).map .byte)) s
      = .next { s with link :=
          s.link.countGood.admitFrame ⟨kind, tag, origin, payload⟩ } := by
  have crcOf (c : BitVec 16) : c.toNat = beVal (be 2 c.toNat) := (beVal_be_two c.isLt).symm
  dsimp only [frameBytes]
  have matched := crcOf (crc16 (be 2 payload.length ++ be 1 kind ++ [tag] ++ be 1 origin ++ payload))
  rw [be_two (crc16 _).toNat] at matched ⊢
  rw [exec_frameReceived_frame hl hr hk ho tag hp, if_pos matched]

/-! ## Admission (R199, R201) -/

theorem ControlLink.admitFrame_of_room {l : ControlLink} {f : Frame} (ho : f.origin ≤ 7) (hi : l.inbound.length < 16) :
    l.admitFrame f = { l with inbound := l.inbound ++ [f] } := by
  simp [ControlLink.admitFrame, Nat.not_lt.2 ho, Nat.not_le.2 hi]

/-- Settles O5: the receiver gathers the frame, the CRC it carries is its own, and admission finds room. -/
theorem frameRoundTrip : Obligations.FrameRoundTrip := by
  unfold Obligations.FrameRoundTrip
  intro s kind tag origin payload hl hr hk ho hp hi
  rw [exec_frameReceived_frameBytes hl hr hk (by omega) tag hp, ControlLink.admitFrame_of_room (l := s.link.countGood) ho hi]

/-- Settles O6: the three ways admission turns a frame away, each at a reply buffer with and without a place. -/
theorem framesTurnedAway : Obligations.FramesTurnedAway := by
  unfold Obligations.FramesTurnedAway
  intro s kind tag origin payload hl hr hk ho hp
  refine ⟨fun c1 c2 hc => ?crc, fun h => ?badOrigin, fun h hi => ?busy⟩
  case crc =>
    exact (exec_frameReceived_frame hl hr hk ho tag hp c1 c2).trans (by rw [if_neg (Ne.symm hc)])
  case badOrigin =>
    rw [exec_frameReceived_frameBytes hl hr hk ho tag hp]
    simp [ControlLink.admitFrame, ControlLink.replyAtOnce, h, be_one, Status.code]
  case busy =>
    rw [exec_frameReceived_frameBytes hl hr hk ho tag hp]
    simp [ControlLink.admitFrame, ControlLink.replyAtOnce, ControlLink.recordRefusal, Status.refusal, Status.accepting,
      Nat.not_lt.2 h, hi, be_one, Status.code]

/-! ## Length errors, gaps and the line break (R198, R214, R215) -/

/-- A length above the largest payload: the two length bytes are examined again. -/
theorem ControlLink.receive_lengthError {l : ControlLink} (h : l.receiver = .hunting) {hi lo : Byte}
    (hv : 1016 < beVal [hi, lo]) :
    [0xA5#8, hi, lo].foldl ControlLink.receive l
      = { l with receiver := rehunt hi lo, counters := { l.counters with length := l.counters.length + 1 } } := by
  simp [ControlLink.receive, h, hunt, hv]

theorem execGapAbort_of_hunting {s : State} (h : s.link.receiver = .hunting) : exec .gapAbort s = .next s := by
  simp [exec, execGapAbort, h]

theorem execGapAbort_of_frame {s : State} (h : s.link.receiver ≠ .hunting) :
    exec .gapAbort s = .next { s with link := { s.link with
      receiver := .hunting, counters := { s.link.counters with gaps := s.link.counters.gaps + 1 } } } := by
  cases hr : s.link.receiver with
  | hunting => exact absurd hr h
  | header got => simp [exec, execGapAbort, hr]
  | body len got => simp [exec, execGapAbort, hr]

/-- Settles O7: the receiver's errors, then the line break, during which no byte is taken. -/
theorem receiverErrorsAndLineBreak : Obligations.ReceiverErrorsAndLineBreak := by
  unfold Obligations.ReceiverErrorsAndLineBreak
  refine ⟨⟨fun s hi lo hl hr hv => ?length, fun _ => rfl, fun _ => execGapAbort_of_frame,
    fun _ => execGapAbort_of_hunting⟩, fun s hl => ?lineBreak, fun s bs hl => ?low, fun _ => rfl⟩
  case length =>
    exact (exec_frameReceived_bytes hl [0xA5#8, hi, lo]).trans (by rw [ControlLink.receive_lengthError hr hv]; rfl)
  case lineBreak =>
    simp only [exec, execLineBreak, hl, Bool.false_eq_true, if_false, ControlLink.resetLink, ControlLink.passed, isRequestKind]
    rfl
  case low => simp [exec, execFrameReceived, hl]

end Sys2Proof.Machine
end

section
/-! Power-on, the clock and the end of an event: O2, O3, O4. The reply and the notice queue: O8, O9. -/

namespace Sys2Proof.Machine

-- One theorem after another: theorems checked side by side each hold a thread and its stack.
set_option Elab.async false

/-! ## Power-on (section 10.13, R196) -/

/-- Settles O2: the reset state, field by field, and POWER_ON from any state. -/
theorem powerOnValues : Obligations.PowerOnValues := by
  unfold Obligations.PowerOnValues
  refine ⟨⟨⟨rfl, rfl, rfl, rfl, rfl, rfl, rfl, rfl, fun k => ?enabled, rfl, rfl, by decide, rfl, rfl, rfl, rfl⟩,
    ⟨rfl, rfl, rfl, rfl, rfl, rfl, rfl, rfl, rfl, fun _ => rfl⟩, ⟨rfl, rfl, rfl, rfl, rfl, rfl⟩, ⟨rfl, rfl, rfl, rfl, rfl⟩,
    ⟨rfl, rfl, rfl, rfl, rfl, rfl⟩, ⟨rfl, rfl, rfl, rfl, rfl, rfl, rfl⟩, rfl, rfl⟩, fun strap s => ⟨_, rfl, ?_, rfl, rfl⟩⟩
  case enabled => cases k <;> rfl
  cases strap <;> rfl

/-! ## The end of a second (R212) -/

theorem filter_eq_nil_of_all {α : Type} {l : List α} {p : α → Bool} (h : l.all (fun x => !p x) = true) :
    l.filter p = [] :=
  List.filter_eq_nil_iff.mpr fun x hx => by simpa using List.all_eq_true.mp h x hx

@[simp] theorem State.expire_nil (s : State) (f : Nat → Ev → Ev) : s.expire [] f = s := rfl

/-- With nothing due the second ends as it was. -/
theorem State.takeDue_of_nothingDue {s : State} (h : s.nothingDue) : s.takeDue = s := by
  obtain ⟨minute, staleness, deadline, verify, overdue, rampStart⟩ := h
  have still : s.takeMinute = s := by simp [State.takeMinute, minute]
  unfold State.takeDue
  simp only [still, tkeysWhere, filter_eq_nil_of_all staleness, filter_eq_nil_of_all deadline,
    filter_eq_nil_of_all verify, filter_eq_nil_of_all overdue, filter_eq_nil_of_all rampStart, List.map_nil,
    State.expire_nil]

theorem State.takeDue_wallOffset (s : State) : s.takeDue.link.wallOffset = s.link.wallOffset :=
  State.takeDue_induction (P := fun t => t.link.wallOffset = s.link.wallOffset) (fun _ h => h)
    (fun t f _ h => (t.event_wallOffset f).trans h) rfl

/-- PART_TIME_TICK while the clock runs. -/
theorem exec_partTimeTick_of_running {s : State} (hc : s.link.clockEnded = false) (hp : s.link.partTime < 4294967295) :
    exec .partTimeTick s = .next { s.takeDue with
      link.partTime := s.link.partTime + 1, link.boundaryDue := (s.link.partTime + 1) % 60 = 0 } := by
  obtain ⟨ended, -⟩ | ⟨-, last, -⟩ | ⟨-, -, he⟩ := execPartTimeTick_cases s
  · simp [hc] at ended
  · exact absurd last (by simp only [max32]; omega)
  · exact he

theorem exec_partTimeTick_at_last {s : State} (hc : s.link.clockEnded = false) (hp : s.link.partTime = 4294967295) :
    exec .partTimeTick s = .next { s.takeDue with link.clockEnded := true } := by
  obtain ⟨ended, -⟩ | ⟨-, -, he⟩ | ⟨-, later, -⟩ := execPartTimeTick_cases s
  · simp [hc] at ended
  · exact he
  · exact absurd hp later

/-- Settles O3, by the three cases of a tick; a timer's expiry tests the clock first. -/
theorem tickAdvancesPartTime : Obligations.TickAdvancesPartTime := by
  unfold Obligations.TickAdvancesPartTime
  refine ⟨⟨fun s hc hp => ?running, fun s hc hp => ?last, fun s hc => ?ended, fun s hc hp hd => ?quiet⟩,
    fun s hc => ?expiries⟩
  case running =>
    have next := exec_partTimeTick_of_running hc hp
    have ended := s.takeDue_clockEnded
    have offset := s.takeDue_wallOffset
    generalize s.takeDue = d at *
    exact ⟨_, next, rfl, ended.trans hc, rfl, offset⟩
  case last =>
    have next := exec_partTimeTick_at_last hc hp
    have time := s.takeDue_partTime
    generalize s.takeDue = d at *
    exact ⟨_, next, time.trans hp, rfl⟩
  case ended => simp [exec, execPartTimeTick, hc]
  case quiet => rw [exec_partTimeTick_of_running hc hp, State.takeDue_of_nothingDue hd]
  case expiries =>
    simp [exec, execMinuteBoundary, State.takeMinute, execStalenessExpiry, execIncidentDeadlineExpiry,
      execVerifyTimerExpiry, execOrderOverdue, execRampStartTimerExpiry, hc]

/-! ## The minute boundary (R180, R188, R189) -/

/-- At the end of an event a record's peak takes the larger of its old value and its pending (R180). -/
theorem Ev.settle_record? (e : Ev) (k : Nat) :
    tget e.settle.p.led.records k
      = (tget e.p.led.records k).map fun o => { o with peak := o.peak.most (recordPending e.p.net.pipes k) } := by
  let f := ({ e with bumped := false } : Ev).arbitrate
  have noted : e.settle.p.led.records = f.notePeaks.p.led.records := by simp [Ev.settle, f]
  have records : f.p.led.records = e.p.led.records := by simp [Ev.arbitrate, f]
  have pipes : f.p.net.pipes = e.p.net.pipes := by simp [Ev.arbitrate, f]
  rw [noted, ← records, ← pipes]
  exact tget_map _ (fun k (o : Outage) => { o with peak := o.peak.most (recordPending f.p.net.pipes k) }) k

/-- What a minute adds to a record (R188, R189). -/
theorem OutageLedger.minute_record? (l : OutageLedger) (pipes : Table PipeRt) (k : Nat) :
    tget (l.minute pipes).records k
      = (tget l.records k).map fun o => o.minute l.weights (recordPending pipes k) :=
  tget_map _ (fun k (o : Outage) => o.minute l.weights (recordPending pipes k)) k

/-- Settles O4: the due boundary is an event that accrues, and the end of the event notes the peaks. -/
theorem minuteBoundaryAccrues : Obligations.MinuteBoundaryAccrues := by
  unfold Obligations.MinuteBoundaryAccrues
  intro s hb hc
  have taken : exec .minuteBoundary s = .next (State.event { s with link.boundaryDue := false } Ev.minute) := by
    simp [exec, execMinuteBoundary, State.takeMinute, hb, hc]
  refine ⟨_, taken, by simp, by simp, fun k => ?records, Ev.settle_led_weights _, Ev.settle_net_pipes _,
    Ev.settle_mon _, Ev.settle_reg _⟩
  case records =>
    refine (Ev.settle_record? _ k).trans ?_
    simp only [Ev.minute, OutageLedger.minute_record?, Option.map_map]
    congr 1
    funext o
    cases ho : o.state <;> simp [Outage.minute, accrue, max40, Counts.dot, Counts.total, ho]

/-! ## The reply (R200, R201, R211, R217) -/

/-- A kind byte with its top bit set is a notice's exactly for the kinds 0x70 and 0xF0. -/
theorem or_top_eq_notice_iff (kind : Nat) : kind ||| 0x80 = 0xF0 ↔ kind = 0x70 ∨ kind = 0xF0 := by
  constructor
  · intro h
    have bound : kind < 0xF1 := Nat.lt_succ_of_le (h ▸ Nat.left_le_or)
    have bytes : ∀ k < 0xF1, k ||| 0x80 = 0xF0 → k = 0x70 ∨ k = 0xF0 := by decide +kernel
    exact bytes kind bound h
  · rintro (rfl | rfl) <;> rfl

theorem replyKind_eq (kind : Nat) : replyKind kind = if kind = 0x70 ∨ kind = 0xF0 then 0x80 else kind ||| 0x80 := by
  simp only [replyKind, or_top_eq_notice_iff]

theorem Reply.payload_eq (r : Reply) : r.payload = BitVec.ofNat 8 r.status.code :: r.body := by
  simp [Reply.payload, be_one]

theorem ControlLink.recordRefusal_eq (l : ControlLink) (origin : Nat) (c : Status) :
    l.recordRefusal origin c = { l with
      refusals := if 0x10 ≤ c.code then l.refusals.modify origin (fun k => ⟨k.count + 1, some c⟩) else l.refusals } := by
  by_cases h : 0x10 ≤ c.code
  · simp [ControlLink.recordRefusal, Status.refusal, Status.accepting, h]
  · have accepting : c.code < 16 := by omega
    simp [ControlLink.recordRefusal, Status.refusal, Status.accepting, h, accepting]

theorem State.current?_of_handles {s : State} {f : Frame} {kind : Nat} (h : s.handles f kind) : s.current? = some f := by
  obtain ⟨handling, head, -⟩ := h
  simp [State.current?, handling, head]

theorem execUnknownKind_eq {s : State} {f : Frame} (h : s.handles f f.kind) :
    exec .unknownKind s
      = .next (if isRequestKind f.kind then s else { s with link := s.link.finish f ⟨.unknownKind, []⟩ }) := by
  simp [exec, execUnknownKind, State.current?_of_handles h]

/-- Settles O8: dispatch by its three conditions, then the reply at a busy and at an idle transmitter. -/
theorem dispatchAndReply : Obligations.DispatchAndReply := by
  unfold Obligations.DispatchAndReply
  refine ⟨⟨fun s hh hi hr => ?dispatch, fun s h => ?wait, fun s f h hk => ?unknown, fun s f h hk hk' => ?known⟩,
    fun l f r => ?reply⟩
  case dispatch => simp [exec, execRequestDispatch, hh, hi, hr]
  case wait =>
    obtain h | h | h := h
    · simp [exec, execRequestDispatch, h]
    · simp [exec, execRequestDispatch, h]
    · simp [exec, execRequestDispatch, Nat.not_lt.2 h]
  case unknown =>
    have other : isRequestKind f.kind = false := by simp [isRequestKind]; omega
    rw [execUnknownKind_eq h, other]
    rfl
  case known =>
    have known : isRequestKind f.kind = true := by simp [isRequestKind]; omega
    rw [execUnknownKind_eq h, if_pos known]
  case reply =>
    simp only [ControlLink.finish, replyKind_eq, Reply.payload_eq, ControlLink.recordRefusal_eq]
    refine ⟨fun busy => ?_, fun idle empty => ?_, fun a rest idle oldest => ?_⟩
    · simp [ControlLink.pump, busy]
    · simp [ControlLink.pump, idle, empty]
    · simp [ControlLink.pump, idle, oldest]

/-! ## Notices and the transmitter (R202 to R205) -/

theorem exec_transmitComplete {s : State} {x : OutFrame} (h : s.link.sending = some x) :
    exec .transmitComplete s = .next { s with link := ({ s.link with sending := none } : ControlLink).pump } := by
  simp [exec, execTransmitComplete, h]

/-- Settles O9: a notice by the mask, the resync condition and the room; the transmitter by what waits. -/
theorem noticesAndTransmitter : Obligations.NoticesAndTransmitter := by
  unfold Obligations.NoticesAndTransmitter
  refine ⟨fun l n => ⟨fun off => ?_, fun r on hr => ?_, fun on hr full => ?_, fun on hr room busy => ?_,
    fun on hr idle hq hn => ?_⟩, fun s x hx => ?_⟩
  · simp [ControlLink.queue, ControlLink.enables, off]
  · simp [ControlLink.queue, ControlLink.enables, on, hr]
  · simp [ControlLink.queue, ControlLink.enables, on, hr, full]
  · simp [ControlLink.queue, ControlLink.enables, on, hr, Nat.not_le.2 room, ControlLink.pump, busy]
  · simp [ControlLink.queue, ControlLink.enables, on, hr, hn, hq, ControlLink.pump, idle, ControlLink.resyncCheck]
  · rw [exec_transmitComplete hx]
    refine ⟨fun a rest hq => ?_, fun n rest hq hn hr => ?_, fun n rest r hq hn hr room => ?_,
      fun n rest r hq hn hr tight => ?_, fun hq hn => ?_⟩
    · simp [ControlLink.pump, hq]
    · simp [ControlLink.pump, hq, hn, ControlLink.resyncCheck, hr]
    · simp [ControlLink.pump, hq, hn, ControlLink.resyncCheck, hr, room]
    · simp [ControlLink.pump, hq, hn, ControlLink.resyncCheck, hr, Nat.not_le.2 tight]
    · simp [ControlLink.pump, hq, hn]

end Sys2Proof.Machine
end

section
/-! Requests that the Control Link decides, LIST, and the settings: O10, O11, O12, O13. What a request of the blocks
leaves, as a state (`State.taken`). -/

namespace Sys2Proof.Machine

-- One theorem after another: theorems checked side by side each hold a thread and its stack.
set_option Elab.async false

/-! ## Answering -/

/-- A request that the link alone decides: its registers go to `l`, and it is answered `r`. -/
theorem State.answer_replied {s : State} {f : Frame} {kind : Nat} (h : s.handles f kind) {row : List Byte → Bool}
    (hr : row f.payload = true) {act : Req → State → State × Reply} {l : ControlLink} {r : Reply}
    (ha : act (s.req f) s = ({ s with link := l }, r)) : s.answer kind row act = s.replied f l r := by
  rw [State.answer_eq h hr, ha]
  rfl

theorem lengthFirst_of_ok {α : Type} {ok : List Byte → Bool} {act : Req → α → α × Reply} {q : Req}
    (h : ok q.payload = true) (x : α) : lengthFirst ok act q x = act q x := if_pos h

/-- The same for a request whose rule lists no length check. -/
theorem State.answer_lengthFirst {s : State} {f : Frame} {kind : Nat} (h : s.handles f kind)
    {ok : List Byte → Bool} (hl : ok f.payload = true) {act : Req → State → State × Reply} {l : ControlLink} {r : Reply}
    (ha : act (s.req f) s = ({ s with link := l }, r)) :
    s.answer kind wholeKind (lengthFirst ok act) = s.replied f l r :=
  State.answer_replied h rfl ((lengthFirst_of_ok hl s).trans ha)

/-- A request without its right meets the test that refuses it. -/
theorem State.refuses {s : State} {f : Frame} {r : Right} (h : ¬ s.allows f r) : (!(s.req f).rights.has r) = true := by
  simpa [State.allows] using h

theorem State.grants {s : State} {f : Frame} {r : Right} (h : s.allows f r) : ¬ (!(s.req f).rights.has r) = true := by
  simpa [State.allows] using h

@[simp] theorem State.req_payload (s : State) (f : Frame) : (s.req f).payload = f.payload := rfl
@[simp] theorem State.req_origin (s : State) (f : Frame) : (s.req f).origin = f.origin := rfl

/-- What a request leaves whose block brings the event to `r.1` and answers `r.2` (R200, R201). -/
def State.taken (s : State) (f : Frame) (r : Ev × Reply) : State :=
  { s with plant := r.1.settle.p, link := (r.1.settle.out.foldl ControlLink.queue s.link).finish f r.2 }

theorem State.answerEv_taken {s : State} {f : Frame} {kind : Nat} (h : s.handles f kind) {row : List Byte → Bool}
    (hr : row f.payload = true) (act : Req → Ev → Ev × Reply) :
    s.answerEv kind row act = s.taken f (act (s.req f) s.ev) := by
  rw [State.answerEv, State.answer_eq h hr]
  rfl

section Taken
variable (s : State) (f : Frame) (r : Ev × Reply)

@[simp] theorem State.taken_plant : (s.taken f r).plant = r.1.settle.p := rfl
@[simp] theorem State.taken_partTime : (s.taken f r).link.partTime = s.link.partTime := by simp [State.taken]
@[simp] theorem State.taken_mask : (s.taken f r).link.mask = s.link.mask := by simp [State.taken]
@[simp] theorem State.taken_rights : (s.taken f r).link.rights = s.link.rights := by simp [State.taken]

end Taken

/-! ## Rights, mask and wall offset (R204, R210, R212, R217) -/

theorem rightsOf_eq (b : Byte) :
    rightsOf b = if b.toNat < 32 then some ⟨b.getLsbD 0, b.getLsbD 1, b.getLsbD 2, b.getLsbD 3, b.getLsbD 4⟩
      else none := rfl

theorem State.rightsSet_of_no_right {q : Req} (h : ¬ q.rights.has .supervise = true) (s : State) :
    s.rightsSet q = (s, ⟨.noRight, []⟩) := by
  have h : q.rights.supervise = false := by simpa [Rights.has] using h
  simp [State.rightsSet, h]

/-- RIGHTS_SET with the right, by the range of its fields and of what it would leave. -/
theorem State.rightsSet_of_right {q : Req} (h : q.rights.has .supervise = true) {b : Byte} (hb : q.payload[1]? = some b)
    (s : State) :
    s.rightsSet q =
      let new := s.link.rights.set (field q.payload 0 1) ⟨b.getLsbD 0, b.getLsbD 1, b.getLsbD 2, b.getLsbD 3, b.getLsbD 4⟩
      if b.toNat < 32 then
        if 7 < field q.payload 0 1 || !new.any (·.supervise) then (s, ⟨.badValue, []⟩)
        else ({ s with link.rights := new }, ⟨.ok, be 1 ((s.link.rights[field q.payload 0 1]?).getD noRights).code⟩)
      else (s, ⟨.badValue, []⟩) := by
  have h : q.rights.supervise = true := h
  by_cases hlow : b.toNat < 32 <;> simp [State.rightsSet, h, hb, rightsOf_eq, hlow]

/-- Each notice kind but RESYNC takes its flag from the mask sent, and RESYNC stays enabled. -/
theorem maskOf_getLsbD (p : List Byte) {k : NoticeKind} (h : k ≠ .resync) :
    (maskOf p).getLsbD k.code = (field p 0 4).testBit k.code := by
  have sent : (0x0007FFFE#32).getLsbD k.code = true := by
    cases k
    case resync => exact absurd rfl h
    all_goals rfl
  have free : (0x00080000#32).getLsbD k.code = false := by
    cases k
    case resync => exact absurd rfl h
    all_goals rfl
  have bound : k.code < 32 := by cases k <;> decide
  simp only [maskOf, BitVec.getLsbD_or, BitVec.getLsbD_and, BitVec.getLsbD_ofNat, sent, free, decide_eq_true bound,
    Bool.true_and, Bool.and_true, Bool.or_false]

/-- The values a settings group answers with, and BAD_VALUE for an unknown group (R213). -/
theorem State.settingsRead_eq (q : Req) (s : State) :
    s.settingsRead q = (s,
      match field q.payload 0 1 with
      | 0 => ⟨.ok, groupBytes s.plant 0⟩
      | 1 => ⟨.ok, groupBytes s.plant 1⟩
      | 2 => ⟨.ok, groupBytes s.plant 2⟩
      | 3 => ⟨.ok, groupBytes s.plant 3⟩
      | _ => ⟨.badValue, []⟩) := by
  unfold State.settingsRead
  rcases field q.payload 0 1 with _ | _ | _ | _ | n <;> rfl

/-- Settles O10, request by request, each by its right and then its ranges. -/
theorem linkSettingRequests : Obligations.LinkSettingRequests := by
  unfold Obligations.LinkSettingRequests
  refine ⟨⟨fun s f b h hl hb => ⟨fun hr => ?noRights, fun hr bad => ?badRights, fun old hr hwho hlow hany hold => ?rights⟩,
    fun s f h hl => ⟨fun hr => ?noMask, fun hr => ?mask⟩⟩, fun s f h hl => ⟨fun hr => ?noTime, fun hr => ?time⟩,
    fun s f h hl => ?read⟩
  case noRights =>
    exact congrArg _ (State.answer_lengthFirst h (decide_eq_true hl) (State.rightsSet_of_no_right hr s))
  case badRights =>
    refine congrArg _ (State.answer_lengthFirst h (decide_eq_true hl) ((State.rightsSet_of_right hr hb s).trans ?_))
    dsimp only
    split
    · next hlow =>
      rw [if_pos]
      obtain high | wide | left := bad
      · simp [high]
      · omega
      · rw [State.req_payload, left]
        exact Bool.or_true _
    · rfl
  case rights =>
    refine congrArg _ (State.answer_lengthFirst h (decide_eq_true hl) ((State.rightsSet_of_right hr hb s).trans ?_))
    dsimp only
    rw [if_pos hlow, State.req_payload, hany, hold]
    simp [Nat.not_lt.2 hwho, be_one]
  case noMask => exact congrArg _ (State.answer_lengthFirst h (decide_eq_true hl) (if_pos (State.refuses hr)))
  case mask =>
    exact ⟨maskOf f.payload,
      congrArg _ (State.answer_lengthFirst h (decide_eq_true hl) (if_neg (State.grants hr))),
      fun k hk => maskOf_getLsbD f.payload hk, maskOf_resync f.payload⟩
  case noTime => exact congrArg _ (State.answer_lengthFirst h (decide_eq_true hl) (if_pos (State.refuses hr)))
  case time => exact congrArg _ (State.answer_lengthFirst h (decide_eq_true hl) (if_neg (State.grants hr)))
  case read => exact congrArg _ (State.answer_lengthFirst h (decide_eq_true hl) (State.settingsRead_eq (s.req f) s))

end Sys2Proof.Machine
end

section
/-! LIST, STATUS and RESET LINK (R206, R208, R214), the settings groups (R213) and the tier-low test (R74): O11, O12,
O13. -/

namespace Sys2Proof.Machine

-- One theorem after another: theorems checked side by side each hold a thread and its stack.
set_option Elab.async false

/-! ## Entries that fit -/

/-- The entries that fit are the first `k`: they take no more than the room, and all of them fit or one more does not. -/
theorem fitting_eq_take (xs : List (List Byte)) (room : Nat) :
    ∃ k, k ≤ xs.length ∧ fitting room xs = xs.take k ∧ ((xs.take k).map List.length).sum ≤ room
      ∧ (k = xs.length ∨ (k < xs.length ∧ room < ((xs.take (k + 1)).map List.length).sum)) := by
  induction xs generalizing room with
  | nil => exact ⟨0, Nat.le_refl _, rfl, Nat.zero_le _, .inl rfl⟩
  | cons x xs ih =>
    by_cases hx : x.length ≤ room
    · obtain ⟨k, hk, eq, sum, last⟩ := ih (room - x.length)
      refine ⟨k + 1, Nat.succ_le_succ hk, by simp [fitting, hx, eq], ?_, ?_⟩
      · simp only [List.take_succ_cons, List.map_cons, List.sum_cons]
        omega
      · rw [List.take_succ_cons, List.map_cons, List.sum_cons, List.length_cons]
        omega
    · exact ⟨0, Nat.zero_le _, by simp [fitting, hx], Nat.zero_le _,
        .inr ⟨Nat.succ_pos _, by simpa using hx⟩⟩

theorem listed_length (x : Nat × List Byte) : (listed x).length = x.2.length + 2 := by
  simp [listed, be_length]
  omega

theorem map_listed_length (rs : List (Nat × List Byte)) :
    (rs.map listed).map List.length = rs.map fun x => x.2.length + 2 := by
  simp [listed_length]

/-- Settles O12: the records of a reply are those of the first `n` that fit. -/
theorem listReturnsRecordsInOrder : Obligations.ListReturnsRecordsInOrder := by
  unfold Obligations.ListReturnsRecordsInOrder
  intro coll n rs short
  by_cases hn : n = 0
  · subst hn
    exact ⟨0, Nat.zero_le _, Nat.zero_le _, by simp [listFrom, listReply, List.head?_eq_getElem?],
      Nat.zero_le _, .inl rfl, nofun⟩
  · obtain ⟨k, hk, eq, sum, last⟩ := fitting_eq_take ((rs.take n).map listed) listRoom
    simp only [List.length_map, List.length_take] at hk last
    have first : ((rs.take n).map listed).take k = (rs.take k).map listed := by
      rw [← List.map_take, List.take_take, Nat.min_eq_left (by omega)]
    have count : (fitting listRoom ((rs.take n).map listed)).length = k := by
      rw [eq, first, List.length_map, List.length_take]
      omega
    rw [first, map_listed_length] at sum
    have more : k = n ∨ k = rs.length ∨ 1007 < ((rs.take (k + 1)).map fun x => x.2.length + 2).sum := by
      obtain all | ⟨less, exceeds⟩ := last
      · omega
      · rw [← List.map_take, List.take_take, Nat.min_eq_left (by omega), map_listed_length] at exceeds
        exact .inr (.inr exceeds)
    refine ⟨k, by omega, by omega, ?_, sum, more, fun _ some => ?_⟩
    · rw [listFrom, if_neg hn]
      dsimp only
      rw [count, eq, first, listReply, List.head?_drop, Option.isSome_map, List.flatMap_def]
      rfl
    · obtain ⟨x, rest, rfl⟩ := List.exists_cons_of_ne_nil some
      by_contra none
      obtain rfl : k = 0 := by omega
      have fits := short x List.mem_cons_self
      obtain zero | zero | exceeds := more
      · exact hn zero.symm
      · simp at zero
      · simp at exceeds
        omega

/-! ## LIST, STATUS and RESET LINK -/

/-- A start key that no record has is not found (R206). -/
theorem listAt_of_absent {start : Nat} (h0 : start ≠ 0) {rs : List (Nat × List Byte)} (h : ∀ x ∈ rs, x.1 ≠ start)
    (coll n : Nat) : listAt coll start n rs = ⟨.notFound, []⟩ := by
  rw [listAt, if_neg h0]
  split
  · rfl
  · next x xs hd =>
    have mem : x ∈ rs := (List.dropWhile_sublist _).subset (hd ▸ List.mem_cons_self)
    rw [if_neg (h x mem)]

/-- The records from the start key on, where the keys before it are lower (R206). -/
theorem listAt_of_found {start : Nat} (h0 : start ≠ 0) {lower upper : List (Nat × List Byte)} {x : Nat × List Byte}
    (hx : x.1 = start) (hl : ∀ y ∈ lower, y.1 < start) (coll n : Nat) :
    listAt coll start n (lower ++ x :: upper) = listFrom coll n (x :: upper) := by
  have skipped : (lower ++ x :: upper).dropWhile (fun y => decide (y.1 < start)) = x :: upper := by
    rw [List.dropWhile_append_of_pos (by simpa using hl)]
    simp [hx]
  rw [listAt, if_neg h0, skipped]
  simp [hx]

/-- RESET LINK while its own request is the one handled: of the inbound queue only that stays (R214). -/
theorem ControlLink.resetLink_of_handling {l : ControlLink} {f : Frame} (hh : l.handling = true)
    (hf : l.inbound.head? = some f) (hk : isRequestKind f.kind = true) :
    l.resetLink = { l with receiver := .hunting, inbound := [f], notices := [], resync := none } := by
  have passed : l.passed = true := by simp [ControlLink.passed, hh, hf, hk]
  obtain ⟨rest, hi⟩ : ∃ rest, l.inbound = f :: rest := List.head?_eq_some_iff.mp hf
  simp [ControlLink.resetLink, passed, hi, hh]

/-- Settles O13, request by request. -/
theorem listStatusAndResetLink : Obligations.ListStatusAndResetLink := by
  unfold Obligations.ListStatusAndResetLink
  refine ⟨⟨fun s f h hl => ⟨fun unknown => ?unknown, fun rs known => ⟨fun h0 => ?whole, fun h0 none => ?absent,
    fun lower x upper h0 hrs hx hlow => ?found⟩⟩, fun s f h hp => ?status⟩,
    fun s f h hp => ⟨fun hr => ?reset, fun hr => ?noRight⟩⟩
  case unknown =>
    exact congrArg _ (State.answer_lengthFirst h (decide_eq_true hl) (by simp [Plant.list, unknown]))
  case whole =>
    exact congrArg _ (State.answer_lengthFirst h (decide_eq_true hl) (by simp [Plant.list, known, listAt, h0]))
  case absent =>
    exact congrArg _ (State.answer_lengthFirst h (decide_eq_true hl)
      (by simp [Plant.list, known, listAt_of_absent h0 none]))
  case found =>
    exact congrArg _ (State.answer_lengthFirst h (decide_eq_true hl)
      (by simp [Plant.list, known, hrs, listAt_of_found h0 hx hlow]))
  case status => exact congrArg _ (State.answer_lengthFirst h (by rw [hp]; rfl) rfl)
  case reset =>
    have known : resetKindKnown f.payload = true := by rw [hp]; rfl
    obtain ⟨handling, head, kind⟩ := h
    refine congrArg _ (State.answer_replied ⟨handling, head, kind⟩ (by rw [hp]; rfl)
      ((lengthFirst_of_ok (by rw [State.req_payload, hp]; rfl) s).trans ((if_neg (State.grants hr)).trans ?_)))
    rw [State.req_payload, known, ← ControlLink.resetLink_of_handling handling head (by rw [kind]; rfl)]
    rfl
  case noRight =>
    exact congrArg _ (State.answer_replied h (by rw [hp]; rfl)
      ((lengthFirst_of_ok (by rw [State.req_payload, hp]; rfl) s).trans (if_pos (State.refuses hr))))

/-! ## The tier-low test (R74) -/

@[simp] theorem PerTier.at_put {α : Type} (v : PerTier α) (t u : Tier) (a : α) :
    (v.put t a).at u = if u = t then a else v.at u := by
  cases t <;> cases u <;> rfl

theorem PerTier.put_at {α : Type} (v : PerTier α) (t : Tier) : v.put t (v.at t) = v := by
  cases t <;> rfl

/-- A tier's test writes that tier's condition, and nothing else of the monitor. -/
theorem Ev.tierCheck_mon (e : Ev) (t : Tier) :
    (e.tierCheck t).p.mon = { e.p.mon with
      tierLow := e.p.mon.tierLow.put t (tierLowOf (e.p.mon.tierLow.at t) (e.p.mon.lowCount t) e.p.mon.threshold) } := by
  unfold Ev.tierCheck
  dsimp only
  split
  · next same => rw [same, PerTier.put_at]
  · split
    · exact (Ev.askIncident_within _ _ _ _).mon (by decide)
    · rfl

/-- The three tests: each tier's condition from its count, and nothing else of the monitor. -/
theorem Ev.tierChecks_mon (e : Ev) :
    e.tierChecks.p.mon = { e.p.mon with
      tierLow := ⟨tierLowOf e.p.mon.tierLow.lp (e.p.mon.lowCount .lp) e.p.mon.threshold,
        tierLowOf e.p.mon.tierLow.mp (e.p.mon.lowCount .mp) e.p.mon.threshold,
        tierLowOf e.p.mon.tierLow.ip (e.p.mon.lowCount .ip) e.p.mon.threshold⟩ } := by
  unfold Ev.tierChecks
  rw [Ev.tierCheck_mon, Ev.tierCheck_mon, Ev.tierCheck_mon]
  rfl

/-! ## Settings groups (R213) -/

theorem field_drop (p : List Byte) (k off n : Nat) : field (p.drop k) off n = field p (k + off) n := by
  simp [field, bytesAt, List.drop_drop]

theorem puField_drop (p : List Byte) (k off : Nat) : puField (p.drop k) off = puField p (k + off) := by
  simp [puField, bytesAt, List.drop_drop]

/-- SETTINGS_SET with the right, of a payload that names a group. -/
theorem Ev.settingsSet_of_right {q : Req} (hr : ¬ (!q.rights.has .supervise) = true) (hp : 1 ≤ q.payload.length) (e : Ev) :
    e.settingsSet q = e.setGroup q.payload (field q.payload 0 1) := by
  have some : ¬ q.payload.isEmpty = true := by
    cases hq : q.payload with
    | nil => simp [hq] at hp
    | cons b bs => simp
  exact (if_neg hr).trans (if_neg some)

section Group
variable {p : List Byte} {g n : Nat} (hg : groupLength g = some n)
include hg

theorem Ev.setGroup_of_length (hl : p.length ≠ 1 + n) (e : Ev) : e.setGroup p g = (e, ⟨.badLength, []⟩) := by
  simp [Ev.setGroup, hg, hl]

theorem Ev.setGroup_of_range (hl : p.length = 1 + n) (hr : groupInRange (p.drop 1) g = false) (e : Ev) :
    e.setGroup p g = (e, ⟨.badValue, []⟩) := by
  simp only [Ev.setGroup, hg, hl, hr, ne_eq, not_true_eq_false, if_false, Bool.not_false, if_true]

theorem Ev.setGroup_taken (hl : p.length = 1 + n) (hr : groupInRange (p.drop 1) g = true) (e : Ev) :
    e.setGroup p g = (Ev.applyGroup { e with p := writeGroup e.p (p.drop 1) g } g, ⟨.ok, groupBytes e.p g⟩) := by
  simp only [Ev.setGroup, hg, hl, hr, ne_eq, not_true_eq_false, if_false, Bool.not_true, Bool.false_eq_true]

end Group

theorem Ev.setGroup_of_unknown {g : Nat} (hg : 4 ≤ g) (p : List Byte) (e : Ev) :
    e.setGroup p g = (e, ⟨.badValue, []⟩) := by
  obtain ⟨k, rfl⟩ := Nat.exists_eq_add_of_le' hg
  rfl

section SettingsSet
variable {s : State} {f : Frame} (h : s.handles f 0x23) (hr : s.allows f .supervise) (hp : 1 ≤ f.payload.length)
include h hr hp

/-- SETTINGS_SET answered by what its group's step gives. -/
theorem exec_settingsSet {g : Nat} (hg : field f.payload 0 1 = g) {p : Plant} {r : Reply}
    (ha : s.ev.setGroup f.payload g = (Ev.start p s.link.partTime [], r)) :
    exec .settingsSet s = .next (s.answered f p [] r) := by
  subst hg
  exact congrArg _ (State.answerEv_eq h rfl ((Ev.settingsSet_of_right (State.grants hr) hp _).trans ha))

theorem exec_settingsSet_taken {g : Nat} (hg : field f.payload 0 1 = g) :
    exec .settingsSet s = .next (s.taken f (s.ev.setGroup f.payload g)) := by
  subst hg
  refine congrArg _ ((State.answerEv_taken h rfl _).trans ?_)
  rw [Ev.settingsSet_of_right (State.grants hr) hp, State.req_payload]

end SettingsSet

theorem exec_settingsSet_of_empty {s : State} {f : Frame} (h : s.handles f 0x23) (hr : s.allows f .supervise)
    (hp : f.payload = []) : exec .settingsSet s = .next (s.answered f s.plant [] ⟨.badLength, []⟩) :=
  congrArg _ (State.answerEv_eq h rfl ((if_neg (State.grants hr)).trans (if_pos (by simp [hp]))))

theorem puInRange_iff (v : Int) : puInRange v = true ↔ -1000 ≤ v ∧ v ≤ 100000 := by simp [puInRange]

/-! The ranges of a group, at the offsets of the payload that carries it (R52, R81, R108, R136). -/

theorem groupInRange_trace (p : List Byte) :
    groupInRange (p.drop 1) 0 = true ↔ 1 ≤ field p 1 2 ∧ field p 1 2 ≤ 1024 := by
  simp only [groupInRange, field_drop, Bool.and_eq_true, decide_eq_true_eq]

theorem groupInRange_mon (p : List Byte) :
    groupInRange (p.drop 1) 1 = true ↔ (1 ≤ field p 1 2 ∧ field p 1 2 ≤ 512)
      ∧ ∀ n ∈ [3, 6, 9], -1000 ≤ puField p n ∧ puField p n ≤ 100000 := by
  simp only [groupInRange, field_drop, puField_drop, Bool.and_eq_true, decide_eq_true_eq, puInRange_iff, and_assoc,
    List.forall_mem_cons, List.not_mem_nil, false_imp_iff, implies_true, and_true, Nat.reduceAdd]

theorem groupInRange_reg (p : List Byte) :
    groupInRange (p.drop 1) 2 = true ↔ (60 ≤ field p 1 2 ∧ field p 1 2 ≤ 7200) ∧ 60 ≤ field p 3 4
      ∧ field p 3 4 ≤ field p 7 4 ∧ field p 7 4 ≤ field p 11 4 ∧ field p 11 4 ≤ 604800 := by
  simp only [groupInRange, field_drop, Bool.and_eq_true, decide_eq_true_eq, Nat.reduceAdd]
  omega

theorem groupInRange_ctl (p : List Byte) :
    groupInRange (p.drop 1) 3 = true ↔ (60 ≤ field p 1 2 ∧ field p 1 2 ≤ 14400) ∧ (60 ≤ field p 3 2 ∧ field p 3 2 ≤ 14400)
      ∧ ∀ n ∈ [5, 8, 11], -1000 ≤ puField p n ∧ puField p n ≤ 100000 := by
  simp only [groupInRange, field_drop, puField_drop, Bool.and_eq_true, decide_eq_true_eq, puInRange_iff, and_assoc,
    List.forall_mem_cons, List.not_mem_nil, false_imp_iff, implies_true, and_true, Nat.reduceAdd]

/-- Settles O11: the group's step by its length, its range and its values. -/
theorem settingsSetReplacesGroup : Obligations.SettingsSetReplacesGroup := by
  unfold Obligations.SettingsSetReplacesGroup
  refine ⟨fun s f h hr => ?noRight, fun s f h hr => ?_⟩
  case noRight => exact congrArg _ (State.answerEv_eq h rfl (if_pos (State.refuses hr)))
  dsimp only
  refine ⟨fun hl hg lo hi => ?trace, fun hl hg a b c d e k => ?reg, fun hl hg a b c d pus => ?ctl,
    fun hl hg lo hi pus => ?mon, fun hg hl => ?unknown, fun x hx hg hl => ?length, fun bad => ?range⟩
  case trace =>
    refine exec_settingsSet h hr (by omega) hg ((Ev.setGroup_taken rfl hl ?_ _).trans ?_)
    · exact (groupInRange_trace _).2 ⟨lo, hi⟩
    · simp only [Ev.applyGroup, writeGroup, field_drop]
      rfl
  case reg =>
    refine exec_settingsSet h hr (by omega) hg ((Ev.setGroup_taken rfl hl ?_ _).trans ?_)
    · exact (groupInRange_reg _).2 ⟨⟨a, b⟩, c, d, e, k⟩
    · simp only [Ev.applyGroup, writeGroup, field_drop]
      rfl
  case ctl =>
    refine exec_settingsSet h hr (by omega) hg ((Ev.setGroup_taken rfl hl ?_ _).trans ?_)
    · exact (groupInRange_ctl _).2 ⟨⟨a, b⟩, ⟨c, d⟩, pus⟩
    · simp only [Ev.applyGroup, writeGroup, field_drop, puField_drop]
      rfl
  case mon =>
    refine ⟨_, exec_settingsSet_taken h hr (by omega) hg, ?_⟩
    rw [Ev.setGroup_taken rfl hl ((groupInRange_mon _).2 ⟨⟨lo, hi⟩, pus⟩)]
    have frame := Ev.tierChecks_within { s.ev with p := writeGroup s.ev.p (f.payload.drop 1) 1 }
    have monitor := Ev.tierChecks_mon { s.ev with p := writeGroup s.ev.p (f.payload.drop 1) 1 }
    simp only [State.taken_plant, Ev.applyGroup, if_true, Ev.settle_mon, Ev.settle_net_nodes, Ev.settle_net_pipes]
    rw [monitor, frame.nodes (by decide), frame.pipes (by decide)]
    simp only [writeGroup, field_drop, puField_drop, true_and, and_true]
    intro x
    cases x <;> rfl
  case unknown => exact exec_settingsSet h hr hl rfl (Ev.setGroup_of_unknown hg _ _)
  case length =>
    by_cases hp : 1 ≤ f.payload.length
    · simp only [List.mem_cons, List.not_mem_nil, or_false] at hx
      obtain rfl | rfl | rfl | rfl := hx <;>
        exact exec_settingsSet h hr hp hg (Ev.setGroup_of_length rfl hl _)
    · exact exec_settingsSet_of_empty h hr (List.length_eq_zero_iff.mp (by omega))
  case range =>
    have out {g : Nat} {P : Prop} (range : groupInRange (f.payload.drop 1) g = true ↔ P) (hn : ¬ P) :
        groupInRange (f.payload.drop 1) g = false := by rwa [← Bool.not_eq_true, range]
    obtain ⟨hl, hg, bad⟩ | ⟨hl, hg, bad⟩ | ⟨hl, hg, bad⟩ | ⟨hl, hg, bad⟩ := bad
    · exact exec_settingsSet h hr (by omega) hg
        (Ev.setGroup_of_range rfl hl (out (groupInRange_trace _) (by omega)) _)
    · refine exec_settingsSet h hr (by omega) hg (Ev.setGroup_of_range rfl hl (out (groupInRange_mon _) ?_) _)
      rintro ⟨_, pus⟩
      obtain low | high | ⟨n, hn, wide⟩ := bad
      · omega
      · omega
      · have := pus n hn
        omega
    · exact exec_settingsSet h hr (by omega) hg
        (Ev.setGroup_of_range rfl hl (out (groupInRange_reg _) (by omega)) _)
    · refine exec_settingsSet h hr (by omega) hg (Ev.setGroup_of_range rfl hl (out (groupInRange_ctl _) ?_) _)
      rintro ⟨_, _, pus⟩
      obtain low | high | low | high | ⟨n, hn, wide⟩ := bad
      · omega
      · omega
      · omega
      · omega
      · have := pus n hn
        omega

end Sys2Proof.Machine
end

section
/-! The Network Store's load and check (R13 to R17): O16, O17, O18, O19. -/

namespace Sys2Proof.Machine

-- One theorem after another: theorems checked side by side each hold a thread and its stack.
set_option Elab.async false

theorem State.answerEv_taken_lengthFirst {s : State} {f : Frame} {kind : Nat} (h : s.handles f kind)
    {row : List Byte → Bool} (hr : row f.payload = true) {ok : List Byte → Bool} (hl : ok f.payload = true)
    (act : Req → Ev → Ev × Reply) :
    s.answerEv kind row (lengthFirst ok act) = s.taken f (act (s.req f) s.ev) := by
  rw [State.answerEv_taken h hr, lengthFirst_of_ok hl]

/-! ## The records of a block (R14) -/

theorem thas_eq_false_iff {α : Type} {t : Table α} {n : Nat} : thas t n = false ↔ tget t n = none := by
  simp [thas]

/-- What a stored block leaves: the statement of O17, which each record stored keeps. -/
structure NetworkStore.Stored (n n' : NetworkStore) (rs : List BlockRecord) : Prop where
  node : ∀ id x, .node id x ∈ rs → tget n.nodes id = none ∧ tget n'.nodes id = some x
  link : ∀ id l, .link id l ∈ rs → tget n.links id = none ∧ tget n'.links id = some l
  otherNodes : ∀ id, (∀ x, .node id x ∉ rs) → tget n'.nodes id = tget n.nodes id
  otherLinks : ∀ id, (∀ l, .link id l ∉ rs) → tget n'.links id = tget n.links id
  nodup : rs.Nodup
  frame : n' = { n with nodes := n'.nodes, links := n'.links }

/-- A node stored before the rest of a block. -/
theorem NetworkStore.Stored.consNode {n n' : NetworkStore} {rs : List BlockRecord} {id : Nat} {x : Node}
    (absent : tget n.nodes id = none) (rest : NetworkStore.Stored { n with nodes := tset n.nodes id x } n' rs) :
    n.Stored n' (.node id x :: rs) := by
  have fresh : ∀ y, .node id y ∉ rs := fun y hy => by simpa using (rest.node id y hy).1
  refine ⟨fun k y hy => ?_, fun k l hl => ?_, fun k hk => ?_, fun k hk => ?_,
    List.nodup_cons.mpr ⟨fresh x, rest.nodup⟩, rest.frame⟩
  · obtain same | mem := List.mem_cons.mp hy
    · cases same
      exact ⟨absent, by simpa using rest.otherNodes id fresh⟩
    · have kept := rest.node k y mem
      have other : k ≠ id := fun eq => fresh y (eq ▸ mem)
      exact ⟨by simpa [other] using kept.1, kept.2⟩
  · exact rest.link k l (List.mem_of_ne_of_mem (by simp) hl)
  · have other : k ≠ id := fun eq => hk x (eq ▸ List.mem_cons_self)
    simpa [other] using rest.otherNodes k fun y hy => hk y (List.mem_cons_of_mem _ hy)
  · exact rest.otherLinks k fun l hl => hk l (List.mem_cons_of_mem _ hl)

/-- A link stored before the rest of a block. -/
theorem NetworkStore.Stored.consLink {n n' : NetworkStore} {rs : List BlockRecord} {id : Nat} {x : Link}
    (absent : tget n.links id = none) (rest : NetworkStore.Stored { n with links := tset n.links id x } n' rs) :
    n.Stored n' (.link id x :: rs) := by
  have fresh : ∀ y, .link id y ∉ rs := fun y hy => by simpa using (rest.link id y hy).1
  refine ⟨fun k y hy => ?_, fun k y hy => ?_, fun k hk => ?_, fun k hk => ?_,
    List.nodup_cons.mpr ⟨fresh x, rest.nodup⟩, rest.frame⟩
  · exact rest.node k y (List.mem_of_ne_of_mem (by simp) hy)
  · obtain same | mem := List.mem_cons.mp hy
    · cases same
      exact ⟨absent, by simpa using rest.otherLinks id fresh⟩
    · have kept := rest.link k y mem
      have other : k ≠ id := fun eq => fresh y (eq ▸ mem)
      exact ⟨by simpa [other] using kept.1, kept.2⟩
  · exact rest.otherNodes k fun y hy => hk y (List.mem_cons_of_mem _ hy)
  · have other : k ≠ id := fun eq => hk x (eq ▸ List.mem_cons_self)
    simpa [other] using rest.otherLinks k fun y hy => hk y (List.mem_cons_of_mem _ hy)

theorem NetworkStore.store_stored {rs : List BlockRecord} {n n' : NetworkStore} (h : n.store rs = some n') :
    n.Stored n' rs := by
  induction rs generalizing n with
  | nil =>
    obtain rfl : n = n' := by simpa [NetworkStore.store] using h
    exact ⟨by simp, by simp, fun _ _ => rfl, fun _ _ => rfl, List.nodup_nil, rfl⟩
  | cons r rs ih =>
    cases r with
    | node id x =>
      cases absent : thas n.nodes id with
      | true => simp [NetworkStore.store, absent] at h
      | false => exact .consNode (thas_eq_false_iff.mp absent) (ih (by simpa [NetworkStore.store, absent] using h))
    | link id x =>
      cases absent : thas n.links id with
      | true => simp [NetworkStore.store, absent] at h
      | false => exact .consLink (thas_eq_false_iff.mp absent) (ih (by simpa [NetworkStore.store, absent] using h))

/-- Settles O17, record by record. -/
theorem blockStoresEveryRecord : Obligations.BlockStoresEveryRecord := by
  unfold Obligations.BlockStoresEveryRecord
  intro n n' rs h
  obtain ⟨node, link, otherNodes, otherLinks, nodup, frame⟩ := NetworkStore.store_stored h
  exact ⟨node, link, otherNodes, otherLinks, nodup, frame⟩

/-! ## TABLE_BEGIN and TABLE_BLOCK (R13, R14) -/

theorem Ev.holds_eq {e : Ev} {g : Grant} (hg : e.p.net.grant = some g) (origin : Nat) :
    e.holds origin = decide (g.holder = origin) := by
  simp [Ev.holds, hg]

section Load
variable {e : Ev} {q : Req} {g : Grant} (hr : ¬ (!q.rights.has .edit) = true) (hs : e.p.net.state = .loading)
  (hg : e.p.net.grant = some g)
include hr hs hg

theorem Ev.tableBegin_of_holder (ho : g.holder = q.origin) :
    e.tableBegin q = (e.beginLoad (field q.payload 0 2) (field q.payload 2 2), okReply) := by
  refine (if_neg hr).trans ?_
  simp [hs, Ev.holds_eq hg, ho]

theorem Ev.tableBegin_of_other (ho : g.holder ≠ q.origin) : e.tableBegin q = (e, ⟨.editHeld, []⟩) := by
  refine (if_neg hr).trans ?_
  simp [hs, Ev.holds_eq hg, ho]

theorem Ev.tableBlock_of_holder (ho : g.holder = q.origin) {l : Load} (hl : e.p.net.load = some l)
    (hp : 4 ≤ q.payload.length) :
    e.tableBlock q
      = if field q.payload 0 2 ≠ l.expected then (e, ⟨.badSequence, []⟩) else e.takeBlock q.payload l := by
  refine (if_neg hr).trans ?_
  simp [hs, Ev.holds_eq hg, ho, hl, Nat.not_lt.2 hp]

end Load

/-- A load that expects no record goes to the check at once (R13). -/
theorem Ev.beginLoad_eq (e : Ev) (n l : Nat) :
    e.beginLoad n l =
      let begun : Ev := { e with p.net := { e.p.net with nodes := [], links := [], load := some ⟨n, l, 0⟩ } }
      if n + l = 0 ∨ 4096 < n ∨ 6144 < l then begun.startCheck else begun := by
  by_cases none : n + l = 0 ∨ 4096 < n ∨ 6144 < l
  · have test : (decide (n + l = 0) || !withinCapacity n l) = true := by
      simp only [withinCapacity, Bool.or_eq_true, decide_eq_true_eq, Bool.not_eq_true', Bool.and_eq_false_iff,
        decide_eq_false_iff_not, Config.maxNode, Config.maxLink]
      omega
    simp only [Ev.beginLoad, test, if_true, if_pos none]
  · have test : (decide (n + l = 0) || !withinCapacity n l) = false := by
      simp only [withinCapacity, Bool.or_eq_false_iff, decide_eq_false_iff_not, Bool.not_eq_false', Bool.and_eq_true,
        decide_eq_true_eq, Config.maxNode, Config.maxLink]
      omega
    simp only [Ev.beginLoad, test, Bool.false_eq_true, if_false, if_neg none]

section Block
variable {e : Ev} {p : List Byte} {l : Load}
  (hl : p.length = blockLength l.nodes (field p 0 2) (field p 2 2)) (hk : 0 < field p 2 2)
  (ht : field p 0 2 + field p 2 2 ≤ l.nodes + l.links)
include hl hk ht

/-- A block of the right length that does not run past the load meets neither refusal before its records are read. -/
theorem Ev.takeBlock_tests :
    ¬ p.length ≠ blockLength l.nodes (field p 0 2) (field p 2 2)
      ∧ ¬ (decide (l.nodes + l.links < field p 0 2 + field p 2 2) || decide (field p 2 2 = 0)) = true := by
  refine ⟨not_not.mpr hl, ?_⟩
  simp only [Bool.or_eq_true, decide_eq_true_eq]
  omega

theorem Ev.takeBlock_stored {n : NetworkStore}
    (hn : (blockRecords l.nodes (field p 2 2) (field p 0 2) (p.drop 4)).bind e.p.net.store = some n) :
    e.takeBlock p l =
      let e : Ev := { e with p.net := { n with load := some { l with expected := field p 0 2 + field p 2 2 } } }
      (if field p 0 2 + field p 2 2 = l.nodes + l.links then e.startCheck else e, okReply) := by
  obtain ⟨length, fits⟩ := Ev.takeBlock_tests hl hk ht
  unfold Ev.takeBlock
  dsimp only
  rw [if_neg length, if_neg fits, hn]

theorem Ev.takeBlock_refused
    (hn : (blockRecords l.nodes (field p 2 2) (field p 0 2) (p.drop 4)).bind e.p.net.store = none) :
    e.takeBlock p l = (e, ⟨.badValue, []⟩) := by
  obtain ⟨length, fits⟩ := Ev.takeBlock_tests hl hk ht
  unfold Ev.takeBlock
  dsimp only
  rw [if_neg length, if_neg fits, hn]

end Block

theorem exec_tableBegin {s : State} {f : Frame} (h : s.handles f 0x04) (hp : f.payload.length = 4) :
    exec .tableBegin s = .next (s.taken f (s.ev.tableBegin (s.req f))) :=
  congrArg Host.Outcome.next (State.answerEv_taken_lengthFirst h rfl (decide_eq_true hp) _)

theorem exec_tableBlock {s : State} {f : Frame} (h : s.handles f 0x05) :
    exec .tableBlock s = .next (s.taken f (s.ev.tableBlock (s.req f))) :=
  congrArg Host.Outcome.next (State.answerEv_taken h rfl _)

/-- Settles O16: the load by its counts, the block by its index, its length and its records. -/
theorem tableLoad : Obligations.TableLoad := by
  unfold Obligations.TableLoad
  refine ⟨fun s f g h hp hr hs hg => ?_, fun s f g l h hr hs hg ho hl hp => ?_⟩
  · rw [exec_tableBegin h hp]
    refine ⟨fun ho some n4096 l6144 => ?_, fun ho none => ?_, fun ho => ?_⟩
    · rw [Ev.tableBegin_of_holder (State.grants hr) hs hg ho, Ev.beginLoad_eq, State.req_payload]
      dsimp only
      rw [if_neg (by omega)]
      rfl
    · rw [Ev.tableBegin_of_holder (State.grants hr) hs hg ho, Ev.beginLoad_eq, State.req_payload]
      dsimp only
      rw [if_pos none]
      exact ⟨_, rfl, by simp [Ev.startCheck], by simp [Ev.startCheck], by simp [Ev.startCheck],
        by simp [Ev.startCheck], by simp [Ev.startCheck], by simp [Ev.startCheck]⟩
    · rw [Ev.tableBegin_of_other (State.grants hr) hs hg ho]
      rfl
  · rw [exec_tableBlock h, Ev.tableBlock_of_holder (State.grants hr) hs hg ho hl hp, State.req_payload]
    refine ⟨fun other => ?_, fun next len some total => ⟨fun n stored more => ?_, fun n stored last => ?_,
      fun refused => ?_⟩⟩
    · rw [if_pos other]
      rfl
    · rw [if_neg (not_not.mpr next), Ev.takeBlock_stored len some total stored]
      dsimp only
      rw [if_neg (by omega)]
      rfl
    · rw [if_neg (not_not.mpr next), Ev.takeBlock_stored len some total stored]
      dsimp only
      rw [if_pos last]
      exact ⟨_, rfl, by simp [Ev.startCheck], by simp [Ev.startCheck], by simp [Ev.startCheck],
        by simp [Ev.startCheck], by simp [Ev.startCheck]⟩
    · rw [if_neg (not_not.mpr next), Ev.takeBlock_refused len some total refused]
      rfl

/-! ## The table check (R15 to R17) -/

theorem orElse_eq_none_iff {α : Type} {a : Option α} {b : Unit → Option α} :
    a.orElse b = none ↔ a = none ∧ b () = none := by
  cases a <;> simp [Option.orElse]

theorem ite_none_eq_none_iff {α : Type} {c : Prop} [Decidable c] {a : α} : (if c then none else some a) = none ↔ c := by
  split <;> simp [*]

theorem ite_some_eq_none_iff {α : Type} {c : Prop} [Decidable c] {a : α} : (if c then some a else none) = none ↔ ¬ c := by
  split <;> simp [*]

theorem firstFail_eq_none_iff {α : Type} {item : Nat} {test : Nat → α → Option CheckReason} {t : Table α} :
    firstFail item test t = none ↔ ∀ x ∈ t, test x.1 x.2 = none := by
  induction t with
  | nil => simp [firstFail]
  | cons x t ih =>
    obtain ⟨k, v⟩ := x
    cases hv : test k v <;> simp [firstFail, hv, ih]

theorem countsFail_eq_none_iff (n l : Nat) : countsFail n l = none ↔ n ≤ 4096 ∧ l ≤ 6144 := by
  unfold countsFail
  simp only [Config.maxNode, Config.maxLink]
  split
  · simp only [reduceCtorEq, false_iff]; omega
  · split
    · simp only [reduceCtorEq, false_iff]; omega
    · simp only [true_iff]; omega

theorem isPipe_iff {links : Table Link} {k : Nat} : isPipe links k = true ↔ ∃ l, tget links k = some l ∧ l.kind = .pipe := by
  simp [isPipe, Option.any_eq_true]

/-- Items 2, 3 and 4 for one link (R15). -/
theorem linkItems_iff (nodes : Table Node) (l : Link) :
    (linkEnds nodes l = none ∧ linkTiers nodes l = none ∧ regulatorTiers nodes l = none)
      ↔ ∃ a c, tget nodes l.endA = some a ∧ tget nodes l.endB = some c ∧ l.endA ≠ l.endB
          ∧ (l.kind ≠ .regulator → a.tier = l.tier ∧ c.tier = l.tier)
          ∧ (l.kind = .regulator → c.tier.code < a.tier.code ∧ l.tier = c.tier) := by
  cases ha : tget nodes l.endA with
  | none => simp [linkEnds, thas, ha]
  | some a =>
    cases hc : tget nodes l.endB with
    | none => simp [linkEnds, thas, ha, hc]
    | some c =>
      by_cases he : l.endA = l.endB
      · simp [linkEnds, thas, hc, he]
      · by_cases hk : l.kind = .regulator
        · by_cases up : a.tier.code ≤ c.tier.code
          · simp [linkEnds, linkTiers, regulatorTiers, nodeTier, thas, ha, hc, he, hk, Tier.above, Nat.not_lt.2 up]
          · simp [linkEnds, linkTiers, regulatorTiers, nodeTier, thas, ha, hc, he, hk, Tier.above, Nat.not_le.1 up]
        · simp [linkEnds, linkTiers, regulatorTiers, nodeTier, thas, ha, hc, he, hk]

/-- Settles O19, item by item. -/
theorem tableCheckPassesExactlySoundTables : Obligations.TableCheckPassesExactlySoundTables := by
  unfold Obligations.TableCheckPassesExactlySoundTables
  intro n b loc l hl
  refine ⟨?_, fun full => ?_⟩
  · have links : (∀ x ∈ n.links, linkEnds n.nodes x.2 = none) ∧ (∀ x ∈ n.links, linkTiers n.nodes x.2 = none)
        ∧ (∀ x ∈ n.links, regulatorTiers n.nodes x.2 = none)
        ↔ ∀ x ∈ n.links, linkEnds n.nodes x.2 = none ∧ linkTiers n.nodes x.2 = none ∧ regulatorTiers n.nodes x.2 = none := by
      simp only [imp_and, forall_and]
    simp only [linkItems_iff] at links
    simp only [NetworkStore.check, hl, orElse_eq_none_iff, firstFail_eq_none_iff, countsFail_eq_none_iff, Option.map_some,
      Option.getD_some]
    rw [← links]
    simp only [isPipe_iff, LocatorEntry.active, and_assoc, ite_none_eq_none_iff, List.any_eq_true,
      ite_some_eq_none_iff, Bool.and_eq_true, decide_eq_true_eq, Bool.not_eq_true', not_and, Bool.not_eq_false]
    rfl
  · have first : countsFail l.nodes l.links = some ⟨1, .nodesOver, none⟩ := if_pos full
    simp [NetworkStore.check, hl, first]

theorem Ev.checkReads_of_still {e : Ev} (h : e.p.net.checkViews.length < 2) :
    e.checkReads = (e.p.mon.bindings, e.p.net.locator) := if_pos h

/-- Settles O18: what the check finds decides whether the table is activated. -/
theorem tableCheckResult : Obligations.TableCheckResult := by
  unfold Obligations.TableCheckResult
  intro s hs hv
  have ran {p : Plant} {ns : List Notice} (he : s.ev.checkComplete = Ev.start p s.link.partTime ns) :
      exec .tableCheckComplete s = .next (s.after p ns) :=
    congrArg _ ((if_pos hs).trans (s.event_eq Ev.checkComplete he))
  have reads := Ev.checkReads_of_still (e := s.ev) hv
  refine ⟨fun sound => ran ?_, fun x fails => ran ?_⟩
  · have sound : s.ev.p.net.check s.ev.checkReads.1 s.ev.checkReads.2 = none := by rw [reads]; exact sound
    simp only [Ev.checkComplete, sound, if_pos hv]
    rfl
  · have fails : s.ev.p.net.check s.ev.checkReads.1 s.ev.checkReads.2 = some x := by rw [reads]; exact fails
    simp only [Ev.checkComplete, fails, if_pos hv]
    simp [Ev.noteCheck, Ev.note, be_one]

end Sys2Proof.Machine
end

section
/-! Link and node edits (R18 to R21): O20, O21. -/

namespace Sys2Proof.Machine

-- One theorem after another: theorems checked side by side each hold a thread and its stack.
set_option Elab.async false

/-! ## Selecting bytes -/

theorem field_eq_byte {p : List Byte} {off : Nat} (h : off < p.length) : field p off 1 = p[off].toNat := by
  have byte : bytesAt p off 1 = [p[off]] := by
    rw [bytesAt, List.drop_eq_getElem_cons h]
    rfl
  rw [field, byte, beVal_one]

theorem getElem?_of_field {p : List Byte} {off v : Nat} (h : off < p.length) (hv : field p off 1 = v) :
    ∃ b, p[off]? = some b ∧ b.toNat = v :=
  ⟨p[off], List.getElem?_eq_getElem h, (field_eq_byte h).symm.trans hv⟩

/-- A row takes the request whose selecting byte is its own. -/
theorem selects_own {p : List Byte} {off own : Nat} (known : List Nat) (h : off < p.length) (hv : field p off 1 = own) :
    selects own known p off = true := by
  obtain ⟨b, hb, value⟩ := getElem?_of_field h hv
  simp [selects, hb, value]

theorem coded_eq {α : Type} (f : Nat → Option α) {p : List Byte} {off v : Nat} (h : off < p.length)
    (hv : field p off 1 = v) : coded f p off = f v := by
  obtain ⟨b, hb, value⟩ := getElem?_of_field h hv
  simp [coded, hb, value]

/-! ## The tests of every edit (R18, R21) -/

/-- The origin of the request holds the LINKS grant of an ACTIVE network and the EDIT right. -/
structure State.edits (s : State) (f : Frame) : Prop where
  right : s.allows f .edit
  active : s.plant.net.state = .active
  grant : ∃ g, s.plant.net.grant = some g ∧ g.holder = f.origin ∧ g.mode = .links

theorem Ev.edit_of_edits {s : State} {f : Frame} (h : s.edits f) (taken : Ev × Reply) :
    s.ev.edit (s.req f) taken = taken := by
  obtain ⟨g, hg, holder, mode⟩ := h.grant
  refine (if_neg (State.grants h.right)).trans ?_
  simp [Ev.active, h.active, hg, holder, mode]

/-- What each accepted edit adds: one bump and a recompute request (R20, R21). -/
theorem Ev.edited_eq {e : Ev} (h : e.bumped = false) :
    e.edited = (⟨{ e.p with
      net := { e.p.net with generation := min 4294967295 (e.p.net.generation + 1) }
      trace := { e.p.trace with pendingRecompute := true } }, e.now, e.out, true⟩, okReply) := by
  simp [Ev.edited, Ev.bump_first e h, Ev.askRecompute, max32]

/-! ## Link edits (R18 to R20) -/

section LinkEdit
variable {s : State} {f : Frame} (h : s.handles f 0x06) (he : s.edits f)
include h he

theorem exec_linkEditCreate (hp : f.payload.length = 19) (ha : field f.payload 2 1 = 0) :
    exec .linkEditCreate s = .next (s.taken f (s.ev.createLink f.payload (field f.payload 0 2))) := by
  refine congrArg Host.Outcome.next ((State.answerEv_taken_lengthFirst h (selects_own _ (by omega) ha)
    (by simp [editLengthOk, hp, ha]) _).trans (congrArg (s.taken f) ?_))
  rw [Ev.linkEdit, Ev.edit_of_edits he, State.req_payload, ha]
  rfl

theorem exec_linkEditChange (hp : f.payload.length = 19) (ha : field f.payload 2 1 = 1) :
    exec .linkEditChange s = .next (s.taken f (s.ev.changeLink f.payload (field f.payload 0 2))) := by
  refine congrArg Host.Outcome.next ((State.answerEv_taken_lengthFirst h (selects_own _ (by omega) ha)
    (by simp [editLengthOk, hp, ha]) _).trans (congrArg (s.taken f) ?_))
  rw [Ev.linkEdit, Ev.edit_of_edits he, State.req_payload, ha]
  rfl

theorem exec_linkEditRemove (hp : f.payload.length = 3) (ha : field f.payload 2 1 = 2) :
    exec .linkEditRemove s = .next (s.taken f (s.ev.removeLink (field f.payload 0 2))) := by
  refine congrArg Host.Outcome.next ((State.answerEv_taken_lengthFirst h (selects_own _ (by omega) ha)
    (by simp [editLengthOk, hp, ha]) _).trans (congrArg (s.taken f) ?_))
  rw [Ev.linkEdit, Ev.edit_of_edits he, State.req_payload, ha]
  rfl

end LinkEdit

theorem Ev.createLink_eq {e : Ev} {p : List Byte} {id : Nat} {l : Link} (absent : tget e.p.net.links id = none)
    (hl : editedLink p = some l) (sound : e.linkSound l = true) (free : e.protectedLink id l.ends = false) :
    e.createLink p id = (Ev.newRuntime { e with p.net.links := tset e.p.net.links id l } id l).edited := by
  simp [Ev.createLink, Ev.link?, absent, hl, sound, free]

section ChangeLink
variable {e : Ev} {p : List Byte} {id : Nat} {old l : Link} (present : tget e.p.net.links id = some old)
  (hl : editedLink p = some l) (sound : e.linkSound l = true) (free : e.protectedLink id (old.ends ++ l.ends) = false)
include present hl sound free

theorem Ev.changeLink_of_kind (same : l.kind = old.kind) :
    e.changeLink p id = if e.pendingLocks id (some l.service) then (e, ⟨.locked, []⟩)
      else Ev.edited { e with p.net.links := tset e.p.net.links id l } := by
  simp [Ev.changeLink, Ev.link?, present, hl, sound, free, same]

theorem Ev.changeLink_of_rekind (other : l.kind ≠ old.kind) :
    e.changeLink p id
      = e.uproot id ((Ev.dropRuntime { e with p.net.links := tset e.p.net.links id l } id).newRuntime id l).edited := by
  simp [Ev.changeLink, Ev.link?, present, hl, sound, free, other]

end ChangeLink

theorem Ev.removeLink_of_protected {e : Ev} {id : Nat} {old : Link} (present : tget e.p.net.links id = some old)
    (claimed : e.protectedLink id old.ends = true) : e.removeLink id = (e, ⟨.claimed, []⟩) := by
  simp [Ev.removeLink, Ev.link?, present, claimed]

theorem Ev.removeLink_of_free {e : Ev} {id : Nat} {old : Link} (present : tget e.p.net.links id = some old)
    (free : e.protectedLink id old.ends = false) :
    e.removeLink id = e.uproot id (Ev.dropRuntime { e with p.net.links := terase e.p.net.links id } id).edited := by
  simp [Ev.removeLink, Ev.link?, present, free]

/-! What refuses a removal or a change of kind (R18). -/

theorem Counts.isZero_iff (k : Counts) : k.isZero = true ↔ k = ⟨0, 0, 0⟩ := by
  obtain ⟨p, c, d⟩ := k
  simp [Counts.isZero, and_assoc]

theorem Ev.pendingLocks_none_iff (e : Ev) (id : Nat) :
    e.pendingLocks id none = true ↔ ∃ p, tget e.p.net.pipes id = some p ∧ p.pending ≠ ⟨0, 0, 0⟩ := by
  simp [Ev.pendingLocks, Ev.pipe?, Option.any_eq_true, ← Counts.isZero_iff]

theorem Ev.pendingLocks_some_iff (e : Ev) (id : Nat) (sv : Counts) :
    e.pendingLocks id (some sv) = true ↔ ∃ p, tget e.p.net.pipes id = some p
      ∧ (sv.p < p.pending.p ∨ sv.c < p.pending.c ∨ sv.d < p.pending.d) := by
  simp [Ev.pendingLocks, Ev.pipe?, Option.any_eq_true, Counts.covers, or_assoc]

theorem Ev.located_iff (e : Ev) (id : Nat) :
    e.located id = true ↔ ∃ x ∈ e.p.net.locator, x.2.lo ≤ x.2.hi ∧ x.2.target = id := by
  simp [Ev.located, LocatorEntry.active]

theorem Ev.taggedAtAll_iff (e : Ev) (id : Nat) :
    e.p.net.tags.any (fun t => t.2.link = id) = true ↔ ∃ x ∈ e.p.net.tags, x.2.link = id := by
  simp

section Uproot
variable {e : Ev} {id : Nat} (taken : Ev × Reply)

theorem Ev.uproot_of_tag (h : ∃ x ∈ e.p.net.tags, x.2.link = id) : e.uproot id taken = (e, ⟨.tagged, be 2 id⟩) :=
  if_pos ((e.taggedAtAll_iff id).2 h)

variable (untagged : ¬ ∃ x ∈ e.p.net.tags, x.2.link = id)
include untagged

theorem Ev.uproot_of_pending (h : ∃ p, tget e.p.net.pipes id = some p ∧ p.pending ≠ ⟨0, 0, 0⟩) :
    e.uproot id taken = (e, ⟨.locked, []⟩) :=
  (if_neg fun t => untagged ((e.taggedAtAll_iff id).1 t)).trans (if_pos ((e.pendingLocks_none_iff id).2 h))

variable (idle : ¬ ∃ p, tget e.p.net.pipes id = some p ∧ p.pending ≠ ⟨0, 0, 0⟩)
include idle

theorem Ev.uproot_of_target (h : ∃ x ∈ e.p.net.locator, x.2.lo ≤ x.2.hi ∧ x.2.target = id) :
    e.uproot id taken = (e, ⟨.badValue, []⟩) :=
  (if_neg fun t => untagged ((e.taggedAtAll_iff id).1 t)).trans
    ((if_neg fun t => idle ((e.pendingLocks_none_iff id).1 t)).trans (if_pos ((e.located_iff id).2 h)))

theorem Ev.uproot_of_free (h : ¬ ∃ x ∈ e.p.net.locator, x.2.lo ≤ x.2.hi ∧ x.2.target = id) : e.uproot id taken = taken :=
  (if_neg fun t => untagged ((e.taggedAtAll_iff id).1 t)).trans
    ((if_neg fun t => idle ((e.pendingLocks_none_iff id).1 t)).trans (if_neg fun t => h ((e.located_iff id).1 t)))

end Uproot

/-! New runtime (R20). -/

theorem Ev.newRuntime_of_control {l : Link} {pos : Position} (h : l.normal? = some pos) (e : Ev) (id : Nat) :
    e.newRuntime id l = { e with p.net.controls := tset e.p.net.controls id { position := pos } } := by
  simp [Ev.newRuntime, h]

/-- A pipe made while a recompute runs is noted in its job; of the network it changes the pipes alone (R44). -/
theorem Ev.newRuntime_of_pipe {l : Link} {sv : Counts} {len : Nat} (h : l.body = .pipe sv len) (e : Ev) (id : Nat) :
    ∃ job, e.newRuntime id l
      = { e with p.net.pipes := tset e.p.net.pipes id {}, p.trace.running := job } := by
  have none : l.normal? = none := by simp [Link.normal?, h]
  simp only [Ev.newRuntime, none, Ev.created]
  split
  · exact ⟨_, rfl⟩
  · exact ⟨e.p.trace.running, rfl⟩

/-- The end of an event makes no valve or regulator. -/
theorem Ev.settle_control?_none {e : Ev} {k : Nat} (h : tget e.p.net.controls k = none) :
    tget e.settle.p.net.controls k = none := by
  have kept := e.settle_within.positions (by decide) k
  simpa [Ev.control?, h] using kept

/-- Settles O20: each clause by the row of its action, then the branch of the action that its hypotheses name. -/
theorem linkEditsChangeOneLink : Obligations.LinkEditsChangeOneLink := by
  unfold Obligations.LinkEditsChangeOneLink
  intro s f g h hr ha hg holder mode
  have he : s.edits f := ⟨hr, ha, g, hg, holder, mode⟩
  refine ⟨fun l pos hp act absent hl normal sound free => ?createControl,
    fun l sv len hp act absent hl body sound free => ?createPipe,
    fun old l hp act present hl same sound free covered => ?change,
    fun old hp act present free untagged idle untargeted => ?remove,
    fun old hp act present claimed => ?claimed,
    fun old l p hp act present hl same sound free pipe short => ?short, ?_⟩
  case createControl =>
    rw [exec_linkEditCreate h he hp act, Ev.createLink_eq absent hl sound free, Ev.newRuntime_of_control normal,
      Ev.edited_eq rfl]
    rfl
  case createPipe =>
    rw [exec_linkEditCreate h he hp act, Ev.createLink_eq absent hl sound free]
    obtain ⟨job, made⟩ := Ev.newRuntime_of_pipe body
      { s.ev with p.net.links := tset s.plant.net.links (field f.payload 0 2) l } (field f.payload 0 2)
    rw [made, Ev.edited_eq rfl]
    exact ⟨_, rfl, by simp, by simp, fun k other => by simp [other], by simp, by simp, by simp⟩
  case change =>
    have covers : ¬ s.ev.pendingLocks (field f.payload 0 2) (some l.service) = true := fun locks => by
      obtain ⟨p, hp, below⟩ := (s.ev.pendingLocks_some_iff _ _).1 locks
      have := covered p hp
      omega
    rw [exec_linkEditChange h he hp act, Ev.changeLink_of_kind present hl sound free same, if_neg covers, Ev.edited_eq rfl]
    rfl
  case remove =>
    rw [exec_linkEditRemove h he hp act, Ev.removeLink_of_free present free,
      Ev.uproot_of_free _ (by simpa using untagged) (by simpa using idle) (by simpa using untargeted), Ev.edited_eq rfl]
    rfl
  case claimed =>
    rw [exec_linkEditRemove h he hp act, Ev.removeLink_of_protected present claimed]
    rfl
  case short =>
    have locks : s.ev.pendingLocks (field f.payload 0 2) (some l.service) = true :=
      (s.ev.pendingLocks_some_iff _ _).2 ⟨p, pipe, short⟩
    rw [exec_linkEditChange h he hp act, Ev.changeLink_of_kind present hl sound free same, if_pos locks]
    rfl
  refine ⟨fun old l pos ⟨hp, act, present, hl, other, sound, free⟩ untagged idle untargeted normal => ?_,
    fun old l sv len ⟨hp, act, present, hl, other, sound, free⟩ untagged idle untargeted body => ?_, fun c hc => ?_⟩
  · rw [exec_linkEditChange h he hp act, Ev.changeLink_of_rekind present hl sound free other,
      Ev.uproot_of_free _ untagged idle untargeted, Ev.newRuntime_of_control normal, Ev.edited_eq rfl]
    rfl
  · rw [exec_linkEditChange h he hp act, Ev.changeLink_of_rekind present hl sound free other,
      Ev.uproot_of_free _ untagged idle untargeted]
    obtain ⟨job, made⟩ := Ev.newRuntime_of_pipe body
      (Ev.dropRuntime { s.ev with p.net.links := tset s.plant.net.links (field f.payload 0 2) l } (field f.payload 0 2))
      (field f.payload 0 2)
    rw [made, Ev.edited_eq rfl]
    exact ⟨_, rfl, by simp [Ev.dropRuntime], by simp [Ev.dropRuntime],
      Ev.settle_control?_none (by simp [Ev.dropRuntime, tget_terase]),
      fun k other => by simp [Ev.dropRuntime, tget_terase, other], by simp [Ev.dropRuntime], by simp [Ev.dropRuntime],
      by simp [Ev.dropRuntime]⟩
  · have row : ∃ taken, exec c s = .next (s.taken f (s.ev.uproot (field f.payload 0 2) taken)) := by
      obtain ⟨rfl, old, l, hp, act, present, hl, other, sound, free⟩ | ⟨rfl, hp, act, old, present, free⟩ := hc
      · exact ⟨_, by rw [exec_linkEditChange h he hp act, Ev.changeLink_of_rekind present hl sound free other]⟩
      · exact ⟨_, by rw [exec_linkEditRemove h he hp act, Ev.removeLink_of_free present free]⟩
    obtain ⟨taken, row⟩ := row
    rw [row]
    refine ⟨fun tag => ?_, fun untagged pending => ?_, fun untagged idle target => ?_⟩
    · rw [Ev.uproot_of_tag _ tag]
      rfl
    · rw [Ev.uproot_of_pending _ untagged pending]
      rfl
    · rw [Ev.uproot_of_target _ untagged idle target]
      rfl

/-! ## Node edits (R21) -/

section NodeEdit
variable {s : State} {f : Frame} (h : s.handles f 0x07) (he : s.edits f)
include h he

theorem exec_nodeEditCreate (hp : f.payload.length = 7) (ha : field f.payload 2 1 = 0) :
    exec .nodeEditCreate s = .next (s.taken f (s.ev.createNode f.payload (field f.payload 0 2))) := by
  refine congrArg Host.Outcome.next ((State.answerEv_taken_lengthFirst h (selects_own _ (by omega) ha)
    (by simp [editLengthOk, hp, ha]) _).trans (congrArg (s.taken f) ?_))
  rw [Ev.nodeEdit, Ev.edit_of_edits he, State.req_payload, ha]
  rfl

theorem exec_nodeEditChange (hp : f.payload.length = 7) (ha : field f.payload 2 1 = 1) :
    exec .nodeEditChange s = .next (s.taken f (s.ev.changeNode f.payload (field f.payload 0 2))) := by
  refine congrArg Host.Outcome.next ((State.answerEv_taken_lengthFirst h (selects_own _ (by omega) ha)
    (by simp [editLengthOk, hp, ha]) _).trans (congrArg (s.taken f) ?_))
  rw [Ev.nodeEdit, Ev.edit_of_edits he, State.req_payload, ha]
  rfl

theorem exec_nodeEditRemove (hp : f.payload.length = 3) (ha : field f.payload 2 1 = 2) :
    exec .nodeEditRemove s = .next (s.taken f (s.ev.removeNode (field f.payload 0 2))) := by
  refine congrArg Host.Outcome.next ((State.answerEv_taken_lengthFirst h (selects_own _ (by omega) ha)
    (by simp [editLengthOk, hp, ha]) _).trans (congrArg (s.taken f) ?_))
  rw [Ev.nodeEdit, Ev.edit_of_edits he, State.req_payload, ha]
  rfl

end NodeEdit

section
variable {e : Ev} {p : List Byte} {id : Nat} {x old : Node}

theorem Ev.createNode_eq (free : e.protectedNode id = false) (absent : tget e.p.net.nodes id = none)
    (hx : editedNode p = some x) (source : hasSource (tset e.p.net.nodes id x) = true) :
    e.createNode p id = (Ev.created { e with p.net.nodes := tset e.p.net.nodes id x } (some id) none).edited := by
  simp [Ev.createNode, thas, absent, hx, source, free]

theorem Ev.changeNode_eq (free : e.protectedNode id = false) (present : tget e.p.net.nodes id = some old)
    (hx : editedNode p = some x) (same : x.tier = old.tier)
    (source : hasSource (tset e.p.net.nodes id { x with fed := old.fed }) = true) :
    e.changeNode p id = Ev.edited { e with p.net.nodes := tset e.p.net.nodes id { x with fed := old.fed } } := by
  have kept : ¬ (decide (x.tier ≠ old.tier)
      && tiersBroken (tset e.p.net.nodes id { x with fed := old.fed }) e.p.net.links id) = true := by simp [same]
  simp only [Ev.changeNode, present, hx]
  rw [if_neg kept, if_neg (by simp [source]), if_neg (by simp [free])]

theorem Ev.removeNode_eq (free : e.protectedNode id = false) (present : tget e.p.net.nodes id = some old)
    (source : hasSource (terase e.p.net.nodes id) = true) (ends : ∀ y ∈ e.p.net.links, y.2.endA ≠ id ∧ y.2.endB ≠ id)
    (bound : ∀ y ∈ e.p.mon.stations, y.2.cfg.node ≠ some id) :
    e.removeNode id = Ev.edited { e with p.net.nodes := terase e.p.net.nodes id } := by
  have unnamed : ¬ (e.p.net.links.any (fun y => y.2.endA = id || y.2.endB = id)
      || e.p.mon.stations.any fun y => y.2.cfg.node = some id) = true := by
    simp only [Bool.or_eq_true, List.any_eq_true, decide_eq_true_eq]
    rintro (⟨y, hy, named⟩ | ⟨y, hy, named⟩)
    · exact named.elim (ends y hy).1 (ends y hy).2
    · exact bound y hy named
  unfold Ev.removeNode
  dsimp only
  rw [if_neg (by simp [thas, present]), if_neg (by simp [source]), if_neg unnamed, if_neg (by simp [free])]

theorem Ev.removeNode_of_last (present : (tget e.p.net.nodes id).isSome)
    (source : hasSource (terase e.p.net.nodes id) = false) : e.removeNode id = (e, ⟨.badValue, []⟩) := by
  simp [Ev.removeNode, thas, present, source]

end

/-- A record of a NODE_EDIT carries no fed flag (R6). -/
theorem editedNode_fed {p : List Byte} {x : Node} (h : editedNode p = some x) : x.fed = false := by
  have record {b : List Byte} {y : Nat × Node} (hy : nodeRecord b = some y) : y.2.fed = false := by
    unfold nodeRecord at hy
    split at hy
    · split at hy
      · obtain rfl := Option.some.inj hy
        rfl
      · simp at hy
    · simp at hy
  unfold editedNode at h
  split at h
  · next id n hn =>
    split at h
    · obtain rfl := Option.some.inj h
      exact record hn
    · simp at h
  · simp at h

/-- A node made while a recompute runs is noted in its job (R44). -/
theorem Ev.created_eq (e : Ev) (node pipe : Option Nat) : ∃ job, e.created node pipe = { e with p.trace.running := job } := by
  unfold Ev.created
  split
  · exact ⟨_, rfl⟩
  · exact ⟨e.p.trace.running, rfl⟩

/-- Settles O21, action by action. -/
theorem nodeEditsChangeOneNode : Obligations.NodeEditsChangeOneNode := by
  unfold Obligations.NodeEditsChangeOneNode
  intro s f g h hr ha hg holder mode n e id gen asked free
  have he : s.edits f := ⟨hr, ha, g, hg, holder, mode⟩
  refine ⟨fun x hp act absent hx source => ⟨editedNode_fed hx, ?create⟩, fun old x hp act present hx same source => ?change,
    fun old hp act present source ends bound => ?remove, fun hp act present source => ?last⟩
  case create =>
    rw [exec_nodeEditCreate h he hp act, Ev.createNode_eq free absent hx source]
    obtain ⟨job, made⟩ := Ev.created_eq { s.ev with p.net.nodes := tset s.plant.net.nodes id x } (some id) none
    rw [made, Ev.edited_eq rfl]
    exact ⟨_, rfl, by simp, fun k other => by simp [other, n], by simp [n], by simp [n], by simp [gen, n]⟩
  case change =>
    rw [exec_nodeEditChange h he hp act, Ev.changeNode_eq free present hx same source, Ev.edited_eq rfl]
    rfl
  case remove =>
    rw [exec_nodeEditRemove h he hp act, Ev.removeNode_eq free present source ends bound, Ev.edited_eq rfl]
    rfl
  case last =>
    rw [exec_nodeEditRemove h he hp act, Ev.removeNode_of_last present source]
    rfl

end Sys2Proof.Machine
end

section
/-! Tags and the locator (R22 to R24): O22, O24. RESET OPERATIONS (R214): O14. -/

namespace Sys2Proof.Machine

-- One theorem after another: theorems checked side by side each hold a thread and its stack.
set_option Elab.async false

/-! ## Keys of a table -/

theorem mem_tkeysWhere {α : Type} {t : Table α} (w : tableWf t) {p : Nat → α → Bool} {k : Nat} :
    k ∈ tkeysWhere t p ↔ ∃ v, tget t k = some v ∧ p k v = true := by
  simp only [tkeysWhere, List.mem_map, List.mem_filter]
  constructor
  · rintro ⟨⟨k, v⟩, ⟨mem, hp⟩, rfl⟩
    exact ⟨v, tget_of_mem w mem, hp⟩
  · rintro ⟨v, hv, hp⟩
    exact ⟨(k, v), ⟨mem_of_tget hv, hp⟩, rfl⟩

/-- The lowest free key is the one below which none is free. -/
theorem lowestFree_eq {α : Type} {t : Table α} {lo bound k : Nat} (hlo : lo ≤ k) (hk : k < bound)
    (free : tget t k = none) (used : ∀ j < k, lo ≤ j → (tget t j).isSome) : lowestFree t lo bound = some k := by
  rw [lowestFree, List.head?_filter, List.find?_range_eq_some]
  refine ⟨by simp [hlo, thas, free], by simpa using hk, fun j hj => ?_⟩
  by_cases h : lo ≤ j
  · simp [thas, used j hj h]
  · simp [h]

/-! ## Tags (R22, R23) -/

theorem Ev.tagged_iff (e : Ev) (link : Nat) (kind : TagKind) :
    e.tagged link kind = true ↔ ∃ x ∈ e.p.net.tags, x.2.link = link ∧ x.2.kind = kind := by
  simp [Ev.tagged]

/-- TAG_SET with the right, of a link there is, while ACTIVE (R22). -/
theorem exec_tagSet {s : State} {f : Frame} {l : Link} {k : TagKind} (h : s.handles f 0x08) (hp : f.payload.length = 3)
    (hr : s.allows f .operate) (ha : s.plant.net.state = .active) (hid : field f.payload 0 2 ≤ 6143)
    (hk : tagKindOf (field f.payload 2 1) = some k) (hl : tget s.plant.net.links (field f.payload 0 2) = some l) :
    exec .tagSet s = .next (s.taken f (s.ev.tagLink f.origin (field f.payload 0 2) l k)) := by
  refine congrArg Host.Outcome.next ((State.answerEv_taken_lengthFirst h rfl (decide_eq_true hp) _).trans
    (congrArg (s.taken f) ((if_neg (State.grants hr)).trans ?_)))
  simp only [Ev.active, ha, Ev.link?, State.req_payload, coded_eq tagKindOf (show 2 < f.payload.length by omega) rfl, hk, hl]
  simp [Nat.not_lt.2 hid]

theorem Ev.tagLink_of_duplicate {e : Ev} {l : Link} {k : TagKind} (fits : tagFits l k = true) {link : Nat}
    (tagged : e.tagged link k = true) (origin : Nat) : e.tagLink origin link l k = (e, ⟨.duplicate, []⟩) := by
  simp [Ev.tagLink, fits, tagged]

theorem Ev.tagLink_of_free {e : Ev} {l : Link} {k : TagKind} (fits : tagFits l k = true) {link id : Nat}
    (untagged : e.tagged link k = false) (free : lowestFree e.p.net.tags 0 Config.tagSlots = some id) (origin : Nat) :
    e.tagLink origin link l k = (e.placeTag id origin link k, ⟨.ok, be 2 id⟩) := by
  simp [Ev.tagLink, fits, untagged, free]

theorem exec_tagClear {s : State} {f : Frame} {t : Tag} (h : s.handles f 0x09) (hp : f.payload.length = 2)
    (hr : s.allows f .operate) (ha : s.plant.net.state = .active) (hid : field f.payload 0 2 < 64)
    (ht : tget s.plant.net.tags (field f.payload 0 2) = some t) :
    exec .tagClear s = .next (s.taken f (s.ev.removeTag (field f.payload 0 2) t, okReply)) := by
  refine congrArg Host.Outcome.next ((State.answerEv_taken_lengthFirst h rfl (decide_eq_true hp) _).trans
    (congrArg (s.taken f) ((if_neg (State.grants hr)).trans ?_)))
  simp [Ev.active, ha, Nat.not_le.2 hid, ht]

/-- Settles O22: a tag of a pipe takes the lowest free id or is a duplicate; clearing one bumps by its kind. -/
theorem tagsSetAndCleared : Obligations.TagsSetAndCleared := by
  unfold Obligations.TagsSetAndCleared
  refine ⟨fun s f l h hp hr ha hid hk hl pipe => ⟨fun id untagged low free used => ?set, fun tagged => ?duplicate⟩,
    fun s f t h hp hr ha hid ht => ?clear⟩
  case set =>
    have fits : tagFits l .workInProgress = true := by simp [tagFits, pipe]
    have untagged : s.ev.tagged (field f.payload 0 2) .workInProgress = false := by
      rw [← Bool.not_eq_true, Ev.tagged_iff]
      rintro ⟨x, hx, both⟩
      exact untagged x hx both
    rw [exec_tagSet h hp hr ha hid (by rw [hk]; rfl) hl,
      Ev.tagLink_of_free fits untagged (lowestFree_eq (Nat.zero_le _) low free fun j hj _ => used j hj)]
    rfl
  case duplicate =>
    have fits : tagFits l .workInProgress = true := by simp [tagFits, pipe]
    rw [exec_tagSet h hp hr ha hid (by rw [hk]; rfl) hl, Ev.tagLink_of_duplicate fits ((s.ev.tagged_iff _ _).2 tagged)]
    rfl
  case clear =>
    rw [exec_tagClear h hp hr ha hid ht]
    cases hk : t.kind with
    | doNotOperate =>
      simp only [Ev.removeTag, hk, if_true]
      rw [Ev.bump_first _ rfl]
      rfl
    | workInProgress =>
      simp only [Ev.removeTag, hk, reduceCtorEq, if_false]
      rfl

/-! ## The locator (R24) -/

/-- The entry of an index, the power-on one where none is listed. -/
abbrev entryAt (t : Table LocatorEntry) (k : Nat) : LocatorEntry := (tget t k).getD {}

theorem entryAt_writeEntry (t : Table LocatorEntry) (k : Nat) (x : LocatorEntry) (j : Nat) :
    entryAt (writeEntry t k x) j = if j = k then x else entryAt t j := by
  unfold writeEntry
  split
  · next empty => by_cases hj : j = k <;> simp [entryAt, tget_terase, hj, empty]
  · by_cases hj : j = k <;> simp [entryAt, hj]

/-- Entries written to consecutive indices: each at its index, the others as they were. -/
theorem entryAt_writeEntries (xs : List LocatorEntry) (k : Nat) (t : Table LocatorEntry) (j : Nat) :
    entryAt (writeEntries k xs t) j = if k ≤ j then (xs[j - k]?).getD (entryAt t j) else entryAt t j := by
  induction xs generalizing k t with
  | nil => simp [writeEntries]
  | cons x xs ih =>
    rw [writeEntries, ih]
    simp only [entryAt_writeEntry]
    rcases Nat.lt_trichotomy j k with low | rfl | high
    · rw [if_neg (by omega), if_neg (by omega), if_neg (by omega)]
    · simp
    · obtain ⟨d, rfl⟩ : ∃ d, j = k + 1 + d := ⟨j - (k + 1), by omega⟩
      rw [if_pos (show k + 1 ≤ k + 1 + d by omega), if_neg (show ¬ k + 1 + d = k by omega),
        if_pos (show k ≤ k + 1 + d by omega), show k + 1 + d - (k + 1) = d by omega,
        show k + 1 + d - k = d + 1 by omega, List.getElem?_cons_succ]

theorem locatorEntriesOf_getElem? (p : List Byte) {i : Nat} (h : i < field p 2 2) :
    (locatorEntriesOf p)[i]? = some ⟨field p (4 + 8 * i) 3, field p (7 + 8 * i) 3, field p (10 + 8 * i) 2⟩ := by
  simp [locatorEntriesOf, h]

theorem locatorEntriesOf_length (p : List Byte) : (locatorEntriesOf p).length = field p 2 2 := by
  simp [locatorEntriesOf]

theorem Ev.entrySound_iff (e : Ev) (x : LocatorEntry) :
    e.entrySound x = true ↔ x.target ≤ 6143 ∧ (e.p.net.state = .active → x.lo ≤ x.hi →
      ∃ l, tget e.p.net.links x.target = some l ∧ l.kind = .pipe) := by
  rw [← isPipe_iff]
  simp only [Ev.entrySound, Ev.active, LocatorEntry.active, Bool.and_eq_true, decide_eq_true_eq, Bool.not_eq_true',
    Bool.and_eq_false_iff, decide_eq_false_iff_not, Bool.not_eq_false']
  constructor
  · rintro ⟨low, sound⟩
    exact ⟨low, fun ha hx => by simpa [ha, hx] using sound⟩
  · rintro ⟨low, sound⟩
    refine ⟨low, ?_⟩
    by_cases ha : e.p.net.state = .active
    · by_cases hx : x.lo ≤ x.hi
      · exact .inr (sound ha hx)
      · exact .inl (.inr hx)
    · exact .inl (.inl ha)

theorem Ev.locatorSet_of_no_right {q : Req} (hr : (!q.rights.has .edit) = true) (e : Ev) :
    e.locatorSet q = (e, ⟨.noRight, []⟩) := if_pos hr

section LocatorSet
variable {s : State} {f : Frame} (h : s.handles f 0x0A) (h4 : 4 ≤ f.payload.length)
  (hp : f.payload.length = 4 + 8 * field f.payload 2 2)
include h h4 hp

theorem exec_locatorSet : exec .locatorSet s = .next (s.taken f (s.ev.locatorSet (s.req f))) :=
  congrArg Host.Outcome.next (State.answerEv_taken_lengthFirst h rfl
    (by simp only [locatorLengthOk, Bool.and_eq_true, decide_eq_true_eq]; exact ⟨h4, hp⟩) _)

/-- LOCATOR_SET with the right, by the range of its indices and of its entries. -/
theorem exec_locatorSet_of_right (hr : s.allows f .edit) :
    exec .locatorSet s = .next (s.taken f (
      if field f.payload 2 2 = 0 || 512 < field f.payload 0 2 + field f.payload 2 2
          || !(locatorEntriesOf f.payload).all s.ev.entrySound
      then (s.ev, ⟨.badValue, []⟩)
      else ({ s.ev with
        p.net.locator := writeEntries (field f.payload 0 2) (locatorEntriesOf f.payload) s.plant.net.locator },
        okReply))) :=
  (exec_locatorSet h h4 hp).trans (congrArg (fun x => Host.Outcome.next (s.taken f x)) (if_neg (State.grants hr)))

end LocatorSet

/-- Settles O24: the entries read back from the indices they were written to, and the requests that write none. -/
theorem locatorSetWritesItsRange : Obligations.LocatorSetWritesItsRange := by
  unfold Obligations.LocatorSetWritesItsRange
  refine ⟨fun s f h h4 hp hr => ?_, fun s f h h4 hp hr => ⟨fun some fits sound => ?_, fun bad => ?_⟩⟩
  · rw [exec_locatorSet h h4 hp, Ev.locatorSet_of_no_right (State.refuses hr)]
    rfl
  · have taken : ¬ (decide (field f.payload 2 2 = 0) || decide (512 < field f.payload 0 2 + field f.payload 2 2)
        || !(locatorEntriesOf f.payload).all s.ev.entrySound) = true := by
      have all : (locatorEntriesOf f.payload).all s.ev.entrySound = true :=
        List.all_eq_true.mpr fun x hx => (s.ev.entrySound_iff x).2 (sound x hx)
      simp only [all, Bool.not_true, Bool.or_false, Bool.or_eq_true, decide_eq_true_eq]
      omega
    rw [exec_locatorSet_of_right h h4 hp hr, if_neg taken]
    have written (k : Nat) : entryAt (s.taken f ({ s.ev with
        p.net.locator := writeEntries (field f.payload 0 2) (locatorEntriesOf f.payload) s.plant.net.locator },
        okReply)).plant.net.locator k = _ :=
      (congrArg (entryAt · k) (Ev.settle_net_locator _)).trans (entryAt_writeEntries _ _ _ k)
    refine ⟨_, rfl, fun i hi => (written _).trans ?_, fun k hk => (written k).trans ?_, by simp, by simp, by simp, by simp,
      by simp⟩
    · rw [if_pos (by omega), Nat.add_sub_cancel_left, locatorEntriesOf_getElem? _ hi]
      rfl
    · obtain low | high := hk
      · rw [if_neg (by omega)]
      · rw [if_pos (by omega), List.getElem?_eq_none (by rw [locatorEntriesOf_length]; omega)]
        rfl
  · have refused : (decide (field f.payload 2 2 = 0) || decide (512 < field f.payload 0 2 + field f.payload 2 2)
        || !(locatorEntriesOf f.payload).all s.ev.entrySound) = true := by
      simp only [Bool.or_eq_true, decide_eq_true_eq, Bool.not_eq_true', List.all_eq_false]
      obtain none | long | ⟨x, hx, high⟩ | ⟨ha, x, hx, active, nopipe⟩ := bad
      · exact .inl (.inl none)
      · exact .inl (.inr long)
      · refine .inr ⟨x, hx, fun sound => ?_⟩
        have := ((s.ev.entrySound_iff x).1 sound).1
        omega
      · refine .inr ⟨x, hx, fun sound => ?_⟩
        obtain ⟨l, hl, pipe⟩ := ((s.ev.entrySound_iff x).1 sound).2 ha active
        exact nopipe l hl pipe
    rw [exec_locatorSet_of_right h h4 hp hr, if_pos refused]
    rfl

end Sys2Proof.Machine
end

section
/-! RESET OPERATIONS (R26, R50, R107, R137, R155, R191, R214): O14. -/

namespace Sys2Proof.Machine

-- One theorem after another: theorems checked side by side each hold a thread and its stack.
set_option Elab.async false

/-! ## Closing records (R178) -/

theorem PipeRt.leaveRecord_owner (p : PipeRt) : p.leaveRecord.owner = none ∨ p.leaveRecord.owner = some 0 := by
  unfold PipeRt.leaveRecord
  split
  · exact .inl rfl
  · exact .inr rfl

theorem PipeRt.leaveRecord_eq (p : PipeRt) :
    p.leaveRecord = { p with
      owner := if (p.supply = .live ∨ p.supply = .recharging) ∧ p.pending.isZero then none else some 0 } := by
  simp only [PipeRt.leaveRecord, Bool.and_eq_true, Bool.or_eq_true, decide_eq_true_eq]
  split <;> rfl

/-- One record closed: its pipes leave it, and it is CLOSED now. -/
theorem Ev.closeRecord_pipe? (e : Ev) (k j : Nat) :
    (e.closeRecord k).pipe? j = (e.pipe? j).map fun p => if p.owner = some k then p.leaveRecord else p :=
  Ev.mapPipes_pipe? e j fun _ p => if p.owner = some k then p.leaveRecord else p

theorem Ev.closeRecord_record? (e : Ev) (k j : Nat) :
    (e.closeRecord k).record? j
      = if j = k then (e.record? j).map fun o => { o with state := .closed, closed := some e.now } else e.record? j :=
  Ev.modRecord_record? _ k j _

@[simp] theorem Ev.closeRecord_now (e : Ev) (k : Nat) : (e.closeRecord k).now = e.now := rfl

/-- Records among 1 to 63 closed one after another: each pipe of one of them leaves it. -/
theorem Ev.closeRecords_pipe? (ks : List Nat) (h0 : 0 ∉ ks) (e : Ev) (j : Nat) :
    (e.each ks fun k e => e.closeRecord k).pipe? j
      = (e.pipe? j).map fun p => if p.owner.any (fun k => decide (k ∈ ks)) then p.leaveRecord else p := by
  induction ks generalizing e with
  | nil => simp [Ev.each]
  | cons k ks ih =>
    obtain ⟨hk, later0⟩ : 0 ≠ k ∧ 0 ∉ ks := by simpa using h0
    refine (ih later0 (e.closeRecord k)).trans ?_
    rw [Ev.closeRecord_pipe?, Option.map_map]
    congr 1
    funext p
    simp only [Function.comp_apply]
    cases ho : p.owner with
    | none => simp [ho]
    | some i =>
      by_cases hi : i = k
      · subst hi
        obtain left | left := p.leaveRecord_owner
        · simp [left]
        · simp [left, later0]
      · simp [hi, ho]

theorem Ev.closeRecords_record? (ks : List Nat) (e : Ev) (j : Nat) :
    (e.each ks fun k e => e.closeRecord k).record? j
      = if j ∈ ks then (e.record? j).map fun o => { o with state := .closed, closed := some e.now } else e.record? j := by
  induction ks generalizing e with
  | nil => simp [Ev.each]
  | cons k ks ih =>
    refine (ih (e.closeRecord k)).trans ?_
    rw [Ev.closeRecord_record?]
    by_cases hj : j = k
    · subst hj
      by_cases later : j ∈ ks <;> simp [later]
      rfl
    · simp [hj]

theorem Ev.closeRecords_ctl (ks : List Nat) (e : Ev) : (e.each ks fun k e => e.closeRecord k).p.ctl = e.p.ctl := by
  induction ks generalizing e with
  | nil => rfl
  | cons k ks ih => exact ih (e.closeRecord k)

/-! ## The reset of an ACTIVE network -/

/-- What RESET OPERATIONS does while ACTIVE before the records close (R26, R50, R155, R191). -/
def Ev.resetReady (e : Ev) : Ev :=
  { e with
    bumped := true
    p.net.generation := min 4294967295 (e.p.net.generation + 1)
    p.net.pipes := e.p.net.pipes.map fun x =>
      (x.1, if x.2.claim.isSome then { x.2 with claim := none, supply := x.2.supply.released } else x.2)
    p.net.controls := e.p.net.controls.map fun x => (x.1, { x.2 with holders := [], order := none })
    p.trace := { e.p.trace with running := none, fifo := [], deferred := [], pendingRecompute := true }
    p.ctl.orders := [] }

theorem Ev.resetReady_pipe? (e : Ev) (k : Nat) :
    e.resetReady.pipe? k = (tget e.p.net.pipes k).map fun p =>
      { p with claim := none, supply := if p.claim.isSome then p.supply.released else p.supply } := by
  refine (tget_map e.p.net.pipes (fun _ p => if p.claim.isSome then
    { p with claim := none, supply := p.supply.released } else p) k).trans ?_
  congr 1
  funext p
  cases hp : p.claim.isSome
  · rw [Option.isSome_eq_false_iff, Option.isNone_iff_eq_none] at hp
    simp [← hp]
  · simp

theorem Ev.resetActive_eq {e : Ev} (h : e.bumped = false) : e.resetActive = e.resetReady.closeIsolationRecords := by
  simp only [Ev.resetActive, Ev.bump, Ev.mapPipes, h, Bool.false_eq_true, if_false]
  rfl

/-- RESET OPERATIONS while ACTIVE. -/
theorem Ev.resetOperations_of_active {e : Ev} (h : e.bumped = false) (ha : e.p.net.state = .active) :
    e.resetOperations = { e.resetReady.closeIsolationRecords with p.ctl.isos := [], p.reg.table := [] } := by
  have active : e.active = true := by simp [Ev.active, ha]
  simp only [Ev.resetOperations, active, if_true, Ev.resetActive_eq h]

theorem exec_resetOperations {s : State} {f : Frame} (h : s.handles f 0x25) (hp : f.payload = [0])
    (hr : s.allows f .supervise) : exec .resetOperations s = .next (s.taken f (s.ev.resetOperations, okReply)) := by
  have known : ¬ (!resetKindKnown (s.req f).payload) = true := by rw [State.req_payload, hp]; decide
  exact congrArg Host.Outcome.next ((State.answerEv_taken_lengthFirst h (by rw [hp]; rfl) (by rw [hp]; rfl) _).trans
    (congrArg (s.taken f) ((if_neg (State.grants hr)).trans (if_neg known))))

/-! ## The end of an event that leaves nothing to issue and an idle engine with a recompute to do -/

theorem Ev.settle_ctl {e : Ev} (h : e.p.noneToIssue) : e.settle.p.ctl = e.p.ctl := by
  have quiet := Ev.arbitrate_eq { e with bumped := false } h
  simp [Ev.settle, quiet]

theorem Ev.settle_net_controls {e : Ev} (h : e.p.noneToIssue) : e.settle.p.net.controls = e.p.net.controls := by
  have quiet := Ev.arbitrate_eq { e with bumped := false } h
  have same := (Ev.watchCheck_within ({ e with bumped := false } : Ev).notePeaks).controls (by decide)
  simp only [Ev.settle, quiet, Ev.takeJob_net, Ev.watchRecompute_net]
  exact same

/-- An idle engine begins a pending recompute of an ACTIVE network, at the generation that stands (R30). -/
theorem Ev.settle_recomputes {e : Ev} (ha : e.p.net.state = .active) (idle : e.p.trace.running = none)
    (asked : e.p.trace.pendingRecompute = true) :
    (∃ views, e.settle.p.trace.running = some (.recompute e.p.net.generation [] [] views))
      ∧ e.settle.p.trace.fifo = e.p.trace.fifo ∧ e.settle.p.trace.deferred = e.p.trace.deferred := by
  let w := ({ e with bumped := false } : Ev).arbitrate.notePeaks.watchCheck
  have trace : w.p.trace = e.p.trace := by simp [w, Ev.arbitrate]
  have state : w.p.net.state = .active := by simp [w, Ev.arbitrate, ha]
  have generation : w.p.net.generation = e.p.net.generation := by simp [w, Ev.arbitrate]
  have still : w.watchRecompute = w := by simp [Ev.watchRecompute, trace, idle]
  have settled : e.settle = w.takeJob := congrArg Ev.takeJob still
  have job : w.takeJob = { w with
      p.trace.pendingRecompute := false
      p.trace.running := some (.recompute w.p.net.generation [] [] [w.p.net.floodView]) } := by
    simp [Ev.takeJob, trace, idle, asked, Ev.active, state]
  rw [settled, job, generation]
  exact ⟨⟨_, rfl⟩, by rw [← trace], by rw [← trace]⟩

/-- Settles O14: the reset itself, the records it closes, and what the end of its event adds. -/
theorem resetOperationsRequest : Obligations.ResetOperationsRequest := by
  unfold Obligations.ResetOperationsRequest
  intro s f h hp hr keyed n rec0
  rw [exec_resetOperations h hp hr]
  refine ⟨fun ha => ?_, fun ha => ?_⟩
  · have still : s.ev.active = false := by simpa [Ev.active] using ha
    simp only [Ev.resetOperations, still, Bool.false_eq_true, if_false]
    rfl
  · rw [Ev.resetOperations_of_active rfl ha]
    obtain ⟨-, -, -, -, -, records⟩ := keyed
    have frame := s.ev.resetReady.closeIsolationRecords_within
    have which (k : Nat) : k ∈ (tkeysWhere s.plant.led.records fun k o => k ≠ 0 && o.state = .opened)
        ↔ ∃ o, rec0 k = some o ∧ k ≠ 0 ∧ o.state = .opened := by
      rw [mem_tkeysWhere records]
      simp [rec0]
    have not0 : 0 ∉ tkeysWhere s.plant.led.records fun k o => k ≠ 0 && o.state = .opened := fun mem => by
      obtain ⟨_, _, ne, _⟩ := (which 0).1 mem
      exact ne rfl
    have pipe (k : Nat) := Ev.closeRecords_pipe? _ not0 s.ev.resetReady k
    have record (k : Nat) := Ev.closeRecords_record?
      (tkeysWhere s.plant.led.records fun k o => k ≠ 0 && o.state = .opened) s.ev.resetReady k
    change ∀ k, s.ev.resetReady.closeIsolationRecords.pipe? k = _ at pipe
    change ∀ k, s.ev.resetReady.closeIsolationRecords.record? k = _ at record
    have ctl : s.ev.resetReady.closeIsolationRecords.p.ctl = s.ev.resetReady.p.ctl := Ev.closeRecords_ctl _ _
    generalize s.ev.resetReady.closeIsolationRecords = closed at *
    obtain ⟨⟨views, running⟩, fifo, deferred⟩ := Ev.settle_recomputes
      (e := { closed with p.ctl.isos := [], p.reg.table := [] }) ((frame.net (by decide)).1.trans ha)
      (frame.trace (by decide)).1 (frame.ask (by decide))
    have generation : closed.p.net.generation = min 4294967295 (n.generation + 1) :=
      (frame.still (by decide) (by decide) (by decide)).1
    obtain ⟨state, grant, -, tags, locator⟩ := frame.net (by decide)
    obtain ⟨-, fifo', deferred'⟩ := frame.trace (by decide)
    refine ⟨_, rfl, (Ev.settle_ctl rfl).trans ?_, (Ev.settle_reg _).trans ?_,
      (Ev.settle_mon _).trans (frame.mon (by decide)),
      ⟨(Ev.settle_net_state _).trans (state.trans ha), (Ev.settle_net_generation _).trans generation,
        (Ev.settle_net_nodes _).trans (frame.nodes (by decide)), (Ev.settle_net_links _).trans (frame.links (by decide)),
        (Ev.settle_net_tags _).trans tags, (Ev.settle_net_locator _).trans locator,
        (Ev.settle_net_grant _).trans grant⟩,
      fun k => ?_, fun k => ?_, fun k => ?_, fifo.trans fifo', deferred.trans deferred',
      ⟨views, generation ▸ running⟩, s.taken_partTime f _, s.taken_mask f _, s.taken_rights f _⟩
    · exact congrArg (fun c : IsolationController => { c with isos := [] }) ctl
    · exact congrArg (fun r : IncidentRegister => { r with table := [] }) (frame.reg (by decide))
    · refine (congrArg (tget · k) ((Ev.settle_net_controls
        (e := { closed with p.ctl.isos := [], p.reg.table := [] }) rfl).trans (frame.controls (by decide)))).trans ?_
      exact tget_map n.controls (fun _ c => { c with holders := [], order := none }) k
    · refine (congrArg (tget · k) (Ev.settle_net_pipes _)).trans ((pipe k).trans ?_)
      rw [Ev.resetReady_pipe?, Option.map_map]
      congr 1
      funext p
      have closing : p.owner.any (fun j => decide (j ∈ tkeysWhere s.plant.led.records fun k o => k ≠ 0 && o.state = .opened))
          = p.owner.any fun j => j ≠ 0 && (rec0 j).any fun o => o.state = .opened := by
        congr 1
        funext j
        rw [Bool.eq_iff_iff, decide_eq_true_eq, which]
        cases hj : rec0 j <;> simp
      simp only [Function.comp_apply, closing, PipeRt.leaveRecord_eq]
      split <;> rfl
    · refine (congrArg (Option.map fun o : Outage => (o.state, o.closed)) ((Ev.settle_record?
        { closed with p.ctl.isos := [], p.reg.table := [] } k).trans (congrArg _ (record k)))).trans ?_
      by_cases mem : k ∈ tkeysWhere s.plant.led.records fun k o => k ≠ 0 && o.state = .opened
      · obtain ⟨o, ho, ne, opened⟩ := (which k).1 mem
        have stored : s.ev.resetReady.record? k = some o := ho
        rw [if_pos mem, stored, ho]
        simp only [Option.map_some, if_pos (And.intro ne opened)]
        rfl
      · have kept : ∀ o, rec0 k = some o → ¬ (k ≠ 0 ∧ o.state = .opened) := fun o ho both => mem ((which k).2 ⟨o, ho, both⟩)
        rw [if_neg mem]
        change ((rec0 k).map _).map _ = _
        cases ho : rec0 k with
        | none => rfl
        | some o =>
          simp only [Option.map_some, if_neg (kept o ho)]

end Sys2Proof.Machine
end

section
/-! The Station Monitor: its records, its staleness (R54 to R58, R71, R72), its bands (R66) and samples turned away: O25,
O26, O28, O30. -/

namespace Sys2Proof.Machine

-- One theorem after another: theorems checked side by side each hold a thread and its stack.
set_option Elab.async false

/-! ## The band (R66) -/

theorem bandOf_lowLow_iff {c : StationRec} {b : Band} {v : Int} (h : c.ll + c.hyst ≤ c.hh) :
    bandOf c b v = .lowLow ↔ v < c.ll ∨ (b = .lowLow ∧ v < c.ll + c.hyst) := by
  unfold bandOf
  grind

theorem bandOf_highHigh_iff {c : StationRec} {b : Band} {v : Int} (h : c.ll ≤ c.hh - c.hyst) (limits : c.ll ≤ c.hh) :
    bandOf c b v = .highHigh ↔ c.hh < v ∨ (b = .highHigh ∧ c.hh - c.hyst < v) := by
  unfold bandOf
  grind

theorem bandOf_low_iff {c : StationRec} {b : Band} {v : Int} (inner : c.l + c.hyst ≤ c.h - c.hyst) (lower : c.ll + c.hyst ≤ c.l)
    (h0 : 0 ≤ c.hyst) (limits : c.h ≤ c.hh) :
    bandOf c b v = .low ↔ (c.ll ≤ v ∧ ¬(b = .lowLow ∧ v < c.ll + c.hyst))
      ∧ (v < c.l ∨ ((b = .lowLow ∨ b = .low) ∧ v < c.l + c.hyst)) := by
  unfold bandOf
  grind

theorem bandOf_high_iff {c : StationRec} {b : Band} {v : Int} (inner : c.l + c.hyst ≤ c.h - c.hyst)
    (h0 : 0 ≤ c.hyst) (limits : c.ll ≤ c.l) :
    bandOf c b v = .high ↔ (v ≤ c.hh ∧ ¬(b = .highHigh ∧ c.hh - c.hyst < v))
      ∧ (c.h < v ∨ ((b = .highHigh ∨ b = .high) ∧ c.h - c.hyst < v)) := by
  unfold bandOf
  grind

/-- Settles O30: in the order of the nine tests, where the hysteresis bands do not overlap. -/
theorem bandFollowsLimitsAndHysteresis : Obligations.BandFollowsLimitsAndHysteresis := by
  unfold Obligations.BandFollowsLimitsAndHysteresis
  intro c b v _ _ _ h0 inner lower _
  exact ⟨bandOf_lowLow_iff (by omega), bandOf_highHigh_iff (by omega) (by omega),
    bandOf_low_iff inner lower h0 (by omega), bandOf_high_iff inner h0 (by omega)⟩

/-! ## The first notice of an event -/

theorem State.event_first {s : State} {f : Ev → Ev} {n : Notice} (h : [n] <+: (f s.ev).out) :
    ∃ more, (s.event f).link = (n :: more).foldl ControlLink.queue s.link := by
  obtain ⟨more, out⟩ := h.trans (f s.ev).settle_within.out
  exact ⟨more, congrArg (List.foldl ControlLink.queue s.link) out.symm⟩

theorem State.taken_first {s : State} {f : Frame} {r : Ev × Reply} {n : Notice} (h : [n] <+: r.1.out) :
    ∃ more, (s.taken f r).link = ((n :: more).foldl ControlLink.queue s.link).finish f r.2 := by
  obtain ⟨more, out⟩ := h.trans r.1.settle_within.out
  exact ⟨more, congrArg (fun l => (List.foldl ControlLink.queue s.link l).finish f r.2) out.symm⟩

/-! ## What leaves the stations alone, and what becomes stale (R71) -/

@[simp] theorem Ev.stationLeft_mon (e : Ev) (slots : List Nat) (station : Nat) :
    (e.stationLeft slots station).p.mon = e.p.mon := (e.stationLeft_within _ _).mon (by decide)

@[simp] theorem Ev.tierCheck_stations (e : Ev) (t : Tier) : (e.tierCheck t).p.mon.stations = e.p.mon.stations := by
  rw [Ev.tierCheck_mon]

@[simp] theorem Ev.tierCheck_counters (e : Ev) (t : Tier) : (e.tierCheck t).p.mon.counters = e.p.mon.counters := by
  rw [Ev.tierCheck_mon]

@[simp] theorem Ev.goStale_stations (e : Ev) (id : Nat) (s : Station) (cause : Nat) :
    (e.goStale id s cause).p.mon.stations
      = tmod e.p.mon.stations id fun y => { y with rt := { y.rt with freshness := .stale, deadline := none, lost := true } } := by
  simp [Ev.goStale, Ev.noteStale]

theorem Ev.goStale_station {e : Ev} {id : Nat} {x : Station} (hx : e.station? id = some x) (s : Station) (cause : Nat) :
    (e.goStale id s cause).station? id
      = some { x with rt := { x.rt with freshness := .stale, deadline := none, lost := true } } := by
  have stored : tget e.p.mon.stations id = some x := hx
  rw [Ev.station?, Ev.goStale_stations, tget_tmod, if_pos rfl, stored]
  rfl

@[simp] theorem Ev.goStale_counters (e : Ev) (id : Nat) (s : Station) (cause : Nat) :
    (e.goStale id s cause).p.mon.counters = e.p.mon.counters := by
  simp [Ev.goStale, Ev.noteStale]

theorem Ev.goStale_out (e : Ev) (id : Nat) (s : Station) (cause : Nat) :
    e.out ++ [⟨.stationStale, id, be 1 cause ++ beFlag s.rt.lastTime.isSome ++ be 4 (s.rt.lastTime.getD 0)
      ++ bePu (roundDiv s.rt.s16 16), e.now⟩] <+: (e.goStale id s cause).out := by
  refine List.IsPrefix.trans ?_ (Ev.stationLeft_within _ _ _).out
  refine List.IsPrefix.trans ?_ (Ev.tierCheck_within _ _).out
  exact List.prefix_rfl

/-! ## STATION_SET (R54, R56, R57) -/

theorem exec_stationSetDefine {s : State} {f : Frame} (h : s.handles f 0x0B) (hp : f.payload.length = 44)
    (hr : s.allows f .edit) (ha : field f.payload 2 1 = 0) (hid : field f.payload 0 2 ≤ 511) :
    exec .stationSetDefine s = .next (s.taken f (s.ev.define f.payload (field f.payload 0 2))) := by
  refine congrArg Host.Outcome.next ((State.answerEv_taken_lengthFirst h (selects_own _ (by omega) ha)
    (by simp [stationSetLengthOk, stationRecordLen, hp, ha]) _).trans
    (congrArg (s.taken f) ((if_neg (State.grants hr)).trans ?_)))
  simp [ha, Nat.not_lt.2 hid]

theorem exec_stationSetRemove {s : State} {f : Frame} (h : s.handles f 0x0B) (hp : f.payload.length = 3)
    (hr : s.allows f .edit) (ha : field f.payload 2 1 = 1) (hid : field f.payload 0 2 ≤ 511) :
    exec .stationSetRemove s = .next (s.taken f (s.ev.remove (field f.payload 0 2))) := by
  refine congrArg Host.Outcome.next ((State.answerEv_taken_lengthFirst h (selects_own _ (by omega) ha)
    (by simp [stationSetLengthOk, hp, ha]) _).trans (congrArg (s.taken f) ((if_neg (State.grants hr)).trans ?_)))
  simp [ha, Nat.not_lt.2 hid]

theorem Ev.define_of_inRange {e : Ev} {p : List Byte} {c : StationRec} (hc : stationRecord p = some c)
    (bound : e.active = true → ∀ n, c.node = some n → (tget e.p.net.nodes n).isSome) (id : Nat) :
    e.define p id = (e.defineStation id c, ⟨.ok, []⟩) := by
  have node : ¬ (e.active && c.node.any fun n => !thas e.p.net.nodes n) = true := by
    simpa [Option.any_eq_true, thas, Option.isSome_iff_ne_none] using bound
  simp only [Ev.define, hc]
  exact if_neg node

theorem Ev.defineStation_mon (e : Ev) (id : Nat) (c : StationRec) :
    (e.defineStation id c).p.mon.stations = tset e.p.mon.stations id { cfg := c }
      ∧ (e.defineStation id c).p.mon.counters = e.p.mon.counters := by
  unfold Ev.defineStation
  split
  · simp
  · simp

theorem Ev.removeStation_mon (e : Ev) (id : Nat) (old : Station) :
    (e.removeStation id old).p.mon.stations = terase e.p.mon.stations id
      ∧ (e.removeStation id old).p.mon.counters = e.p.mon.counters := by
  simp [Ev.removeStation]

/-- A request that samples, defines or removes a station leaves the network's records and every position. -/
theorem State.taken_network {s : State} {f : Frame} {r : Ev × Reply} (h : Ev.Within Part.sampling s.ev r.1) :
    (s.taken f r).plant.net.nodes = s.plant.net.nodes ∧ (s.taken f r).plant.net.links = s.plant.net.links
      ∧ ∀ k, (tget (s.taken f r).plant.net.controls k).map (·.position)
        = (tget s.plant.net.controls k).map (·.position) := by
  have all : Ev.Within (.regen :: Part.sampling) s.ev r.1.settle := .last r.1.settle_within (.of h)
  exact ⟨all.nodes (by decide), all.links (by decide), all.positions (by decide)⟩

/-- Settles O25: the table with the record set or erased; what else the monitor does changes no station. -/
theorem stationDefinedAndRemoved : Obligations.StationDefinedAndRemoved := by
  unfold Obligations.StationDefinedAndRemoved
  refine ⟨fun s f c h hp hr ha hid hc bound => ?_, fun s f h hp hr ha hid => ⟨fun there => ?_, fun absent => ?_⟩⟩
  · refine ⟨_, exec_stationSetDefine h hp hr ha hid, ?_⟩
    rw [Ev.define_of_inRange hc (fun active => bound (by simpa [Ev.active] using active))]
    obtain ⟨stations, counters⟩ := s.ev.defineStation_mon (field f.payload 0 2) c
    obtain ⟨nodes, links, positions⟩ := State.taken_network (f := f) (r := (_, ⟨.ok, []⟩))
      (s.ev.defineStation_within hid (stationRecord_inRange hc))
    refine ⟨?_, fun k hk => ?_, ?_, nodes, links, positions⟩
    · rw [State.taken_plant, Ev.settle_mon, stations, tget_tset_same]
    · rw [State.taken_plant, Ev.settle_mon, stations, tget_tset_other _ hk]
    · rw [State.taken_plant, Ev.settle_mon, counters]
  · obtain ⟨old, hold⟩ := Option.isSome_iff_exists.1 there
    refine ⟨_, exec_stationSetRemove h hp hr ha hid, ?_⟩
    have taken : s.ev.remove (field f.payload 0 2) = (s.ev.removeStation (field f.payload 0 2) old, ⟨.ok, []⟩) := by
      simp [Ev.remove, Ev.station?, hold]
    obtain ⟨stations, counters⟩ := s.ev.removeStation_mon (field f.payload 0 2) old
    rw [taken]
    obtain ⟨nodes, links, positions⟩ := State.taken_network (f := f) (r := (_, ⟨.ok, []⟩))
      (s.ev.removeStation_within (field f.payload 0 2) old)
    refine ⟨?_, fun k hk => ?_, ?_, nodes, links, positions⟩
    · rw [State.taken_plant, Ev.settle_mon, stations, tget_terase, if_pos rfl]
    · rw [State.taken_plant, Ev.settle_mon, stations, tget_terase, if_neg hk]
    · rw [State.taken_plant, Ev.settle_mon, counters]
  · have none : s.ev.remove (field f.payload 0 2) = (s.ev, ⟨.notFound, []⟩) := by simp [Ev.remove, Ev.station?, absent]
    rw [exec_stationSetRemove h hp hr ha hid, none]
    rfl

/-! ## STATION_READ and STALENESS_EXPIRY (R71, R72) -/

theorem readRow_of_flag {p : List Byte} (h : 2 < p.length) {clear : Bool} (hf : flagAt p 2 0 = clear) :
    readRow clear p = true := by
  simp only [flagAt, List.getElem?_eq_getElem h, Option.any_some] at hf
  simp [readRow, List.getElem?_eq_getElem h, hf]

theorem exec_stationRead {s : State} {f : Frame} (h : s.handles f 0x0C) (hp : f.payload.length = 3)
    (hf : flagAt f.payload 2 0 = false) :
    exec .stationRead s = .next (s.taken f (s.ev.stationRead (s.req f) false)) :=
  congrArg Host.Outcome.next
    (State.answerEv_taken_lengthFirst h (readRow_of_flag (by omega) hf) (decide_eq_true hp) _)

theorem exec_stationReadClear {s : State} {f : Frame} (h : s.handles f 0x0C) (hp : f.payload.length = 3)
    (hf : flagAt f.payload 2 0 = true) :
    exec .stationReadClear s = .next (s.taken f (s.ev.stationRead (s.req f) true)) :=
  congrArg Host.Outcome.next
    (State.answerEv_taken_lengthFirst h (readRow_of_flag (by omega) hf) (decide_eq_true hp) _)

theorem Ev.stationRead_of_station {e : Ev} {q : Req} {x : Station} (hx : e.station? (field q.payload 0 2) = some x)
    {clear : Bool} (hr : clear = true → q.rights.operate = true) :
    e.stationRead q clear = (if clear then e.modRt (field q.payload 0 2) fun r => { r with lost := false } else e,
      ⟨.ok, x.bytes (field q.payload 0 2)⟩) := by
  have allowed : ¬ (clear && !q.rights.operate) = true := by simpa using hr
  simp only [Ev.stationRead, if_neg allowed, hx]

theorem Ev.stationRead_of_no_right {q : Req} (hr : (!q.rights.operate) = true) (e : Ev) :
    e.stationRead q true = (e, ⟨.noRight, []⟩) := by
  simp only [Ev.stationRead, hr, Bool.and_self, if_true]

/-- Settles O26: the record read before LOST is cleared, and the expiry at its deadline and before it. -/
theorem stationReadAndStaleness : Obligations.StationReadAndStaleness := by
  unfold Obligations.StationReadAndStaleness
  refine ⟨fun s f x h hp hx => ⟨fun hf => ?_, fun hf hr => ?_, fun hf hr => ?_⟩,
    fun s id x d hc hx hd => ⟨fun due => ?_, fun early => ?_⟩⟩
  · rw [exec_stationRead h hp hf, Ev.stationRead_of_station (e := s.ev) (q := s.req f) hx (by simp)]
    rfl
  · rw [exec_stationReadClear h hp hf, Ev.stationRead_of_station (e := s.ev) (q := s.req f) hx fun _ => hr]
    rfl
  · rw [exec_stationReadClear h hp hf, Ev.stationRead_of_no_right (State.refuses hr)]
    rfl
  · have taken : s.ev.stalenessExpiry id = s.ev.goStale id x 0 := by
      have station : s.ev.station? id = some x := hx
      have reached : d ≤ s.ev.now := due
      simp only [Ev.stalenessExpiry, station, hd]
      exact if_pos (by simpa using reached)
    have exec : exec (.stalenessExpiry id) s = .next (s.event fun e => e.stalenessExpiry id) :=
      congrArg Host.Outcome.next (if_neg (by simp [hc]))
    obtain ⟨more, link⟩ := State.event_first (s := s) (f := fun e => e.stalenessExpiry id)
      (taken ▸ s.ev.goStale_out id x 0)
    refine ⟨_, more, exec, ?_, fun k hk => ?_, link⟩
    · simp only [State.event, Ev.settle_mon, taken, Ev.goStale_stations, tget_tmod, if_true]
      simp [hx]
    · simp only [State.event, Ev.settle_mon, taken, Ev.goStale_stations, tget_tmod, if_neg hk]
  · have station : s.ev.station? id = some x := hx
    have before : ¬ d ≤ s.ev.now := Nat.not_le.2 early
    have same : s.ev.stalenessExpiry id = Ev.start s.plant s.link.partTime [] := by
      simp only [Ev.stalenessExpiry, station, hd]
      exact if_neg (by simpa using before)
    exact congrArg Host.Outcome.next ((if_neg (by simp [hc])).trans (State.event_eq s _ same))

/-! ## TELEMETRY (R59 to R62, R81) -/

theorem pathOf_of_le {v : Nat} (h : v ≤ 2) : ∃ path, pathOf v = some path :=
  match v, h with
  | 0, _ => ⟨_, rfl⟩
  | 1, _ => ⟨_, rfl⟩
  | 2, _ => ⟨_, rfl⟩

section Report
variable {s : State} {f : Frame} {path : PathStatus} (h : s.handles f 0x0D) (hl : 4 ≤ f.payload.length)
  (hp : pathOf (field f.payload 2 1) = some path) (hn : field f.payload 3 1 ≤ 4)

include h hl hp hn

theorem exec_telemetry_short (short : f.payload.length ≠ 4 + 4 * field f.payload 3 1) :
    exec .telemetry s = .next (s.taken f s.ev.shortReport) := by
  refine congrArg Host.Outcome.next ((State.answerEv_taken h rfl _).trans (congrArg (s.taken f) ?_))
  rw [Ev.telemetry, State.req_payload, if_neg (Nat.not_lt.2 hl), coded_eq pathOf (by omega) rfl, hp]
  simp only [if_neg (Nat.not_lt.2 hn), if_pos short]

theorem exec_telemetry_unknown (whole : f.payload.length = 4 + 4 * field f.payload 3 1)
    (hx : tget s.plant.mon.stations (field f.payload 0 2) = none) :
    exec .telemetry s
      = .next (s.taken f (s.ev.count fun c => { c with unknown := c.unknown + 1 }, ⟨.notFound, []⟩)) := by
  refine congrArg Host.Outcome.next ((State.answerEv_taken h rfl _).trans (congrArg (s.taken f) ?_))
  rw [Ev.telemetry, State.req_payload, if_neg (Nat.not_lt.2 hl), coded_eq pathOf (by omega) rfl, hp]
  simp only [if_neg (Nat.not_lt.2 hn), if_neg (not_not.2 whole), Ev.station?, hx]

theorem exec_telemetry_taken (whole : f.payload.length = 4 + 4 * field f.payload 3 1) {x : Station}
    (hx : tget s.plant.mon.stations (field f.payload 0 2) = some x) :
    exec .telemetry s = .next (s.taken f (s.ev.takeReport (field f.payload 0 2) x path (samplesOf f.payload))) := by
  refine congrArg Host.Outcome.next ((State.answerEv_taken h rfl _).trans (congrArg (s.taken f) ?_))
  rw [Ev.telemetry, State.req_payload, if_neg (Nat.not_lt.2 hl), coded_eq pathOf (by omega) rfl, hp]
  simp only [if_neg (Nat.not_lt.2 hn), if_neg (not_not.2 whole), Ev.station?, hx]

end Report

/-- A taken report is counted before its path is looked at (R59). -/
def Ev.reported (e : Ev) (id : Nat) : Ev :=
  (e.count fun c => { c with reports := c.reports + 1 }).modRt id fun r => { r with accepted := r.accepted + 1 }

theorem Ev.takeReport_eq {e e' : Ev} {id a d : Nat} {x : Station} {path : PathStatus} {xs : List (Nat × Nat)}
    (h : (e.reported id).report id x path xs = (e', a, d)) {y : Freshness}
    (hy : (e'.station? id).map (·.rt.freshness) = some y) :
    e.takeReport id x path xs = (e', ⟨.ok, be 2 a ++ be 2 d ++ be 1 y.code⟩) := by
  have report : ((e.count fun c => { c with reports := c.reports + 1 }).modRt id fun r =>
    { r with accepted := r.accepted + 1 }).report id x path xs = (e', a, d) := h
  obtain ⟨z, hz, rfl⟩ := Option.map_eq_some_iff.1 hy
  simp only [Ev.takeReport, report, hz]
  rfl

theorem Ev.takeReport_state {e e' : Ev} {id a d : Nat} {x : Station} {path : PathStatus} {xs : List (Nat × Nat)}
    (h : (e.reported id).report id x path xs = (e', a, d)) : (e.takeReport id x path xs).1 = e' :=
  congrArg (·.1) h

theorem tmod_tmod {α : Type} (t : Table α) (n : Nat) (f g : α → α) : tmod (tmod t n f) n g = tmod t n fun x => g (f x) := by
  rw [tmod, tmod, tmod, List.map_map]
  refine List.map_congr_left fun x _ => ?_
  by_cases hx : x.1 = n
  · simp [hx]
  · simp [hx]

theorem Ev.modRt_modRt (e : Ev) (id : Nat) (f g : StationRt → StationRt) :
    (e.modRt id f).modRt id g = e.modRt id fun r => g (f r) := by
  simp only [Ev.modRt, tmod_tmod]

theorem Ev.modRt_station {e : Ev} {id : Nat} {x : Station} (hx : e.station? id = some x) (f : StationRt → StationRt) :
    (e.modRt id f).station? id = some { x with rt := f x.rt } := by
  rw [Ev.modRt_station?, if_pos rfl, hx]
  rfl

theorem Ev.reported_station {e : Ev} {id : Nat} {x : Station} (hx : e.station? id = some x) :
    (e.reported id).station? id = some { x with rt := { x.rt with accepted := x.rt.accepted + 1 } } :=
  Ev.modRt_station (e := e.count _) hx _

theorem samplesOf_one {p : List Byte} (h : field p 3 1 = 1) : samplesOf p = [(field p 4 2, field p 6 2)] := by
  simp [samplesOf, h]

theorem Ev.usedPath_of_discarded {e e' : Ev} {id raw age : Nat} {suspect : Bool}
    (h : e.sample id raw age suspect = (e', .discarded)) (x : Station) :
    e.usedPath id x suspect [(raw, age)] = (e', 0, 1) := by
  simp [Ev.usedPath, Ev.samples, h]

theorem Ev.usedPath_of_accepted {e e' : Ev} {id raw age : Nat} {suspect : Bool}
    (h : e.sample id raw age suspect = (e', .accepted)) (x : Station) :
    e.usedPath id x suspect [(raw, age)]
      = (e'.modRt id fun r => { r with deadline := some (e'.now + x.cfg.interval * x.cfg.multiple) }, 1, 0) := by
  simp [Ev.usedPath, Ev.samples, h]

section Sample
variable {e : Ev} {id raw age : Nat} {suspect : Bool} {x : Station} (hx : e.station? id = some x)

include hx

theorem Ev.sample_outOfOrder {t0 : Nat} (ht : x.rt.lastTime = some t0) (late : e.now - age ≤ t0) :
    e.sample id raw age suspect = (e.count fun c => { c with outOfOrder := c.outOfOrder + 1 }, .discarded) := by
  have old : x.rt.lastTime.any (e.now - age ≤ ·) = true := by
    rw [ht]
    exact decide_eq_true late
  simp only [Ev.sample, hx, if_pos old]

theorem Ev.sample_inOrder (order : ∀ t0, x.rt.lastTime = some t0 → t0 < e.now - age) :
    e.sample id raw age suspect =
      if rawFaulty raw then
        ((e.modRt id fun r => { r with
            lastRaw := raw, freshness := if r.freshness = .fresh then .suspect else r.freshness }).count fun c =>
          { c with faults := c.faults + 1 }, .discarded)
      else (e.pipeline id x raw suspect (e.now - age), .accepted) := by
  have new : ¬ x.rt.lastTime.any (e.now - age ≤ ·) = true := by
    rw [Option.any_eq_true]
    rintro ⟨t0, ht, late⟩
    exact absurd (order t0 ht) (Nat.not_lt.2 (of_decide_eq_true late))
  simp only [Ev.sample, hx, if_neg new]

end Sample

/-- Settles O28: each ground on which a sample is not used, by the path and the screen that finds it. -/
theorem telemetrySampleTurnedAway : Obligations.TelemetrySampleTurnedAway := by
  unfold Obligations.TelemetrySampleTurnedAway
  intro s f h hl
  dsimp only
  refine ⟨fun x hp hn hx => ⟨fun path late => ?_, fun path order faulty => ?_, fun path declines => ?_⟩,
    fun x path hn hp hx => ⟨fun live => ?_, fun stale => ?_⟩, fun path hn hp hx => ?_, fun path hn hp => ?_⟩
  case refine_1 =>
    obtain ⟨t0, ht, late⟩ := late
    have station := Ev.reported_station (e := s.ev) hx
    have report : (s.ev.reported (field f.payload 0 2)).report (field f.payload 0 2) x .ok (samplesOf f.payload)
        = (_, 0, 1) :=
      samplesOf_one hn ▸ Ev.usedPath_of_discarded (Ev.sample_outOfOrder (suspect := false) station ht late) x
    rw [exec_telemetry_taken (path := .ok) h hl (by rw [path]; rfl) (by omega) (by omega) hx,
      Ev.takeReport_eq report (congrArg (Option.map fun y => y.rt.freshness) station)]
    rfl
  case refine_2 =>
    have screened : rawFaulty (field f.payload 4 2) = true := by simpa [rawFaulty] using faulty
    have report : (s.ev.reported (field f.payload 0 2)).report (field f.payload 0 2) x .ok (samplesOf f.payload)
        = (_, 0, 1) :=
      samplesOf_one hn ▸ Ev.usedPath_of_discarded ((Ev.sample_inOrder (suspect := false)
        (Ev.reported_station (e := s.ev) hx) order).trans (if_pos screened)) x
    refine ⟨_, exec_telemetry_taken (path := .ok) h hl (by rw [path]; rfl) (by omega) (by omega) hx, ?_⟩
    simp only [State.taken_plant, Ev.takeReport_state report]
    simp [Ev.reported, tget_tmod, hx]
  case refine_3 =>
    have report : (s.ev.reported (field f.payload 0 2)).report (field f.payload 0 2) x .degraded (samplesOf f.payload)
        = (_, 0, _) := if_neg (by simp [declines])
    refine ⟨_, exec_telemetry_taken (path := .degraded) h hl (by rw [path]; rfl) (by omega) (by omega) hx, ?_⟩
    simp only [State.taken_plant, Ev.takeReport_state report]
    simp [Ev.reported, tget_tmod, hx, samplesOf_one hn]
  case refine_4 =>
    have report : (s.ev.reported (field f.payload 0 2)).report (field f.payload 0 2) x .relayLost (samplesOf f.payload)
        = (_, 0, 0) := if_neg live
    have station := Ev.goStale_station (Ev.reported_station (e := s.ev) hx) x 1
    have first := (s.ev.reported (field f.payload 0 2)).goStale_out (field f.payload 0 2) x 1
    obtain ⟨more, link⟩ := State.taken_first (s := s) (f := f)
      (r := ((s.ev.reported (field f.payload 0 2)).goStale (field f.payload 0 2) x 1, _)) first
    refine ⟨_, more, ?_, ?_, fun k hk => ?_, ?_, link⟩
    · rw [exec_telemetry_taken (path := .relayLost) h hl (by rw [path]; rfl) hn hp hx, Ev.takeReport_eq report
        (congrArg (Option.map fun y => y.rt.freshness) station)]
      rfl
    · simp [Ev.reported, tget_tmod, hx]
    · simp [Ev.reported, tget_tmod, hk]
    · simp [Ev.reported]
  case refine_5 =>
    have report : (s.ev.reported (field f.payload 0 2)).report (field f.payload 0 2) x .relayLost (samplesOf f.payload)
        = (_, 0, 0) := if_pos stale
    have station := Ev.modRt_station (Ev.reported_station (e := s.ev) hx) fun r => { r with lost := true, deadline := none }
    rw [exec_telemetry_taken (path := .relayLost) h hl (by rw [path]; rfl) hn hp hx, Ev.takeReport_eq (y := .stale) report
      ((congrArg (Option.map fun y => y.rt.freshness) station).trans (congrArg some stale))]
    rw [Ev.reported, Ev.modRt_modRt]
    rfl
  case refine_6 =>
    obtain ⟨p, known⟩ := pathOf_of_le path
    rw [exec_telemetry_unknown h hl known hn hp hx]
    rfl
  case refine_7 =>
    obtain ⟨p, known⟩ := pathOf_of_le path
    rw [exec_telemetry_short h hl known hn hp]
    rfl

end Sys2Proof.Machine
end

section
/-! Requests on one record: isolations by slot and serial (R112, R134, R135), outage records and weights (R179, R190),
incidents (R99 to R102), orders (R145 to R147): O33, O38, O43, O44, O52. -/

namespace Sys2Proof.Machine

-- One theorem after another: theorems checked side by side each hold a thread and its stack.
set_option Elab.async false

/-! ## The isolation a request names (R112) -/

/-- A request on an isolation that asks for a right first: refused without it, else the isolation is looked up. -/
def State.onNamed (s : State) (f : Frame) (right : Option Right) (act : Nat → Isolation → Ev × Reply) : Ev × Reply :=
  if right.any fun r => !(s.req f).rights.has r then (s.ev, ⟨.noRight, []⟩) else s.ev.onNamed f.payload act

theorem State.onNamed_refused {s : State} {f : Frame} {r : Right} (h : ¬ s.allows f r)
    (act : Nat → Isolation → Ev × Reply) : s.onNamed f (some r) act = (s.ev, ⟨.noRight, []⟩) :=
  if_pos (State.refuses h)

theorem State.onNamed_allowed {s : State} {f : Frame} {right : Option Right} (h : ∀ r, right = some r → s.allows f r)
    (act : Nat → Isolation → Ev × Reply) : s.onNamed f right act = s.ev.onNamed f.payload act := by
  refine if_neg fun refused => ?_
  obtain ⟨r, rfl, no⟩ := (Option.any_eq_true _ _).1 refused
  exact State.grants (h r rfl) no

theorem Ev.onNamed_of_slot {p : List Byte} (h : 31 < field p 0 1) (e : Ev) (act : Nat → Isolation → Ev × Reply) :
    e.onNamed p act = (e, ⟨.badValue, []⟩) := if_pos h

theorem Ev.onNamed_of_absent {e : Ev} {p : List Byte} (hs : field p 0 1 ≤ 31)
    (h : ∀ i, e.iso? (field p 0 1) = some i → i.serial ≠ field p 1 2) (act : Nat → Isolation → Ev × Reply) :
    e.onNamed p act = (e, ⟨.notFound, []⟩) := by
  have none : e.named? (isoRefAt p) = none := by
    unfold Ev.named?
    split
    · next i hi => exact if_neg (h i hi)
    · rfl
  rw [Ev.onNamed, if_neg (show ¬ 31 < (isoRefAt p).slot from Nat.not_lt.2 hs), none]

theorem Ev.onNamed_of_found {e : Ev} {p : List Byte} (hs : field p 0 1 ≤ 31) {i : Isolation}
    (hi : e.iso? (field p 0 1) = some i) (hser : i.serial = field p 1 2) (act : Nat → Isolation → Ev × Reply) :
    e.onNamed p act = act (field p 0 1) i := by
  have named : e.named? (isoRefAt p) = some i := by
    simp [Ev.named?, isoRefAt, hi, hser]
  rw [Ev.onNamed, if_neg (show ¬ 31 < (isoRefAt p).slot from Nat.not_lt.2 hs), named]
  rfl

section Named
variable {s : State} {f : Frame}

theorem exec_authorise (h : s.handles f 0x11) (hp : f.payload.length = 3) :
    exec .authorise s
      = .next (s.taken f (s.onNamed f (some .authorise) fun slot i => s.ev.authoriseNamed f.origin slot i)) := by
  refine congrArg Host.Outcome.next ((State.answerEv_taken h rfl _).trans (congrArg (s.taken f) ?_))
  have length : ¬ (!refLengthOk f.payload) = true := by simp [refLengthOk, hp]
  exact congrArg (ite _ _) (if_neg length)

theorem exec_cancel (h : s.handles f 0x12) (hp : f.payload.length = 3) :
    exec .cancel s = .next (s.taken f (s.onNamed f (some .operate) s.ev.cancelNamed)) :=
  congrArg Host.Outcome.next (State.answerEv_taken_lengthFirst h rfl (decide_eq_true hp) _)

theorem exec_accept (h : s.handles f 0x13) (hp : f.payload.length = 3) :
    exec .accept s = .next (s.taken f (s.onNamed f (some .authorise) s.ev.acceptNamed)) :=
  congrArg Host.Outcome.next (State.answerEv_taken_lengthFirst h rfl (decide_eq_true hp) _)

theorem exec_isolationRelease (h : s.handles f 0x14) (hp : f.payload.length = 3) :
    exec .isolationRelease s = .next (s.taken f (s.onNamed f (some .operate) s.ev.releaseNamed)) :=
  congrArg Host.Outcome.next (State.answerEv_taken_lengthFirst h rfl (decide_eq_true hp) _)

theorem exec_isolationRead (h : s.handles f 0x15) (hp : f.payload.length = 6) :
    exec .isolationRead s = .next (s.taken f (s.onNamed f none fun _ i => (s.ev, readPart i f.payload))) :=
  congrArg Host.Outcome.next (State.answerEv_taken_lengthFirst h rfl (decide_eq_true hp) _)

theorem exec_restore (h : s.handles f 0x17) (hp : f.payload.length = 15) :
    exec .restore s = .next (s.taken f (s.onNamed f (some .operate) (s.ev.restoreNamed f.payload))) := by
  refine congrArg Host.Outcome.next ((State.answerEv_taken h rfl _).trans (congrArg (s.taken f) ?_))
  exact congrArg (ite _ _) (if_neg (not_not.2 hp))

theorem exec_rampResume (h : s.handles f 0x18) (hp : f.payload.length = 3) :
    exec .rampResume s = .next (s.taken f (s.onNamed f (some .operate) s.ev.resumeNamed)) :=
  congrArg Host.Outcome.next (State.answerEv_taken_lengthFirst h rfl (decide_eq_true hp) _)

theorem exec_reclose (h : s.handles f 0x19) (hp : f.payload.length = 3) :
    exec .reclose s = .next (s.taken f (s.onNamed f (some .operate) s.ev.recloseNamed)) :=
  congrArg Host.Outcome.next (State.answerEv_taken_lengthFirst h rfl (decide_eq_true hp) _)

theorem exec_closeOut (h : s.handles f 0x1B) (hp : f.payload.length = 3) :
    exec .closeOut s = .next (s.taken f (s.onNamed f (some .authorise) s.ev.closeOutNamed)) :=
  congrArg Host.Outcome.next (State.answerEv_taken_lengthFirst h rfl (decide_eq_true hp) _)

end Named

/-- Settles O38: each of the nine requests looks its isolation up after its right. -/
theorem isolationNamedBySlotAndSerial : Obligations.IsolationNamedBySlotAndSerial := by
  unfold Obligations.IsolationNamedBySlotAndSerial
  intro s f c kind len right mem h hp
  have named : ∃ act, exec c s = .next (s.taken f (s.onNamed f right act)) := by
    simp only [List.mem_cons, Prod.mk.injEq, List.not_mem_nil, or_false] at mem
    obtain ⟨rfl, rfl, rfl, rfl⟩ | ⟨rfl, rfl, rfl, rfl⟩ | ⟨rfl, rfl, rfl, rfl⟩ | ⟨rfl, rfl, rfl, rfl⟩ | ⟨rfl, rfl, rfl, rfl⟩
      | ⟨rfl, rfl, rfl, rfl⟩ | ⟨rfl, rfl, rfl, rfl⟩ | ⟨rfl, rfl, rfl, rfl⟩ | ⟨rfl, rfl, rfl, rfl⟩ := mem
    · exact ⟨_, exec_authorise h hp⟩
    · exact ⟨_, exec_cancel h hp⟩
    · exact ⟨_, exec_accept h hp⟩
    · exact ⟨_, exec_isolationRelease h hp⟩
    · exact ⟨_, exec_isolationRead h hp⟩
    · exact ⟨_, exec_restore h hp⟩
    · exact ⟨_, exec_rampResume h hp⟩
    · exact ⟨_, exec_reclose h hp⟩
    · exact ⟨_, exec_closeOut h hp⟩
  obtain ⟨act, run⟩ := named
  rw [run]
  refine ⟨fun r hr no => ?_, fun allowed => ⟨fun slot => ?_, fun slot absent => ?_⟩⟩
  · subst hr
    rw [State.onNamed_refused no]
    rfl
  · rw [State.onNamed_allowed allowed, Ev.onNamed_of_slot slot]
    rfl
  · rw [State.onNamed_allowed allowed, Ev.onNamed_of_absent (e := s.ev) slot absent]
    rfl

theorem State.onNamed_found {s : State} {f : Frame} {right : Option Right} (hr : ∀ r, right = some r → s.allows f r)
    (hs : field f.payload 0 1 ≤ 31) {i : Isolation} (hi : tget s.plant.ctl.isos (field f.payload 0 1) = some i)
    (hser : i.serial = field f.payload 1 2) (act : Nat → Isolation → Ev × Reply) :
    s.onNamed f right act = act (field f.payload 0 1) i :=
  (State.onNamed_allowed hr act).trans (Ev.onNamed_of_found (e := s.ev) hs hi hser act)

/-! ## ISOLATION_RELEASE and ISOLATION_READ (R134, R135) -/

theorem IsoState.terminal_iff (x : IsoState) : x.terminal = true ↔ x = .ended ∨ x = .failed ∨ x = .cancelled := by
  cases x <;> simp [IsoState.terminal]

/-- Entries that all fit are all written; otherwise the first `k` are. -/
theorem exists_fitting (xs : List (List Byte)) (room : Nat) :
    ∃ k, fitting room xs = xs.take k ∧ (xs.flatten.length ≤ room → xs.length ≤ k) := by
  obtain ⟨k, hk, eq, _, last⟩ := fitting_eq_take xs room
  refine ⟨k, eq, fun fits => ?_⟩
  obtain all | ⟨less, exceeds⟩ := last
  · omega
  · have part : ((xs.take (k + 1)).map List.length).sum ≤ (xs.map List.length).sum := by
      conv_rhs => rw [← List.take_append_drop (k + 1) xs, List.map_append, List.sum_append]
      exact Nat.le_add_right _ _
    rw [List.length_flatten] at fits
    omega

/-- Settles O43: what the slot is after a release, and the entries that fit in a part's reply. -/
theorem isolationReleasedAndRead : Obligations.IsolationReleasedAndRead := by
  unfold Obligations.IsolationReleasedAndRead
  refine ⟨fun s f h hp no => ?_, fun s f i h hp hr hs hi hser => ⟨fun ended => ?_, fun running => ?_⟩,
    fun s f i xs h hp hs hi hser hx => ?_⟩
  · rw [exec_isolationRelease h hp, State.onNamed_refused no]
    rfl
  · rw [exec_isolationRelease h hp, State.onNamed_found (by simpa using hr) hs hi hser, Ev.releaseNamed,
      if_pos ((IsoState.terminal_iff _).2 ended)]
    rfl
  · rw [exec_isolationRelease h hp, State.onNamed_found (by simpa using hr) hs hi hser, Ev.releaseNamed,
      if_neg (mt (IsoState.terminal_iff _).1 running)]
    rfl
  · obtain ⟨k, fits, whole⟩ := exists_fitting (xs.drop (field f.payload 4 2)) 1013
    refine ⟨k, ?_, fun short => ?_⟩
    · have reply : readPart i f.payload
          = ⟨.ok, be 2 xs.length ++ ((xs.drop (field f.payload 4 2)).take k).flatten⟩ := by
        simp only [readPart, hx]
        rw [← fits]
        rfl
      rw [exec_isolationRead h hp, State.onNamed_found (right := none) (by simp) hs hi hser, reply]
      rfl
    · have all := whole short
      rw [List.length_drop] at all
      omega

/-! ## OUTAGE_RELEASE and WEIGHTS_SET (R179, R190) -/

theorem exec_outageRelease {s : State} {f : Frame} (h : s.handles f 0x1C) (hp : f.payload.length = 2)
    (hr : s.allows f .operate) :
    exec .outageRelease s = .next (s.taken f (s.ev.releaseRecord (field f.payload 0 2))) :=
  congrArg Host.Outcome.next ((State.answerEv_taken h rfl _).trans (congrArg (s.taken f)
    ((if_neg (State.grants hr)).trans (if_neg (not_not.2 hp)))))

theorem Ev.releaseRecord_of_range {e : Ev} {k : Nat} (h : k = 0 ∨ 63 < k) :
    e.releaseRecord k = (e, ⟨.badValue, []⟩) := if_pos (by simpa [Nat.lt_iff_add_one_le] using h)

theorem Ev.releaseRecord_of_absent {e : Ev} {k : Nat} (h1 : 1 ≤ k) (h63 : k ≤ 63) (absent : e.record? k = none) :
    e.releaseRecord k = (e, ⟨.notFound, []⟩) := by
  have range : ¬ (k = 0 || Config.outageSlots ≤ k) = true := by simp [Config.outageSlots]; omega
  rw [Ev.releaseRecord, if_neg range, absent]

theorem Ev.releaseRecord_of_found {e : Ev} {k : Nat} (h1 : 1 ≤ k) (h63 : k ≤ 63) {o : Outage} (ho : e.record? k = some o) :
    e.releaseRecord k = if o.state = .opened then (e, ⟨.wrongState, []⟩)
      else (Ev.forgetRecord { e with p.led.records := terase e.p.led.records k } o.iso, okReply) := by
  have range : ¬ (k = 0 || Config.outageSlots ≤ k) = true := by simp [Config.outageSlots]; omega
  rw [Ev.releaseRecord, if_neg range, ho]

theorem exec_weightsSet {s : State} {f : Frame} (h : s.handles f 0x1D) (hp : f.payload.length = 6)
    (hr : s.allows f .supervise) (h0 : field f.payload 0 2 ≤ 255) (h2 : field f.payload 2 2 ≤ 255)
    (h4 : field f.payload 4 2 ≤ 255) :
    exec .weightsSet s = .next (s.taken f
      (if s.plant.weightsLocked then (s.ev, ⟨.locked, beCounts 4 (totalPending s.plant.net.pipes)⟩)
      else ({ s.ev with p.led.weights := ⟨field f.payload 0 2, field f.payload 2 2, field f.payload 4 2⟩ }, okReply))) := by
  have range : ¬ (255 < field f.payload 0 2 || 255 < field f.payload 2 2 || 255 < field f.payload 4 2) = true := by
    simp; omega
  exact congrArg Host.Outcome.next ((State.answerEv_taken h rfl _).trans (congrArg (s.taken f)
    ((if_neg (State.grants hr)).trans ((if_neg (not_not.2 hp)).trans (if_neg range)))))

theorem Plant.weightsLocked_iff (p : Plant) : p.weightsLocked = true ↔ ∃ x ∈ p.net.pipes, x.2.pending ≠ ⟨0, 0, 0⟩ := by
  simp [Plant.weightsLocked, ← Counts.isZero_iff]

/-- Settles O52: the checks of the two requests, then the record gone, or the weights. -/
theorem recordReleaseAndWeights : Obligations.RecordReleaseAndWeights := by
  unfold Obligations.RecordReleaseAndWeights
  refine ⟨fun s f h hp hr => ⟨fun range => ?_, fun h1 h63 absent => ?_, fun o h1 h63 ho opened => ?_,
    fun o r h1 h63 ho closed iso => ?_⟩, fun s f h hp hr h0 h2 h4 => ⟨fun free => ?_, fun pending => ?_⟩⟩
  · rw [exec_outageRelease h hp hr, Ev.releaseRecord_of_range range]
    rfl
  · rw [exec_outageRelease h hp hr, Ev.releaseRecord_of_absent (e := s.ev) h1 h63 absent]
    rfl
  · rw [exec_outageRelease h hp hr, Ev.releaseRecord_of_found (e := s.ev) h1 h63 ho, if_pos opened]
    rfl
  · rw [exec_outageRelease h hp hr, Ev.releaseRecord_of_found (e := s.ev) h1 h63 ho, if_neg (by simp [closed]), iso]
    rfl
  · have unlocked : ¬ s.plant.weightsLocked = true := by
      rw [Plant.weightsLocked_iff]
      rintro ⟨x, mem, pending⟩
      exact pending (free x mem)
    rw [exec_weightsSet h hp hr h0 h2 h4, if_neg unlocked]
    rfl
  · rw [exec_weightsSet h hp hr h0 h2 h4, if_pos ((Plant.weightsLocked_iff _).2 pending)]
    rfl

/-! ## INCIDENT_UPDATE and INCIDENT_DEADLINE_EXPIRY (R99 to R102) -/

theorem State.event_start {s : State} {f : Ev → Ev} {p : Plant} {ns : List Notice}
    (h : f s.ev = Ev.start p s.link.partTime ns) : s.event f = s.after p ns := State.event_eq s f h

/-- INCIDENT_UPDATE to a state, from the lookup of the incident on (R99, R100). -/
def Ev.updateTo (e : Ev) (id : Nat) (st : IncidentState) : Ev × Reply :=
  match e.p.reg.byId id with
  | none => (e, ⟨.notFound, []⟩)
  | some (slot, i) =>
    if st.rank ≤ i.state.rank then (e, ⟨.wrongState, []⟩)
    else
      let e := e.modIncident slot fun i =>
        { i with state := st, lastState := e.now, iso := if st = .cleared then none else i.iso }
      (if st = .cleared then e.unlinkIso i.iso i.id else e, ⟨.ok, be 1 st.code ++ beFlag i.overdue⟩)

theorem exec_incidentUpdate {s : State} {f : Frame} {st : IncidentState} (h : s.handles f 0x0F) (hp : f.payload.length = 3)
    (hr : s.allows f .operate) (hst : incidentStateOf (field f.payload 2 1) = some st) (ho : st ≠ .opened) :
    exec .incidentUpdate s = .next (s.taken f (s.ev.updateTo (field f.payload 0 2) st)) := by
  refine congrArg Host.Outcome.next ((State.answerEv_taken h rfl _).trans (congrArg (s.taken f)
    ((if_neg (not_not.2 hp)).trans ((if_neg (State.grants hr)).trans ?_))))
  rw [State.req_payload, coded_eq incidentStateOf (by omega) rfl, hst]
  cases st with
  | opened => exact absurd rfl ho
  | dispatched => rfl
  | onSite => rfl
  | madeSafe => rfl
  | cleared => rfl

theorem Ev.updateTo_of_later {e : Ev} {id slot : Nat} {i : Incident} (hi : e.p.reg.byId id = some (slot, i))
    {st : IncidentState} (later : i.state.code < st.code) :
    e.updateTo id st = (if st = .cleared then (e.modIncident slot fun i =>
        { i with state := st, lastState := e.now, iso := if st = .cleared then none else i.iso }).unlinkIso i.iso i.id
      else e.modIncident slot fun i =>
        { i with state := st, lastState := e.now, iso := if st = .cleared then none else i.iso },
      ⟨.ok, be 1 st.code ++ beFlag i.overdue⟩) := by
  simp only [Ev.updateTo, hi]
  exact if_neg (Nat.not_le.2 later)

theorem exec_incidentDeadlineExpiry {s : State} {id slot : Nat} {i : Incident} (hc : s.link.clockEnded = false)
    (hi : s.plant.reg.byId id = some (slot, i)) {p : Plant} {ns : List Notice}
    (h : (if i.timed && i.deadline ≤ s.link.partTime then
        (s.ev.modIncident slot fun i => { i with overdue := true }).note .incidentOverdue i.id
          (be 1 i.kind.code ++ be 1 i.grade ++ be 1 i.state.code ++ be 4 i.deadline)
      else s.ev) = Ev.start p s.link.partTime ns) :
    exec (.incidentDeadlineExpiry id) s = .next (s.after p ns) := by
  refine congrArg Host.Outcome.next ((if_neg (by simp [hc])).trans (State.event_start ?_))
  simp only [Ev.deadlineExpiry, hi]
  exact h

/-- Settles O33: a later state is written, on both sides of a link that CLEARED removes; the deadline while it is timed. -/
theorem incidentProgress : Obligations.IncidentProgress := by
  unfold Obligations.IncidentProgress
  refine ⟨fun s f st h hp hr hst ho => ⟨fun slot i hi later alone => ?_, fun slot i r hi later cleared iso => ?_,
    fun slot i hi early => ?_, fun absent => ?_⟩, fun s id slot i hc hi => ⟨fun state fresh due => ?_, fun not => ?_⟩⟩
  · rw [exec_incidentUpdate h hp hr hst ho, Ev.updateTo_of_later (e := s.ev) hi later]
    obtain stays | unlinked := alone
    · rw [if_neg stays]
      rfl
    · rw [unlinked]
      by_cases cleared : st = .cleared
      · rw [if_pos cleared]
        rfl
      · rw [if_neg cleared]
        rfl
  · rw [exec_incidentUpdate h hp hr hst ho, Ev.updateTo_of_later (e := s.ev) hi later, if_pos cleared, iso]
    rfl
  · have same : s.ev.updateTo (field f.payload 0 2) st = (s.ev, ⟨.wrongState, []⟩) := by
      simp only [Ev.updateTo, hi]
      exact if_pos early
    rw [exec_incidentUpdate h hp hr hst ho, same]
    rfl
  · have same : s.ev.updateTo (field f.payload 0 2) st = (s.ev, ⟨.notFound, []⟩) := by simp only [Ev.updateTo, absent]
    rw [exec_incidentUpdate h hp hr hst ho, same]
    rfl
  · exact exec_incidentDeadlineExpiry hc hi (if_pos (by simp [Incident.timed, state, fresh, due]))
  · refine exec_incidentDeadlineExpiry hc hi (if_neg fun timed => ?_)
    simp only [Incident.timed, Bool.and_eq_true, Bool.or_eq_true, decide_eq_true_eq, Bool.not_eq_true'] at timed
    obtain ⟨⟨state, fresh⟩, due⟩ := timed
    obtain ⟨opened, dispatched⟩ | overdue | early := not
    · exact state.elim opened dispatched
    · exact Bool.noConfusion (fresh.symm.trans overdue)
    · omega

/-! ## VALVE_REPORT and ORDER_OVERDUE (R145 to R147) -/

section ValveReport
variable {s : State} {f : Frame}

theorem Ev.valveReport_taken {e : Ev} {q : Req} {n : Nat} (hr : ¬ (!q.rights.operate) = true)
    (hf : field q.payload 0 1 = n) (hn : n ≤ 3) (hp : q.payload.length = if n = 3 then 4 else 3) (ha : e.active = true)
    (taken : Ev × Reply) : e.valveReport q taken = taken := by
  obtain ⟨b, hb, value⟩ := getElem?_of_field (p := q.payload) (off := 0) (by split at hp <;> omega) hf
  have length : ¬ (!reportLengthOk q.payload) = true := by simp [reportLengthOk, hp, hf]
  rw [Ev.valveReport, if_neg hr, hb]
  simp only [value, if_neg (Nat.not_lt.2 hn), if_neg length, ha]
  rfl

variable (h : s.handles f 0x16) (hr : s.allows f .operate) (ha : s.plant.net.state = .active)

include h hr ha

/-- A form that names an order, of an order there is. -/
theorem exec_orderReport {n : Nat} {act : Ev → Nat → Order → Ev × Reply} (hn : n < 3) (hf : field f.payload 0 1 = n)
    (hp : f.payload.length = 3) {o : Order} (ho : tget s.plant.ctl.orders (field f.payload 1 2) = some o) :
    s.answerEv 0x16 (reportRow n) (fun q e => e.orderReport q (act e)) = s.taken f (act s.ev (field f.payload 1 2) o) := by
  refine (State.answerEv_taken h (selects_own _ (by omega) hf) _).trans (congrArg (s.taken f) ?_)
  refine (Ev.valveReport_taken (State.grants hr) hf (by omega) (by rw [if_neg (by omega)]; exact hp)
    (by simp [Ev.active, ha]) _).trans ?_
  simp only [Ev.order?, State.req_payload, ho]

/-- A form that names an order, of an order there is not. -/
theorem exec_orderReport_absent {n : Nat} {act : Ev → Nat → Order → Ev × Reply} (hn : n < 3) (hf : field f.payload 0 1 = n)
    (hp : f.payload.length = 3) (ho : tget s.plant.ctl.orders (field f.payload 1 2) = none) :
    s.answerEv 0x16 (reportRow n) (fun q e => e.orderReport q (act e)) = s.taken f (s.ev, ⟨.notFound, []⟩) := by
  refine (State.answerEv_taken h (selects_own _ (by omega) hf) _).trans (congrArg (s.taken f) ?_)
  refine (Ev.valveReport_taken (State.grants hr) hf (by omega) (by rw [if_neg (by omega)]; exact hp)
    (by simp [Ev.active, ha]) _).trans ?_
  simp only [Ev.order?, State.req_payload, ho]

end ValveReport

/-- The values of a reply on an order of a valve or regulator there is (R146). -/
theorem orderReply_eq {e : Ev} {link : Nat} {l : Link} {op : Operability} {c : ControlRt} (hl : e.link? link = some l)
    (hop : l.operability? = some op) (hc : e.control? link = some c) (code : Status) (id : Nat) (st : OrderState) :
    orderReply e code id st link = ⟨code, be 2 id ++ be 1 st.code ++ be 2 link ++ be 1 c.position.code
      ++ be 1 op.code ++ be 4 e.p.net.generation⟩ := by
  simp [orderReply, hl, hc, hop, beOpt]

/-- Settles O44: each state of the order has one outcome of ACCEPT, and the overdue timer runs in ISSUED alone. -/
theorem orderAcceptedOrOverdue : Obligations.OrderAcceptedOrOverdue := by
  unfold Obligations.OrderAcceptedOrOverdue
  refine ⟨fun s f h hp hf hr ha => ⟨fun o l c op ho issued hl hop hc => ?_, fun o ho other => ?_,
    fun o l c op x ho withdrawn cause hl hop hc => ?_, fun absent => ?_⟩,
    fun s id o hc ho => ⟨fun issued fresh due => ?_, fun not => ?_⟩⟩
  · have taken : s.ev.reportAccept (field f.payload 1 2) o
        = (s.ev.modOrder (field f.payload 1 2) fun o => { o with state := .accepted, acceptTime := some s.link.partTime },
          orderReply s.ev .ok (field f.payload 1 2) .accepted o.link) := by
      simp only [Ev.reportAccept, issued]
      rfl
    refine congrArg Host.Outcome.next ((exec_orderReport h hr ha (by omega) hf hp ho).trans ?_)
    rw [taken, orderReply_eq (e := s.ev) hl hop hc]
    rfl
  · have refused : s.ev.reportAccept (field f.payload 1 2) o = (s.ev, ⟨.wrongState, []⟩) := by
      obtain accepted | done | failed := other
      · simp only [Ev.reportAccept, accepted]
      · simp only [Ev.reportAccept, done]
      · simp only [Ev.reportAccept, failed]
    refine congrArg Host.Outcome.next ((exec_orderReport h hr ha (by omega) hf hp ho).trans ?_)
    rw [refused]
    rfl
  · have late : s.ev.reportAccept (field f.payload 1 2) o
        = (s.ev, ⟨.late, (orderReply s.ev .late (field f.payload 1 2) .withdrawn o.link).body ++ be 1 x.code⟩) := by
      simp only [Ev.reportAccept, withdrawn, cause]
      rfl
    refine congrArg Host.Outcome.next ((exec_orderReport h hr ha (by omega) hf hp ho).trans ?_)
    rw [late, orderReply_eq (e := s.ev) hl hop hc]
    rfl
  · exact congrArg Host.Outcome.next (exec_orderReport_absent h hr ha (by omega) hf hp absent)
  · have order : s.ev.order? id = some o := ho
    have reached : (o.state = .issued && !o.overdue && o.expiry ≤ s.ev.now) = true := by simp [issued, fresh, due]
    refine congrArg Host.Outcome.next ((if_neg (by simp [hc])).trans (State.event_start ?_))
    simp only [Ev.orderOverdue, order]
    exact if_pos reached
  · have same : s.ev.orderOverdue id = Ev.start s.plant s.link.partTime [] := by
      have order : s.ev.order? id = some o := ho
      have before : ¬ (o.state = .issued && !o.overdue && o.expiry ≤ s.ev.now) = true := by
        simp only [Bool.and_eq_true, decide_eq_true_eq, Bool.not_eq_true']
        rintro ⟨⟨issued, fresh⟩, due⟩
        obtain other | overdue | early := not
        · exact other issued
        · exact Bool.noConfusion (fresh.symm.trans overdue)
        · exact Nat.not_lt.2 due early
      simp only [Ev.orderOverdue, order]
      exact if_neg before
    exact congrArg Host.Outcome.next ((if_neg (by simp [hc])).trans (State.event_start same))

end Sys2Proof.Machine
end

section
/-! The flood (R38, R43): it reaches what gas reaches. O37. -/

namespace Sys2Proof.Machine

-- One theorem after another: theorems checked side by side each hold a thread and its stack.
set_option Elab.async false

/-! ## One edge -/

theorem Edge.far_eq_some_iff (x : Edge) (a b : Nat) : x.far a = some b ↔ x.carries a b := by
  obtain ⟨id, kind, endA, endB, isOpen⟩ := x
  cases kind with
  | pipe => grind [Edge.far, Edge.carries]
  | valve => grind [Edge.far, Edge.carries]
  | regulator => simp [Edge.far, Edge.carries, and_assoc]

theorem FloodView.mem_next (v : FloodView) (a b : Nat) : b ∈ v.next a ↔ ∃ x ∈ v.edges, x.carries a b := by
  simp only [FloodView.next, List.mem_filterMap, Edge.far_eq_some_iff]

/-- The nodes a flood can come to: the sources and the ends of the links. -/
def FloodView.nodes (v : FloodView) : List Nat := v.sources ++ v.edges.flatMap fun x => [x.endA, x.endB]

theorem Edge.far_mem_ends {x : Edge} {a b : Nat} (h : x.carries a b) : b = x.endA ∨ b = x.endB := by
  obtain ⟨_, ⟨_, h⟩ | ⟨h, _⟩⟩ | ⟨_, _, _, h⟩ := h
  · exact .inr h.symm
  · exact .inl h.symm
  · exact .inr h.symm

theorem FloodView.next_mem_nodes {v : FloodView} {a b : Nat} (h : b ∈ v.next a) : b ∈ v.nodes := by
  obtain ⟨x, mem, carries⟩ := (v.mem_next a b).1 h
  exact List.mem_append_right _ (List.mem_flatMap.2 ⟨x, mem, by simpa using Edge.far_mem_ends carries⟩)

theorem FloodView.nodes_length (v : FloodView) : v.nodes.length = v.sources.length + 2 * v.edges.length := by
  simp [FloodView.nodes, List.length_flatMap]
  omega

/-! ## The flood over any step -/

theorem mem_fresh {reached ns : List Nat} {n : Nat} : n ∈ fresh reached ns ↔ n ∈ ns ∧ n ∉ reached := by
  simp [fresh]

/-- A flood adds what it reaches to what was reached, in steps, and stops only at a set that no step leaves: each node of
`bound` is left at most once. -/
theorem flood_spec (next : Nat → List Nat) (bound : List Nat) (inside : ∀ n, ∀ m ∈ next n, m ∈ bound) (fuel : Nat)
    (todo reached : List Nat) (nodup : reached.Nodup) (known : reached ⊆ bound)
    (waiting : todo ⊆ reached)
    (left : ∀ n ∈ reached, n ∉ todo → ∀ m ∈ next n, m ∈ reached)
    (enough : bound.length + todo.length ≤ fuel + reached.length) :
    reached ⊆ flood next fuel todo reached
      ∧ (∀ n ∈ flood next fuel todo reached, ∀ m ∈ next n, m ∈ flood next fuel todo reached)
      ∧ ∀ n ∈ flood next fuel todo reached, ∃ src ∈ reached, Relation.ReflTransGen (fun a b => b ∈ next a) src n := by
  have count : reached.length ≤ bound.length := (nodup.subperm known).length_le
  induction fuel generalizing todo reached with
  | zero =>
    have done : todo = [] := List.eq_nil_of_length_eq_zero (by omega)
    subst done
    exact ⟨List.Subset.refl _, fun n hn => left n hn (List.not_mem_nil), fun n hn => ⟨n, hn, .refl⟩⟩
  | succ fuel ih =>
    match todo with
    | [] => exact ⟨List.Subset.refl _, fun n hn => left n hn (List.not_mem_nil), fun n hn => ⟨n, hn, .refl⟩⟩
    | a :: todo =>
      have nodup' : (reached ++ fresh reached (next a)).Nodup :=
        nodup.append (List.nodup_dedup _) fun x hx new => (mem_fresh.1 new).2 hx
      have known' : reached ++ fresh reached (next a) ⊆ bound := by
        intro x hx
        obtain old | new := List.mem_append.1 hx
        · exact known old
        · exact inside a x (mem_fresh.1 new).1
      have left' : ∀ n ∈ reached ++ fresh reached (next a), n ∉ todo ++ fresh reached (next a) →
          ∀ m ∈ next n, m ∈ reached ++ fresh reached (next a) := by
        intro n hn out m hm
        rw [List.mem_append, not_or] at out
        have old : n ∈ reached := (List.mem_append.1 hn).resolve_right out.2
        by_cases here : n = a
        · subst here
          by_cases seen : m ∈ reached
          · exact List.mem_append_left _ seen
          · exact List.mem_append_right _ (mem_fresh.2 ⟨hm, seen⟩)
        · exact List.mem_append_left _ (left n old (by simp [here, out.1]) m hm)
      have waiting' : todo ++ fresh reached (next a) ⊆ reached ++ fresh reached (next a) :=
        List.append_subset.2 ⟨fun x hx => List.mem_append_left _ (waiting (List.mem_cons_of_mem _ hx)),
          List.subset_append_right _ _⟩
      obtain ⟨more, closed, sound⟩ := ih (todo ++ fresh reached (next a)) (reached ++ fresh reached (next a))
        nodup' known' waiting' left' (by simp only [List.length_append, List.length_cons] at enough ⊢; omega)
        (nodup'.subperm known').length_le
      refine ⟨List.Subset.trans (List.subset_append_left _ _) more, closed, fun n hn => ?_⟩
      obtain ⟨src, hsrc, path⟩ := sound n hn
      obtain old | new := List.mem_append.1 hsrc
      · exact ⟨src, old, path⟩
      · exact ⟨a, waiting List.mem_cons_self, .head (mem_fresh.1 new).1 path⟩

/-- Settles O37: soundness and closure of the flood, over the steps that the edges carry. -/
theorem floodReachesWhatGasReaches : Obligations.FloodReachesWhatGasReaches := by
  unfold Obligations.FloodReachesWhatGasReaches
  intro v n
  simp only [← FloodView.mem_next]
  have start : v.sources.dedup ⊆ v.nodes := fun x hx => List.mem_append_left _ (List.mem_dedup.1 hx)
  obtain ⟨more, closed, sound⟩ := flood_spec v.next v.nodes (fun _ _ => FloodView.next_mem_nodes)
    (v.sources.length + 2 * v.edges.length + 1) v.sources.dedup v.sources.dedup (List.nodup_dedup _) start
    (List.Subset.refl _) (fun x hx out => absurd hx out) (by rw [v.nodes_length]; omega)
  constructor
  · intro hn
    obtain ⟨src, hsrc, path⟩ := sound n hn
    exact ⟨src, List.mem_dedup.1 hsrc, path⟩
  · rintro ⟨src, hsrc, path⟩
    induction path with
    | refl => exact more (List.mem_dedup.2 hsrc)
    | tail _ last ih => exact closed _ ih _ last

end Sys2Proof.Machine
end

section
/-! What the operations on isolations do to the isolation records: which they leave alone, and what becomes of the one
they are about. The tables keep their form (`Ev.KeepsKeyed`), the records of some slots stay (`Ev.IsosBut`), and an
isolation outside CLOSING is not touched by the return of others to planning (`Ev.SparesIdle`). -/

namespace Sys2Proof.Machine

-- One theorem after another: theorems checked side by side each hold a thread and its stack.
set_option Elab.async false

/-! ## The form of the tables -/

/-- One record for a key, keys ascending, stays so. -/
def Ev.KeepsKeyed (e e' : Ev) : Prop := e.p.keyed → e'.p.keyed

section Keyed
variable {e f g : Ev}

theorem Ev.KeepsKeyed.refl (e : Ev) : e.KeepsKeyed e := id

theorem Ev.KeepsKeyed.trans (h : e.KeepsKeyed f) (k : f.KeepsKeyed g) : e.KeepsKeyed g := k ∘ h

/-- The same, the last step first: the form in which a chain is read off the term it ends in. -/
theorem Ev.KeepsKeyed.last (k : f.KeepsKeyed g) (h : e.KeepsKeyed f) : e.KeepsKeyed g := h.trans k

theorem Ev.KeepsKeyed.ite {p : Prop} [Decidable p] (h : e.KeepsKeyed f) (k : e.KeepsKeyed g) :
    e.KeepsKeyed (if p then f else g) := by
  split
  · exact h
  · exact k

theorem Ev.KeepsKeyed.each {h : Nat → Ev → Ev} (step : ∀ k (e : Ev), e.KeepsKeyed (h k e)) (e : Ev) (ks : List Nat) :
    e.KeepsKeyed (e.each ks h) := by
  induction ks generalizing e with
  | nil => exact .refl e
  | cons k ks ih => exact (step k e).trans (ih (h k e))

end Keyed

theorem Ev.modIso_keyed (e : Ev) (k : Nat) (f : Isolation → Isolation) : e.KeepsKeyed (e.modIso k f) :=
  fun ⟨pipes, controls, isos, rest⟩ => ⟨pipes, controls, tableWf_tmod isos _ _, rest⟩

theorem Ev.modOrder_keyed (e : Ev) (k : Nat) (f : Order → Order) : e.KeepsKeyed (e.modOrder k f) :=
  fun ⟨pipes, controls, isos, orders, rest⟩ => ⟨pipes, controls, isos, tableWf_tmod orders _ _, rest⟩

theorem Ev.modControl_keyed (e : Ev) (k : Nat) (f : ControlRt → ControlRt) : e.KeepsKeyed (e.modControl k f) :=
  fun ⟨pipes, controls, rest⟩ => ⟨pipes, tableWf_tmod controls _ _, rest⟩

theorem Ev.mapPipes_keyed (e : Ev) (f : Nat → PipeRt → PipeRt) : e.KeepsKeyed (e.mapPipes f) :=
  fun ⟨pipes, rest⟩ => ⟨tableWf_map pipes _, rest⟩

theorem Ev.modIncident_keyed (e : Ev) (k : Nat) (f : Incident → Incident) : e.KeepsKeyed (e.modIncident k f) :=
  fun ⟨pipes, controls, isos, orders, reg, records⟩ => ⟨pipes, controls, isos, orders, tableWf_tmod reg _ _, records⟩

theorem Ev.modRecord_keyed (e : Ev) (k : Nat) (f : Outage → Outage) : e.KeepsKeyed (e.modRecord k f) :=
  fun ⟨pipes, controls, isos, orders, reg, records⟩ => ⟨pipes, controls, isos, orders, reg, tableWf_tmod records _ _⟩

theorem Ev.bump_keyed (e : Ev) : e.KeepsKeyed e.bump := by
  unfold Ev.bump
  exact .ite (.refl e) id

theorem Ev.setIso_keyed (e : Ev) (slot : Nat) (new : IsoState) (cause : IsoCause) (other : Other) (left : Nat) :
    e.KeepsKeyed (e.setIso slot new cause other left) := by
  unfold Ev.setIso
  split
  · exact .refl e
  · exact e.modIso_keyed _ _

theorem Ev.askTrace_keyed (e : Ev) (slot : Nat) : e.KeepsKeyed (e.askTrace slot) := by
  unfold Ev.askTrace
  split
  · exact .refl e
  · exact .ite (.refl e) (.ite (e.modIso_keyed slot _) (e.modIso_keyed slot _))

theorem Ev.stall_keyed (e : Ev) (slot : Nat) (cause : StallCause) (object frozen : Option Nat) (values : Int × Int) :
    e.KeepsKeyed (e.stall slot cause object frozen values) := by
  unfold Ev.stall
  split
  · exact .refl e
  · split
    · exact .refl e
    · exact .ite (.refl e) (e.modIso_keyed slot _)

theorem Ev.blockedStall_keyed (e : Ev) (r : IsoRef) (link : Nat) : e.KeepsKeyed (e.blockedStall r link) := by
  unfold Ev.blockedStall
  split
  · exact .refl e
  · exact .ite (e.stall_keyed _ _ _ _ _) (.refl e)

theorem Ev.finishOrder_keyed (e : Ev) (id : Nat) (st : OrderState) (cause : FinishCause) :
    e.KeepsKeyed (e.finishOrder id st cause) := by
  unfold Ev.finishOrder
  split
  · exact .refl e
  · exact .last (Ev.modControl_keyed _ _ _) (e.modOrder_keyed _ _)

theorem Ev.issueNow_keyed (e : Ev) (r : IsoRef) (link : Nat) (action : OrderAction) : e.KeepsKeyed (e.issueNow r link action) := by
  unfold Ev.issueNow
  exact .last (Ev.modControl_keyed _ link _) fun ⟨pipes, controls, isos, orders, rest⟩ =>
    ⟨pipes, controls, isos, tableWf_tset (IsolationController.makeRoom_wf orders) _ _, rest⟩

theorem Ev.issue_keyed (e : Ev) (slot link : Nat) (action : OrderAction) : e.KeepsKeyed (e.issue slot link action).1 := by
  unfold Ev.issue
  split
  · exact .refl e
  · split
    · exact e.issueNow_keyed _ _ _
    · exact e.modIso_keyed _ _

theorem Ev.dropEntries_keyed (e : Ev) (link : Nat) (which : OrderAction → Bool) : e.KeepsKeyed (e.dropEntries link which) :=
  fun ⟨pipes, controls, isos, rest⟩ => ⟨pipes, controls, tableWf_map isos fun _ i =>
    ({ i with toIssue := i.toIssue.filter fun y => !(y.link = link && which y.action) } : Isolation), rest⟩

theorem Ev.releaseHolds_keyed (e : Ev) (slot : Nat) (links : List Nat) : e.KeepsKeyed (e.releaseHolds slot links) :=
  .last (Ev.modIso_keyed _ _ _) (.each (fun l e => e.modControl_keyed l _) e links)

theorem Ev.withdrawOpen_keyed (e : Ev) (link : Nat) : e.KeepsKeyed (e.withdrawOpen link) := by
  unfold Ev.withdrawOpen
  split
  · exact .ite (.last (Ev.blockedStall_keyed _ _ _) (e.finishOrder_keyed _ _ _)) (.refl e)
  · exact .refl e

theorem Ev.takeHolds_keyed (e : Ev) (slot : Nat) (links : List Nat) : e.KeepsKeyed (e.takeHolds slot links) :=
  .last (Ev.modIso_keyed _ _ _) (.last (.each (fun l e => e.modControl_keyed l _) _ links)
    (.last (.each (fun l e => e.withdrawOpen_keyed l) _ links) (.each (fun l e => e.dropEntries_keyed l _) e links)))

/-! ## Slots whose record stays -/

/-- The isolation records outside some slots stay. -/
def Ev.IsosBut (ks : List Nat) (e e' : Ev) : Prop := ∀ k, k ∉ ks → e'.iso? k = e.iso? k

section IsosBut
variable {ks ls : List Nat} {e f g : Ev}

theorem Ev.IsosBut.refl (ks : List Nat) (e : Ev) : Ev.IsosBut ks e e := fun _ _ => rfl

theorem Ev.IsosBut.trans (h : Ev.IsosBut ks e f) (k : Ev.IsosBut ks f g) : Ev.IsosBut ks e g :=
  fun j hj => (k j hj).trans (h j hj)

theorem Ev.IsosBut.last (k : Ev.IsosBut ks f g) (h : Ev.IsosBut ks e f) : Ev.IsosBut ks e g := h.trans k

theorem Ev.IsosBut.mono (h : Ev.IsosBut ls e f) (sub : ls ⊆ ks) : Ev.IsosBut ks e f := fun j hj => h j fun hl => hj (sub hl)

theorem Ev.IsosBut.each {h : Nat → Ev → Ev} {js : List Nat} (step : ∀ k ∈ js, ∀ e, Ev.IsosBut ks e (h k e)) (e : Ev) :
    Ev.IsosBut ks e (e.each js h) := by
  induction js generalizing e with
  | nil => exact .refl ks e
  | cons k js ih =>
    exact (step k List.mem_cons_self e).trans (ih (fun j hj => step j (List.mem_cons_of_mem _ hj)) (h k e))

/-- What does not touch the isolations. -/
theorem Ev.Within.isosBut {A : List Part} (h : Ev.Within A e f) (ks : List Nat) (out : Part.isos ∉ A := by decide) :
    Ev.IsosBut ks e f := fun k _ => congrArg (tget · k) (h.isos out)

end IsosBut

theorem Ev.modIso_isosBut (e : Ev) (slot : Nat) (f : Isolation → Isolation) : Ev.IsosBut [slot] e (e.modIso slot f) :=
  fun k hk => (e.modIso_iso? slot k f).trans (if_neg (by simpa using hk))

theorem Ev.setIso_isosBut (e : Ev) (slot : Nat) (new : IsoState) (cause : IsoCause) (other : Other) (left : Nat) :
    Ev.IsosBut [slot] e (e.setIso slot new cause other left) := by
  unfold Ev.setIso
  split
  · exact .refl _ e
  · exact e.modIso_isosBut _ _

theorem Ev.askTrace_isosBut (e : Ev) (slot : Nat) : Ev.IsosBut [slot] e (e.askTrace slot) := by
  unfold Ev.askTrace
  dsimp only
  split
  · exact .refl _ e
  · split
    · exact .refl _ e
    · split
      · exact e.modIso_isosBut slot _
      · exact e.modIso_isosBut slot _

theorem Ev.releaseHolds_isosBut (e : Ev) (slot : Nat) (links : List Nat) : Ev.IsosBut [slot] e (e.releaseHolds slot links) := by
  refine .last (Ev.modIso_isosBut _ _ _) (.each (fun l _ e => ?_) e)
  exact (e.modHolders_within l fun _ => rfl).isosBut _

theorem Ev.finishOrder_isosBut (e : Ev) (id : Nat) (st : OrderState) (cause : FinishCause) (ks : List Nat) :
    Ev.IsosBut ks e (e.finishOrder id st cause) := (e.finishOrder_within _ _ _).isosBut _

theorem Ev.issue_isosBut (e : Ev) (slot link : Nat) (action : OrderAction) :
    Ev.IsosBut [slot] e (e.issue slot link action).1 := by
  unfold Ev.issue
  split
  · exact .refl _ e
  · split
    · exact (e.issueNow_within _ _ _).isosBut _
    · exact e.modIso_isosBut _ _

theorem Ev.waitOver_isosBut (e : Ev) (slot : Nat) : Ev.IsosBut [slot] e (e.waitOver slot) :=
  .last (Ev.askTrace_isosBut _ _) (.last (Ev.setIso_isosBut _ _ _ _ _ _) (e.modIso_isosBut slot _))

/-! ## The return of others to planning (R124, R144) -/

/-- An isolation in another state than CLOSING is as it was. -/
def Ev.SparesIdle (e e' : Ev) : Prop :=
  e.p.keyed → e'.p.keyed ∧ ∀ k i, e.iso? k = some i → i.state ≠ .closing → e'.iso? k = some i

section SparesIdle
variable {e f g : Ev}

theorem Ev.SparesIdle.refl (e : Ev) : e.SparesIdle e := fun h => ⟨h, fun _ _ hi _ => hi⟩

theorem Ev.SparesIdle.trans (h : e.SparesIdle f) (k : f.SparesIdle g) : e.SparesIdle g := fun keyed =>
  let ⟨keyed', spared⟩ := h keyed
  let ⟨keyed'', spared'⟩ := k keyed'
  ⟨keyed'', fun j i hi idle => spared' j i (spared j i hi idle) idle⟩

theorem Ev.SparesIdle.last (k : f.SparesIdle g) (h : e.SparesIdle f) : e.SparesIdle g := h.trans k

theorem Ev.SparesIdle.each {h : Nat → Ev → Ev} (step : ∀ k (e : Ev), e.SparesIdle (h k e)) (e : Ev) (ks : List Nat) :
    e.SparesIdle (e.each ks h) := by
  induction ks generalizing e with
  | nil => exact .refl e
  | cons k ks ih => exact (step k e).trans (ih (h k e))

/-- What changes the records of isolations in CLOSING alone. -/
theorem Ev.IsosBut.sparesIdle {ks : List Nat} (h : Ev.IsosBut ks e f) (keyed : e.KeepsKeyed f)
    (closing : e.p.keyed → ∀ k ∈ ks, ∀ i, e.iso? k = some i → i.state = .closing) : e.SparesIdle f := fun wf =>
  ⟨keyed wf, fun k i hi idle => (h k fun mem => idle (closing wf k mem i hi)).trans hi⟩

end SparesIdle

theorem Ev.closingHolders_closing {e : Ev} (wf : e.p.keyed) {link k : Nat} (h : k ∈ e.closingHolders link) {i : Isolation}
    (hi : e.iso? k = some i) : i.state = .closing := by
  obtain ⟨_, _, isos, _⟩ := wf
  obtain ⟨j, hj, test⟩ := (mem_tkeysWhere (p := fun _ i => i.state = .closing && i.holds.contains link) isos).1 h
  obtain rfl : j = i := Option.some.inj (hj.symm.trans hi)
  simp only [Bool.and_eq_true, decide_eq_true_eq] at test
  exact test.1

theorem Ev.finishOrder_sparesIdle (e : Ev) (id : Nat) (st : OrderState) (cause : FinishCause) :
    e.SparesIdle (e.finishOrder id st cause) :=
  (e.finishOrder_isosBut id st cause []).sparesIdle (e.finishOrder_keyed _ _ _) fun _ _ h => absurd h List.not_mem_nil

/-- What follows a withdrawn CLOSE order of a link: it is ordered closed again for its lowest holder in CLOSING, or its
holders fail with it (R144). -/
def Ev.retest (fail : List Nat → Nat → Ev → Ev) (l : Nat) (e : Ev) : Ev :=
  match e.closingHolders l with
  | [] => e
  | h :: hs =>
    if e.isClosed l || (e.orderOf? l).isSome then e
    else if e.workable l then (e.issue h l .close).1
    else fail (h :: hs) l e

theorem Ev.retest_sparesIdle {fail : List Nat → Nat → Ev → Ev} (step : ∀ hs l e, Ev.SparesIdle e (fail hs l e)) (l : Nat)
    (e : Ev) : e.SparesIdle (Ev.retest fail l e) := by
  unfold Ev.retest
  split
  · exact .refl e
  · next h hs holders =>
    split
    · exact .refl e
    · split
      · refine (e.issue_isosBut h l .close).sparesIdle (e.issue_keyed _ _ _) fun wf k hk i hi => ?_
        obtain rfl := List.mem_singleton.1 hk
        exact Ev.closingHolders_closing wf (holders ▸ List.mem_cons_self) hi
      · exact step _ _ e

/-- The holds an isolation keeps when it is sent back: CLOSED members other than the failed one (R124). -/
def Ev.keptHolds (e : Ev) (link : Nat) (i : Isolation) : List Nat := i.holds.filter fun l => l ≠ link && e.isClosed l

/-- An isolation is sent back to planning, up to the test of the links of its withdrawn orders (R124). -/
def Ev.sendBack (e : Ev) (slot link : Nat) (i : Isolation) : Ev :=
  let kept := e.keptHolds link i
  let own := e.ordersOf ⟨slot, i.serial⟩ .close
  let e := (e.releaseHolds slot (i.holds.filter fun l => !kept.contains l)).modIso slot fun i => i.replan kept
  (((e.setIso slot .planning .memberFailed (.link link)).each own fun id e =>
    e.finishOrder id .withdrawn .released).askTrace slot).askRecompute

theorem Ev.memberFailed_of_closing {e : Ev} {slot : Nat} {i : Isolation} (h : e.iso? slot = some i)
    (closing : i.state = .closing) (fuel link : Nat) :
    Ev.memberFailed (fuel + 1) slot link e
      = (e.sendBack slot link i).each ((e.ordersOf ⟨slot, i.serial⟩ .close).filterMap fun id => (e.order? id).map (·.link))
        (Ev.retest fun hs l e => e.each hs fun s e => Ev.memberFailed fuel s l e) := by
  rw [Ev.memberFailed]
  simp only [h]
  rw [if_neg (not_not.2 closing)]
  rfl

theorem Ev.memberFailed_of_idle {e : Ev} {slot : Nat} (h : ∀ i, e.iso? slot = some i → i.state ≠ .closing) (fuel link : Nat) :
    Ev.memberFailed fuel slot link e = e := by
  cases fuel with
  | zero => rfl
  | succ fuel =>
    unfold Ev.memberFailed
    split
    · rfl
    · next i hi => exact if_pos (h i hi)

theorem Ev.sendBack_keyed (e : Ev) (slot link : Nat) (i : Isolation) : e.KeepsKeyed (e.sendBack slot link i) :=
  .last (Ev.askTrace_keyed _ _) (.last (.each (fun id e => e.finishOrder_keyed id _ _) _ _)
    (.last (Ev.setIso_keyed _ _ _ _ _ _) (.last (Ev.modIso_keyed _ _ _) (e.releaseHolds_keyed _ _))))

theorem Ev.sendBack_isosBut (e : Ev) (slot link : Nat) (i : Isolation) : Ev.IsosBut [slot] e (e.sendBack slot link i) :=
  .last (Ev.askTrace_isosBut _ _) (.last (.each (fun id _ e => e.finishOrder_isosBut id _ _ _) _)
    (.last (Ev.setIso_isosBut _ _ _ _ _ _) (.last (Ev.modIso_isosBut _ _ _) (e.releaseHolds_isosBut _ _))))

theorem Ev.memberFailed_sparesIdle (fuel slot link : Nat) (e : Ev) : e.SparesIdle (Ev.memberFailed fuel slot link e) := by
  induction fuel generalizing slot link e with
  | zero => exact .refl e
  | succ fuel ih =>
    by_cases closing : ∃ i, e.iso? slot = some i ∧ i.state = .closing
    · obtain ⟨i, hi, closing⟩ := closing
      rw [Ev.memberFailed_of_closing hi closing]
      refine .last (.each (Ev.retest_sparesIdle fun hs l e => .each (fun s e => ih s l e) e hs) _ _)
        ((e.sendBack_isosBut slot link i).sparesIdle (e.sendBack_keyed _ _ _) fun _ k hk j hj => ?_)
      obtain rfl := List.mem_singleton.1 hk
      obtain rfl := Option.some.inj (hi.symm.trans hj)
      exact closing
    · rw [Ev.memberFailed_of_idle fun i hi same => closing ⟨i, hi, same⟩]
      exact .refl e

theorem Ev.failMembers_sparesIdle (slots : List Nat) (link : Nat) (e : Ev) : e.SparesIdle (e.failMembers slots link) :=
  .each (fun s e => Ev.memberFailed_sparesIdle _ s link e) e slots

theorem Ev.withdrawCloses_eq (e : Ev) (r : IsoRef) (released : List Nat) :
    e.withdrawCloses r released =
      (e.each ((e.ordersOf r .close).filter fun id => (e.order? id).any fun o => released.contains o.link) fun id e =>
        e.finishOrder id .withdrawn .released).each
      (((e.ordersOf r .close).filter fun id => (e.order? id).any fun o => released.contains o.link).filterMap
        fun id => (e.order? id).map (·.link)) (Ev.retest fun hs l e => e.failMembers hs l) := rfl

theorem Ev.withdrawCloses_sparesIdle (e : Ev) (r : IsoRef) (released : List Nat) :
    e.SparesIdle (e.withdrawCloses r released) := by
  rw [Ev.withdrawCloses_eq]
  exact .last (.each (Ev.retest_sparesIdle fun hs l e => e.failMembers_sparesIdle hs l) _ _)
    (.each (fun id e => e.finishOrder_sparesIdle id _ _) e _)

/-! ## A change of state (R110) -/

section MoveTo
variable (i : Isolation) (new : IsoState) (now : Nat)

@[simp] theorem Isolation.moveTo_state : (i.moveTo new now).state = new := rfl
/-- What a change of state keeps of the record: all but the state, the end time, the list, and the decay test. -/
theorem Isolation.moveTo_eq : i.moveTo new now =
    { i with
      state := new
      endTime := if new.terminal then some now else i.endTime
      toIssue := (i.moveTo new now).toIssue
      decay := (i.moveTo new now).decay
      verifyTimer := (i.moveTo new now).verifyTimer } := by
  unfold Isolation.moveTo
  dsimp only
  split_ifs <;> rfl

/-- From a state with nothing to take along to one that is not the end. -/
theorem Isolation.moveTo_of_plain (h : i.state ≠ .closing ∧ i.state ≠ .restoring ∧ i.state ≠ .verifying)
    (running : new.terminal = false) : i.moveTo new now = { i with state := new } := by
  obtain ⟨closing, restoring, verifying⟩ := h
  simp [Isolation.moveTo, closing, restoring, verifying, running]

theorem Isolation.moveTo_toIssue_nil (h : i.toIssue = []) : (i.moveTo new now).toIssue = [] := by
  unfold Isolation.moveTo
  dsimp only
  split_ifs <;> simp [h]

end MoveTo

theorem Ev.setIso_of_iso {e : Ev} {slot : Nat} {i : Isolation} (h : e.iso? slot = some i) (new : IsoState) (cause : IsoCause)
    (other : Other) (left : Nat) : e.setIso slot new cause other left
      = (e.modIso slot fun i => i.moveTo new e.now).noteIso slot i.serial (some i.state) new cause other left := by
  simp only [Ev.setIso, h]

theorem Ev.modIso_iso {e : Ev} {slot : Nat} {i : Isolation} (h : e.iso? slot = some i) (f : Isolation → Isolation) :
    (e.modIso slot f).iso? slot = some (f i) := by
  rw [Ev.modIso_iso?, if_pos rfl, h]
  rfl

theorem Ev.setIso_iso {e : Ev} {slot : Nat} {i : Isolation} (h : e.iso? slot = some i) (new : IsoState) (cause : IsoCause)
    (other : Other) (left : Nat) : (e.setIso slot new cause other left).iso? slot = some (i.moveTo new e.now) := by
  rw [Ev.setIso_of_iso h]
  exact Ev.modIso_iso h _

/-- A trace request changes of the isolation at most its restart count. -/
theorem Ev.askTrace_iso {e : Ev} {slot : Nat} {i : Isolation} (h : e.iso? slot = some i) :
    ∃ n, (e.askTrace slot).iso? slot = some { i with restarts := n } := by
  unfold Ev.askTrace
  simp only [h]
  split
  · exact ⟨i.restarts, h⟩
  · refine ⟨0, ?_⟩
    split
    · exact Ev.modIso_iso h fun i => { i with restarts := 0 }
    · exact Ev.modIso_iso h fun i => { i with restarts := 0 }

/-! ## An isolation given back to the Trace Engine (R28, R30, R31) -/

/-- Its trace runs, or its entry waits. -/
def TraceEngine.awaits (t : TraceEngine) (r : IsoRef) : Prop :=
  t.running.any (fun j => j.tracesSlot r.slot) = true ∨ r ∈ t.fifo ∨ r ∈ t.deferred

theorem Ev.askTrace_awaits {e : Ev} {slot : Nat} {i : Isolation} (h : e.iso? slot = some i) :
    (e.askTrace slot).p.trace.awaits ⟨slot, i.serial⟩ := by
  unfold Ev.askTrace
  simp only [h]
  split
  · next there =>
    simp only [Bool.or_eq_true, List.contains_iff_mem] at there
    obtain (fifo | deferred) | running := there
    · exact .inr (.inl fifo)
    · exact .inr (.inr deferred)
    · exact .inl running
  · split
    · exact .inr (.inl (by simp))
    · exact .inr (.inr (by simp))

theorem Ev.refill_awaits {e : Ev} {r : IsoRef} (h : e.p.trace.awaits r) : e.refill.p.trace.awaits r := by
  obtain running | fifo | deferred := h
  · exact .inl running
  · exact .inr (.inl (List.mem_append_left _ fifo))
  · rw [← List.take_append_drop (Config.traceFifo - e.p.trace.fifo.length) e.p.trace.deferred, List.mem_append] at deferred
    obtain moved | stays := deferred
    · exact .inr (.inl (List.mem_append_right _ moved))
    · exact .inr (.inr stays)

/-- The job an idle engine takes is traced; what it does not take waits on. -/
theorem Ev.takeJob_awaits {e : Ev} {r : IsoRef} (h : e.p.trace.awaits r) : e.takeJob.p.trace.awaits r := by
  unfold Ev.takeJob
  split
  · exact h
  · next idle =>
    have waiting : r ∈ e.p.trace.fifo ∨ r ∈ e.p.trace.deferred := by
      obtain running | waiting := h
      · simp only [Option.isSome_iff_exists, not_exists] at idle
        obtain ⟨j, hj, _⟩ := (Option.any_eq_true _ _).1 running
        exact absurd hj (idle j)
      · exact waiting
    split
    · exact .inr waiting
    · split
      · next none => exact .inr waiting
      · next x rest fifo =>
        refine Ev.refill_awaits ?_
        obtain mem | mem := waiting
        · rw [fifo, List.mem_cons] at mem
          obtain rfl | mem := mem
          · exact .inl (by simp [Job.tracesSlot])
          · exact .inr (.inl mem)
        · exact .inr (.inr mem)

theorem Ev.watchRecompute_awaits {e : Ev} {r : IsoRef} (h : e.p.trace.awaits r) : e.watchRecompute.p.trace.awaits r := by
  unfold Ev.watchRecompute
  dsimp only
  split
  · next running =>
    obtain traced | waiting := h
    · simp [running, Job.tracesSlot] at traced
    · split
      · exact .inr waiting
      · exact .inr waiting
  · exact h

/-- What leaves the engine's job and lists alone. -/
theorem Ev.Within.awaits {A : List Part} {e e' : Ev} (h : Ev.Within A e e') {r : IsoRef} (k : e.p.trace.awaits r)
    (out : Part.trace ∉ A := by decide) : e'.p.trace.awaits r := by
  obtain ⟨running, fifo, deferred⟩ := h.trace out
  rw [TraceEngine.awaits, running, fifo, deferred]
  exact k

theorem Ev.settle_awaits {e : Ev} {r : IsoRef} (h : e.p.trace.awaits r) : e.settle.p.trace.awaits r := by
  have before : ({ e with bumped := false } : Ev).arbitrate.notePeaks.watchCheck.p.trace.awaits r :=
    (Ev.watchCheck_within _).awaits ((Ev.notePeaks_within _).awaits ((Ev.arbitrate_within { e with bumped := false }).awaits h))
  exact Ev.takeJob_awaits (Ev.watchRecompute_awaits before)

/-! ## The end of an event -/

/-- The arbiter takes entries off the head of the lists and changes nothing else of an isolation (R142). -/
theorem Ev.serve_iso (fuel : Nat) {e : Ev} (wf : tableWf e.p.ctl.isos) {k : Nat} {i : Isolation} (h : e.iso? k = some i) :
    ∃ l, l <:+ i.toIssue ∧ (Ev.serve fuel e).iso? k = some { i with toIssue := l } := by
  induction fuel generalizing e i with
  | zero => exact ⟨i.toIssue, List.suffix_rfl, h⟩
  | succ fuel ih =>
    have stop : ∃ l, l <:+ i.toIssue ∧ e.iso? k = some { i with toIssue := l } := ⟨i.toIssue, List.suffix_rfl, h⟩
    unfold Ev.serve
    split
    · split
      · exact stop
      · next slot j found =>
        split
        · exact stop
        · next x rest list =>
          have there : e.iso? slot = some j := tget_of_mem wf (List.mem_of_find?_eq_some found)
          have after (e' : Ev) (same : e'.p.ctl.isos = (e.modIso slot fun i => { i with toIssue := rest }).p.ctl.isos) :
              ∃ l, l <:+ i.toIssue ∧ (Ev.serve fuel e').iso? k = some { i with toIssue := l } := by
            have wf' : tableWf e'.p.ctl.isos := by
              rw [same, Ev.modIso_ctl_isos]
              exact tableWf_tmod wf _ _
            have read : e'.iso? k = (e.modIso slot fun i => { i with toIssue := rest }).iso? k := congrArg (tget · k) same
            by_cases hk : k = slot
            · subst hk
              obtain rfl := Option.some.inj (there.symm.trans h)
              obtain ⟨l, suffix, eq⟩ := ih wf' (read.trans (Ev.modIso_iso h _))
              exact ⟨l, list ▸ suffix.trans (List.suffix_cons x rest), eq⟩
            · exact ih wf' (read.trans ((e.modIso_isosBut slot _ k (by simpa using hk)).trans h))
          dsimp only
          split
          · exact after _ rfl
          · exact after _ rfl
    · exact stop

theorem Ev.settle_iso {e : Ev} (wf : tableWf e.p.ctl.isos) {k : Nat} {i : Isolation} (h : e.iso? k = some i) :
    ∃ l, l <:+ i.toIssue ∧ e.settle.iso? k = some { i with toIssue := l } := by
  obtain ⟨l, suffix, eq⟩ := Ev.serve_iso _ (e := { e with bumped := false }) wf h
  refine ⟨l, suffix, Eq.trans (congrArg (tget · k) ?_) eq⟩
  have end_ := (Ev.takeJob_within _).isos (by decide) |>.trans ((Ev.watchRecompute_within _).isos (by decide)) |>.trans
    ((Ev.watchCheck_within _).isos (by decide)) |>.trans
    ((Ev.notePeaks_within ({ e with bumped := false } : Ev).arbitrate).isos (by decide))
  exact end_

/-- An isolation with nothing to issue is left as it is. -/
theorem Ev.settle_iso_of_nil {e : Ev} (wf : tableWf e.p.ctl.isos) {k : Nat} {i : Isolation} (h : e.iso? k = some i)
    (none : i.toIssue = []) : e.settle.iso? k = some i := by
  obtain ⟨l, suffix, eq⟩ := Ev.settle_iso wf h
  rw [none, List.suffix_nil] at suffix
  rw [eq, suffix, ← none]

/-- The increments of one event come to one (R8). -/
theorem Ev.Within.bumped_generation {A : List Part} {e e' : Ev} (h : Ev.Within A e e') (before : e.bumped = false)
    (after : e'.bumped = true) (regen : Part.regen ∉ A := by decide) (activate : Part.activate ∉ A := by decide) :
    e'.p.net.generation = min max32 (e.p.net.generation + 1) := by
  obtain ⟨still, _⟩ | ⟨_, up⟩ := (h.once regen activate).2 before
  · exact Bool.noConfusion (still.symm.trans after)
  · exact up

/-- A mark once set stays for the event. -/
theorem Ev.Within.stays_bumped {A : List Part} {e e' : Ev} (h : Ev.Within A e e') (before : e.bumped = true)
    (regen : Part.regen ∉ A := by decide) (activate : Part.activate ∉ A := by decide) : e'.bumped = true :=
  ((h.once regen activate).1 before).1

end Sys2Proof.Machine
end

section
/-! How an isolation ends (R105, R126, R133, R173), and the requests that end it or refuse it before CLOSING: O40, O41,
O51. -/

namespace Sys2Proof.Machine

-- One theorem after another: theorems checked side by side each hold a thread and its stack.
set_option Elab.async false

/-- What does not touch the isolations. -/
theorem Ev.Within.iso_same {A : List Part} {e f : Ev} (h : Ev.Within A e f) (slot : Nat)
    (out : Part.isos ∉ A := by decide) : f.iso? slot = e.iso? slot := congrArg (tget · slot) (h.isos out)

theorem Plant.keyed_isos {p : Plant} (h : p.keyed) : tableWf p.ctl.isos :=
  let ⟨_, _, isos, _⟩ := h
  isos

/-! ## Claims and records of pipes -/

theorem Ev.releaseClaims_pipe? (e : Ev) (slot : Nat) (which : Nat → Bool) (j : Nat) :
    (e.releaseClaims slot which).pipe? j = (e.pipe? j).map fun p =>
      if p.claim = some slot && which j then { p with claim := none, supply := p.supply.released } else p :=
  Ev.mapPipes_pipe? e j fun k p =>
    if p.claim = some slot && which k then { p with claim := none, supply := p.supply.released } else p

/-- With every claim of a slot released, a pipe keeps all but its claim and supply state. -/
theorem Ev.releaseClaims_all {e : Ev} {j : Nat} {p : PipeRt} (h : e.pipe? j = some p) (slot : Nat) :
    ∃ c x, (e.releaseClaims slot fun _ => true).pipe? j = some { p with claim := c, supply := x } ∧ c ≠ some slot := by
  rw [Ev.releaseClaims_pipe?, h]
  by_cases claimed : p.claim = some slot
  · exact ⟨none, p.supply.released, by simp [claimed], by simp⟩
  · exact ⟨p.claim, p.supply, by simp [claimed], claimed⟩

/-- Closing a record changes of a pipe its owner alone. -/
theorem Ev.closeRecordOf_pipe {e : Ev} {j : Nat} {p : PipeRt} (h : e.pipe? j = some p) (k : Option Nat) :
    ∃ o, (e.closeRecordOf k).pipe? j = some { p with owner := o } := by
  cases k with
  | none => exact ⟨p.owner, h⟩
  | some k =>
    rw [Ev.closeRecordOf, Ev.closeRecord_pipe?, h]
    by_cases owned : p.owner = some k
    · exact ⟨_, by rw [Option.map_some, if_pos owned, PipeRt.leaveRecord_eq]⟩
    · exact ⟨p.owner, by simp [owned]⟩

/-! ## Entry to a terminal state (R105, R110, R133) -/

theorem Isolation.moveTo_endTime (i : Isolation) {new : IsoState} (h : new.terminal = true) (now : Nat) :
    (i.moveTo new now).endTime = some now := by
  rw [Isolation.moveTo_eq]
  exact if_pos h

theorem Ev.wake_isosBut {e : Ev} (wf : tableWf e.p.ctl.isos) (r : IsoRef) {k : Nat} {i : Isolation} (h : e.iso? k = some i)
    (awake : i.state ≠ .waiting) : (e.wake r).iso? k = some i := by
  have out : k ∉ e.slotsWhere fun _ i => i.state = .waiting && i.waitingOn = some r := by
    intro mem
    obtain ⟨j, hj, test⟩ := (mem_tkeysWhere (p := fun _ i => i.state = .waiting && i.waitingOn = some r) wf).1 mem
    obtain rfl := Option.some.inj (hj.symm.trans h)
    simp only [Bool.and_eq_true, decide_eq_true_eq] at test
    exact awake test.1
  refine ((Ev.IsosBut.each (h := fun k e => e.waitOver k) (fun k mem e => ?_) e) k out).trans h
  exact (e.waitOver_isosBut k).mono (by simpa using mem)

theorem Ev.endIso_iso {e : Ev} (wf : e.p.keyed) {slot : Nat} {i : Isolation} (h : e.iso? slot = some i)
    {new : IsoState} (terminal : new.terminal = true) (cause : IsoCause) (other : Other) (left : Nat) :
    (e.endIso slot new cause other left).iso? slot = some { i.moveTo new e.now with incident := none } := by
  have moved := Ev.setIso_iso h new cause other left
  have wf' := Plant.keyed_isos (e.setIso_keyed slot new cause other left wf)
  simp only [Ev.endIso, h]
  have same := (Ev.unlinkIncident_within (e.setIso slot new cause other left) i.incident ⟨slot, i.serial⟩).isos (by decide)
  refine Ev.wake_isosBut ?_ _ (Ev.modIso_iso (i := i.moveTo new e.now) ?_ _) ?_
  · rw [Ev.modIso_ctl_isos, same]
    exact tableWf_tmod wf' _ _
  · exact (congrArg (tget · slot) same).trans moved
  · rintro waiting
    have state : new = .waiting := waiting
    subst state
    cases terminal

/-! ## Teardown (R126) -/

theorem Ev.withdrawOpens_keyed (e : Ev) (r : IsoRef) : e.KeepsKeyed (e.withdrawOpens r) :=
  .each (fun id e => e.finishOrder_keyed id _ _) e _

theorem Ev.closeRecordOf_keyed (e : Ev) (k : Option Nat) : e.KeepsKeyed (e.closeRecordOf k) := by
  cases k with
  | none => exact .refl e
  | some k => exact .last (Ev.modRecord_keyed _ _ _) (e.mapPipes_keyed _)

theorem Ev.releaseHolds_iso {e : Ev} {slot : Nat} {i : Isolation} (h : e.iso? slot = some i) (links : List Nat) :
    (e.releaseHolds slot links).iso? slot = some { i with
      holds := i.holds.filter fun l => !links.contains l
      toIssue := i.toIssue.filter fun x => !(x.action = .close && links.contains x.link) } := by
  refine Ev.modIso_iso (i := i) (Eq.trans ?_ h) _
  refine (Ev.Within.each (A := [.controls, .holders]) (fun l e => ?_) e links).iso_same slot
  exact e.modHolders_within l fun _ => rfl

/-- The teardown up to the claims: holds given up, orders withdrawn, the list emptied (R126). -/
def Ev.unburdened (e : Ev) (slot : Nat) (i : Isolation) : Ev :=
  (((e.releaseHolds slot i.holds).withdrawCloses ⟨slot, i.serial⟩ i.holds).withdrawOpens ⟨slot, i.serial⟩).modIso slot
    fun i => { i with toIssue := [] }

/-- An isolation gives up its claims, with one bump, and its record closes (R126, R173). -/
def Ev.disowned (e : Ev) (slot : Nat) (outage : Option Nat) : Ev :=
  ((e.releaseClaims slot fun _ => true).bump.askRecompute).closeRecordOf outage

theorem Ev.tearDown_eq {e : Ev} {slot : Nat} {i : Isolation} (h : e.iso? slot = some i) :
    (e.tearDown slot).1 = (e.unburdened slot i).disowned slot i.outage := by
  simp only [Ev.tearDown, h]
  rfl

theorem Ev.disowned_keyed (e : Ev) (slot : Nat) (outage : Option Nat) : e.KeepsKeyed (e.disowned slot outage) :=
  .last (Ev.closeRecordOf_keyed _ _) (.last (Ev.bump_keyed _) (e.mapPipes_keyed _))

theorem Ev.disowned_within (e : Ev) (slot : Nat) (outage : Option Nat) :
    Ev.Within [.pipes, .records, .bump, .ask] e (e.disowned slot outage) :=
  .last (Ev.closeRecordOf_within _ _) (.last (Ev.askRecompute_within _) (.last (Ev.bump_within _)
    (.of (e.releaseClaims_within _ _))))

theorem Ev.disowned_bumped (e : Ev) (slot : Nat) (outage : Option Nat) : (e.disowned slot outage).bumped = true :=
  (Ev.closeRecordOf_within _ _).stays_bumped ((Ev.askRecompute_within _).stays_bumped (Ev.bump_bumped _))

/-- Of a pipe, its claim by the slot, its supply state and its owner are all that giving up claims and record change. -/
theorem Ev.disowned_pipe {e : Ev} {j : Nat} {p : PipeRt} (h : e.pipe? j = some p) (slot : Nat) (outage : Option Nat) :
    ∃ c x o, (e.disowned slot outage).pipe? j = some { p with claim := c, supply := x, owner := o } ∧ c ≠ some slot := by
  obtain ⟨c, x, released, hc⟩ := Ev.releaseClaims_all h slot
  have asked : ((e.releaseClaims slot fun _ => true).bump.askRecompute).pipe? j = some { p with claim := c, supply := x } :=
    (congrArg (tget · j) (Ev.bump_net_pipes _)).trans released
  obtain ⟨o, closed⟩ := Ev.closeRecordOf_pipe asked outage
  exact ⟨c, x, o, closed, hc⟩

theorem Ev.disowned_pipe_none {e : Ev} {j : Nat} (h : e.pipe? j = none) (slot : Nat) (outage : Option Nat) :
    (e.disowned slot outage).pipe? j = none := by
  have released : (e.releaseClaims slot fun _ => true).pipe? j = none := by
    rw [Ev.releaseClaims_pipe?, h]
    rfl
  have asked : ((e.releaseClaims slot fun _ => true).bump.askRecompute).pipe? j = none :=
    (congrArg (tget · j) (Ev.bump_net_pipes _)).trans released
  cases outage with
  | none => exact asked
  | some k =>
    rw [Ev.disowned, Ev.closeRecordOf, Ev.closeRecord_pipe?, asked]
    rfl

/-- What the teardown leaves of an isolation that is not in CLOSING: no hold, and nothing to issue. -/
theorem Ev.unburdened_iso {e : Ev} (wf : e.p.keyed) {slot : Nat} {i : Isolation} (h : e.iso? slot = some i)
    (idle : i.state ≠ .closing) :
    (e.unburdened slot i).p.keyed ∧ (e.unburdened slot i).iso? slot = some { i with holds := [], toIssue := [] } := by
  obtain ⟨wf', spared⟩ := (e.releaseHolds slot i.holds).withdrawCloses_sparesIdle ⟨slot, i.serial⟩ i.holds
    (e.releaseHolds_keyed slot i.holds wf)
  have kept := ((Ev.withdrawOpens_within _ ⟨slot, i.serial⟩).iso_same slot).trans
    (spared slot _ (Ev.releaseHolds_iso h i.holds) idle)
  refine ⟨Ev.modIso_keyed _ _ _ (Ev.withdrawOpens_keyed _ _ wf'), (Ev.modIso_iso kept fun i => { i with toIssue := [] }).trans ?_⟩
  have none : (i.holds.filter fun l => !i.holds.contains l) = [] := by simp
  simp only [none]

theorem Ev.giveUp_of_unauthorised {e : Ev} {slot : Nat} {i : Isolation} (h : e.iso? slot = some i) (ha : i.authTime = none)
    (new : IsoState) (cause : IsoCause) (other : Other) :
    e.giveUp slot new cause other = e.endIso slot new cause other 0 := by
  simp only [Ev.giveUp, h]
  exact if_neg (by simp [Isolation.authorised, ha])

theorem Ev.giveUp_of_authorised {e : Ev} {slot : Nat} {i : Isolation} (h : e.iso? slot = some i) (ha : i.authTime.isSome)
    (new : IsoState) (cause : IsoCause) (other : Other) :
    e.giveUp slot new cause other
      = ((e.unburdened slot i).disowned slot i.outage).endIso slot new cause other (e.tearDown slot).2 := by
  simp only [Ev.giveUp, h, ← Ev.tearDown_eq h]
  exact if_pos ha

theorem Ev.endIso_keyed (e : Ev) (slot : Nat) (new : IsoState) (cause : IsoCause) (other : Other) (left : Nat) :
    e.KeepsKeyed (e.endIso slot new cause other left) := by
  have waitOver (k : Nat) (e : Ev) : e.KeepsKeyed (e.waitOver k) :=
    .last (Ev.askTrace_keyed _ _) (.last (Ev.setIso_keyed _ _ _ _ _ _) (e.modIso_keyed _ _))
  have unlink (e : Ev) (incident : Option Nat) (r : IsoRef) : e.KeepsKeyed (e.unlinkIncident incident r) := by
    unfold Ev.unlinkIncident
    split
    · exact .refl e
    · exact e.modIncident_keyed _ _
  unfold Ev.endIso
  split
  · exact .refl e
  · exact .last (.each waitOver _ _) (.last (Ev.modIso_keyed _ _ _) (.last (unlink _ _ _) (e.setIso_keyed _ _ _ _ _)))

/-- What giving up leaves of an isolation that is not in CLOSING. -/
theorem Ev.giveUp_iso {e : Ev} (wf : e.p.keyed) {slot : Nat} {i : Isolation} (h : e.iso? slot = some i)
    (idle : i.state ≠ .closing) {new : IsoState} (terminal : new.terminal = true) (cause : IsoCause) (other : Other) :
    (e.giveUp slot new cause other).p.keyed ∧ ∃ j, (e.giveUp slot new cause other).iso? slot = some j ∧ j.state = new
      ∧ j.endTime = some e.now ∧ j.incident = none ∧ j.failure = i.failure
      ∧ (i.authTime.isSome → j.holds = [] ∧ j.toIssue = []) := by
  cases ha : i.authTime with
  | none =>
    rw [Ev.giveUp_of_unauthorised h ha]
    refine ⟨Ev.endIso_keyed _ _ _ _ _ _ wf, _, Ev.endIso_iso wf h terminal _ _ _, rfl, i.moveTo_endTime terminal _, rfl, ?_,
      nofun⟩
    rw [Isolation.moveTo_eq]
  | some a =>
    rw [Ev.giveUp_of_authorised h (by rw [ha]; rfl)]
    obtain ⟨wf', free⟩ := Ev.unburdened_iso wf h idle
    have disowned := ((e.unburdened slot i).disowned_within slot i.outage).iso_same slot |>.trans free
    have now : ((e.unburdened slot i).disowned slot i.outage).now = e.now := by
      rw [← Ev.tearDown_eq h]
      exact (e.tearDown_within slot).now
    have wf'' := Ev.disowned_keyed (e.unburdened slot i) slot i.outage wf'
    refine ⟨Ev.endIso_keyed _ _ _ _ _ _ wf'', _, Ev.endIso_iso wf'' disowned terminal _ _ _,
      rfl, (Isolation.moveTo_endTime _ terminal _).trans (congrArg some now), rfl, ?_,
      fun _ => ⟨?_, ?_⟩⟩
    · rw [Isolation.moveTo_eq]
    · rw [Isolation.moveTo_eq]
    · exact Isolation.moveTo_toIssue_nil _ new ((e.unburdened slot i).disowned slot i.outage).now rfl

/-- Giving up an authorised isolation moves the generation once and leaves no claim of the slot. -/
theorem Ev.giveUp_authorised {e : Ev} {slot : Nat} {i : Isolation} (h : e.iso? slot = some i) (ha : i.authTime.isSome)
    (new : IsoState) (cause : IsoCause) (other : Other) :
    (e.giveUp slot new cause other).bumped = true
      ∧ ∀ k q, (e.giveUp slot new cause other).pipe? k = some q → q.claim ≠ some slot := by
  rw [Ev.giveUp_of_authorised h ha]
  have ends := ((e.unburdened slot i).disowned slot i.outage).endIso_within slot new cause other (e.tearDown slot).2
  refine ⟨ends.stays_bumped (Ev.disowned_bumped _ _ _), fun k q hq => ?_⟩
  have pipes : ((e.unburdened slot i).disowned slot i.outage).pipe? k = some q :=
    (congrArg (tget · k) (ends.pipes (by decide))).symm.trans hq
  cases hp : (e.unburdened slot i).pipe? k with
  | none => cases (Ev.disowned_pipe_none hp slot i.outage).symm.trans pipes
  | some p =>
    obtain ⟨c, x, o, eq, hc⟩ := Ev.disowned_pipe hp slot i.outage
    obtain rfl := Option.some.inj (pipes.symm.trans eq)
    exact hc

/-! ## CANCEL (R126, R127) -/

theorem Ev.dropTrace_keyed (e : Ev) (slot : Nat) : e.KeepsKeyed (e.dropTrace slot) := by
  unfold Ev.dropTrace
  dsimp only
  split
  · exact id
  · exact id

/-- Each of the three states is given up from the record without its trace or its wait. -/
theorem Ev.cancelNamed_of_early {e : Ev} (wf : e.p.keyed) {slot : Nat} {i : Isolation} (h : e.iso? slot = some i)
    (early : i.state = .planning ∨ i.state = .waiting ∨ i.state = .planned) :
    ∃ e' i', e.cancelNamed slot i = (e'.giveUp slot .cancelled .cancel .nothing, ⟨.ok, []⟩)
      ∧ Ev.Within [.isos, .trace] e e' ∧ e'.bumped = e.bumped ∧ e'.p.keyed ∧ e'.iso? slot = some i'
      ∧ i'.state = i.state ∧ i'.authTime = i.authTime := by
  obtain planning | waiting | planned := early
  · exact ⟨e.dropTrace slot, i, by simp only [Ev.cancelNamed, planning], .of (e.dropTrace_within slot),
      ((e.dropTrace_within slot).still (by decide) (by decide) (by decide)).2, e.dropTrace_keyed slot wf,
      ((e.dropTrace_within slot).iso_same slot).trans h, rfl, rfl⟩
  · exact ⟨e.modIso slot fun i => { i with waitingOn := none }, _, by simp only [Ev.cancelNamed, waiting],
      .of (e.modIso_within slot (fun _ => rfl) fun _ => rfl), rfl, e.modIso_keyed slot _ wf, Ev.modIso_iso h _, rfl, rfl⟩
  · exact ⟨e, i, by simp only [Ev.cancelNamed, planned], .refl _ e, rfl, wf, h, rfl, rfl⟩

/-- Settles O41: the state, the claims and the generation that giving up leaves. -/
theorem cancelEndsIsolation : Obligations.CancelEndsIsolation := by
  unfold Obligations.CancelEndsIsolation
  intro s f i h wf hp hr hs hi hser
  have run := exec_cancel h hp
  rw [State.onNamed_found (by simpa using hr) hs hi hser] at run
  refine ⟨fun early => ?_, fun late => ?_⟩
  · obtain ⟨e, i', eq, before, unmoved, wf', there, state, auth⟩ := Ev.cancelNamed_of_early (e := s.ev) wf hi early
    rw [eq] at run
    have idle : i'.state ≠ .closing := by
      rw [state]
      obtain planning | waiting | planned := early <;> simp [*]
    obtain ⟨wf'', j, hj, ended, time, incident, _, burden⟩ := Ev.giveUp_iso wf' there idle (new := .cancelled) rfl .cancel .nothing
    obtain ⟨l, suffix, settled⟩ := Ev.settle_iso (Plant.keyed_isos wf'') hj
    have all : Ev.Within Part.operating s.ev (e.giveUp (field f.payload 0 1) .cancelled .cancel .nothing) :=
      .last (Ev.giveUp_within _ _ _ _ _) (.of before)
    have now : e.now = s.link.partTime := before.now
    refine ⟨_, _, run, settled, ended, time.trans (congrArg some now), incident, ?_, ?_, fun unauth => ?_, fun authd => ?_⟩
    · exact (Ev.settle_mon _).trans (all.mon (by decide))
    · exact (Ev.settle_net_links _).trans (all.links (by decide))
    · have alone : Ev.Within [.isos, .trace, .reg] s.ev (e.giveUp (field f.payload 0 1) .cancelled .cancel .nothing) := by
        rw [Ev.giveUp_of_unauthorised there (auth.trans unauth)]
        exact .last (Ev.endIso_within _ _ _ _ _ _) (.of before)
      exact ⟨(Ev.settle_net_pipes _).trans (alone.pipes (by decide)),
        (Ev.settle_net_generation _).trans (alone.still (by decide) (by decide) (by decide)).1⟩
    · obtain ⟨holds, issue⟩ := burden (auth ▸ authd)
      obtain ⟨bumped, claims⟩ := Ev.giveUp_authorised there (auth ▸ authd) .cancelled .cancel .nothing
      refine ⟨holds, by rw [issue] at suffix; exact List.suffix_nil.1 suffix, fun k q hq => claims k q ?_, ?_⟩
      · exact (congrArg (tget · k) (Ev.settle_net_pipes _)).symm.trans hq
      · exact (Ev.settle_net_generation _).trans (all.bumped_generation rfl bumped)
  · have refused : s.ev.cancelNamed (field f.payload 0 1) i = (s.ev, ⟨.wrongState, []⟩) := by
      obtain closing | verifying | effective | restoring | relighting | terminal := late
      · simp only [Ev.cancelNamed, closing]
      · simp only [Ev.cancelNamed, verifying]
      · simp only [Ev.cancelNamed, effective]
      · simp only [Ev.cancelNamed, restoring]
      · simp only [Ev.cancelNamed, relighting]
      · obtain ended | failed | cancelled := (IsoState.terminal_iff _).1 terminal
        · simp only [Ev.cancelNamed, ended]
        · simp only [Ev.cancelNamed, failed]
        · simp only [Ev.cancelNamed, cancelled]
    rw [run, refused]
    rfl

/-! ## The end of a restoration (R172, R173) -/

/-- The end of an isolation up to its claims: the start timer stopped, OPEN orders withdrawn, the list emptied (R173). -/
def Ev.woundUp (e : Ev) (slot : Nat) (i : Isolation) : Ev :=
  ((e.modIso slot fun i => { i with ramp := i.ramp.map fun r => { r with startTimer := none } }).withdrawOpens
    ⟨slot, i.serial⟩).modIso slot fun i => { i with toIssue := [] }

section EndOf
variable {e : Ev} {slot : Nat} {i : Isolation} (h : e.iso? slot = some i)

include h

theorem Ev.endOf_eq (cause : IsoCause) :
    e.endOf slot cause = ((e.woundUp slot i).disowned slot i.outage).endIso slot .ended cause .nothing 0 := by
  simp only [Ev.endOf, h]
  rfl

omit h in
theorem Ev.woundUp_within (e : Ev) (slot : Nat) (i : Isolation) :
    Ev.Within [.isos, .orders, .controls] e (e.woundUp slot i) :=
  .last (Ev.modIso_within _ _ (fun _ => rfl) fun _ => rfl) (.last (Ev.withdrawOpens_within _ _)
    (.of (e.modIso_within slot (fun _ => rfl) fun _ => rfl)))

omit h in
theorem Ev.woundUp_keyed (e : Ev) (slot : Nat) (i : Isolation) : e.KeepsKeyed (e.woundUp slot i) :=
  .last (Ev.modIso_keyed _ _ _) (.last (Ev.withdrawOpens_keyed _ _) (e.modIso_keyed _ _))

omit h in
theorem Ev.endOf_keyed (e : Ev) (slot : Nat) (cause : IsoCause) : e.KeepsKeyed (e.endOf slot cause) := by
  cases h : e.iso? slot with
  | none => simp only [Ev.endOf, h]; exact .refl e
  | some i =>
    rw [Ev.endOf_eq h]
    exact .last (Ev.endIso_keyed _ _ _ _ _ _) (.last (Ev.disowned_keyed _ _ _) (e.woundUp_keyed _ _))

theorem Ev.woundUp_iso : (e.woundUp slot i).iso? slot
    = some { i with ramp := i.ramp.map (fun r => { r with startTimer := none }), toIssue := [] } :=
  Ev.modIso_iso (((Ev.withdrawOpens_within _ _).iso_same slot).trans (Ev.modIso_iso h _)) _

theorem Ev.endOf_bumped (cause : IsoCause) : (e.endOf slot cause).bumped = true := by
  rw [Ev.endOf_eq h]
  exact (Ev.endIso_within _ _ _ _ _ _).stays_bumped (Ev.disowned_bumped _ _ _)

theorem Ev.endOf_pipe {k : Nat} {p : PipeRt} (hp : e.pipe? k = some p) (cause : IsoCause) :
    ∃ c x o, (e.endOf slot cause).pipe? k = some { p with claim := c, supply := x, owner := o } ∧ c ≠ some slot := by
  rw [Ev.endOf_eq h]
  have wound : (e.woundUp slot i).pipe? k = some p :=
    (congrArg (tget · k) ((e.woundUp_within slot i).pipes (by decide))).trans hp
  obtain ⟨c, x, o, eq, hc⟩ := Ev.disowned_pipe wound slot i.outage
  exact ⟨c, x, o, (congrArg (tget · k) ((Ev.endIso_within _ _ _ _ _ _).pipes (by decide))).trans eq, hc⟩

/-- An isolation that ends: ENDED now, out of its incident, with no opening left to come. -/
theorem Ev.endOf_iso (wf : e.p.keyed) (cause : IsoCause) : ∃ j, (e.endOf slot cause).iso? slot = some j ∧ j.state = .ended
    ∧ j.endTime = some e.now ∧ j.incident = none ∧ j.toIssue = []
    ∧ j.ramp = i.ramp.map fun r => { r with startTimer := none } := by
  have now : ((e.woundUp slot i).disowned slot i.outage).now = e.now :=
    ((Ev.disowned_within _ _ _).now).trans (e.woundUp_within slot i).now
  have disowned := ((e.woundUp slot i).disowned_within slot i.outage).iso_same slot |>.trans (Ev.woundUp_iso h)
  rw [Ev.endOf_eq h]
  refine ⟨_, Ev.endIso_iso (Ev.disowned_keyed _ _ _ (e.woundUp_keyed slot i wf)) disowned rfl _ _ _, rfl,
    ?_, rfl, ?_, ?_⟩
  · rw [← now]
    exact Isolation.moveTo_endTime
      { i with ramp := i.ramp.map (fun r => { r with startTimer := none }), toIssue := [] }
      (new := .ended) rfl _
  · exact Isolation.moveTo_toIssue_nil _ .ended ((e.woundUp slot i).disowned slot i.outage).now rfl
  · rw [Isolation.moveTo_eq]

end EndOf

/-! ## CLOSE_OUT (R172, R186) -/

theorem Isolation.closable_iff (i : Isolation) : i.closable = true ↔
    i.state = .relighting ∨ (i.state = .restoring ∧ ∃ r, i.ramp = some r ∧ r.stall.isSome) := by
  simp [Isolation.closable, Option.any_eq_true]

theorem Ev.writeOff_pipe {e : Ev} {j : Nat} {p : PipeRt} (h : e.pipe? j = some p) (k : Nat) :
    (e.writeOff k).1.pipe? j = some { p with pending := if p.owner = some k then ⟨0, 0, 0⟩ else p.pending } := by
  refine (Ev.mapPipes_pipe? e j fun _ p => if p.owner = some k then { p with pending := {} } else p).trans ?_
  rw [h]
  by_cases owned : p.owner = some k
  · simp [owned]
  · simp [owned]

/-- What CLOSE_OUT writes off before the isolation ends. -/
def Ev.writtenOff (e : Ev) (outage : Option Nat) : Ev :=
  match outage with
  | some k => (e.writeOff k).1
  | none => e

theorem Ev.closeOutNamed_of_closable {i : Isolation} (closable : i.closable = true) (e : Ev) (slot : Nat) :
    ∃ r, e.closeOutNamed slot i = ((e.writtenOff i.outage).endOf slot .closedOut, r) := by
  have open_ : ¬ (!i.closable) = true := by simp [closable]
  rw [Ev.closeOutNamed, if_neg open_]
  cases i.outage with
  | none => exact ⟨_, rfl⟩
  | some k => exact ⟨_, rfl⟩

theorem Ev.writtenOff_within (e : Ev) (outage : Option Nat) : Ev.Within [.pipes, .records] e (e.writtenOff outage) := by
  cases outage with
  | none => exact .refl _ e
  | some k => exact e.writeOff_within k

theorem Ev.writtenOff_keyed (e : Ev) (outage : Option Nat) : e.KeepsKeyed (e.writtenOff outage) := by
  cases outage with
  | none => exact .refl e
  | some k => exact .last (Ev.modRecord_keyed _ _ _) (e.mapPipes_keyed _)

theorem Ev.writtenOff_pipe {e : Ev} {j : Nat} {p : PipeRt} (h : e.pipe? j = some p) (outage : Option Nat) :
    (e.writtenOff outage).pipe? j
      = some { p with pending := if p.owner.isSome ∧ p.owner = outage then ⟨0, 0, 0⟩ else p.pending } := by
  cases outage with
  | none =>
    have free : ¬ (p.owner.isSome ∧ p.owner = none) := by
      rintro ⟨some, none⟩
      simp [none] at some
    rw [if_neg free]
    exact h
  | some k =>
    refine (Ev.writeOff_pipe h k).trans ?_
    by_cases owned : p.owner = some k
    · simp [owned]
    · simp [owned]

/-- Settles O51: the write-off, then the end of the isolation. -/
theorem closeOutEndsIsolation : Obligations.CloseOutEndsIsolation := by
  unfold Obligations.CloseOutEndsIsolation
  intro s f i h wf hp hr hs hi hser
  have run := exec_closeOut h hp
  rw [State.onNamed_found (by simpa using hr) hs hi hser] at run
  refine ⟨fun open_ => ?_, fun shut => ?_⟩
  · obtain ⟨r, eq⟩ := Ev.closeOutNamed_of_closable (i.closable_iff.2 open_) s.ev (field f.payload 0 1)
    rw [eq] at run
    have before := s.ev.writtenOff_within i.outage
    have there : (s.ev.writtenOff i.outage).iso? (field f.payload 0 1) = some i := (before.iso_same _).trans hi
    have all : Ev.Within Part.operating s.ev ((s.ev.writtenOff i.outage).endOf (field f.payload 0 1) .closedOut) :=
      .last (Ev.endOf_within _ _ _) (.of before)
    have wf' := s.ev.writtenOff_keyed i.outage wf
    obtain ⟨j, hj, ended, time, incident, issue, _⟩ := Ev.endOf_iso there wf' .closedOut
    have settled := Ev.settle_iso_of_nil (Plant.keyed_isos (Ev.endOf_keyed _ _ _ wf')) hj issue
    refine ⟨_, j, run, settled, ended, time.trans (congrArg some before.now), incident, issue, fun k p hk => ?_, ?_, ?_, ?_⟩
    · obtain ⟨c, x, o, eq, hc⟩ := Ev.endOf_pipe there (Ev.writtenOff_pipe (e := s.ev) hk i.outage) .closedOut
      exact ⟨_, (congrArg (tget · k) (Ev.settle_net_pipes _)).trans eq, hc, rfl⟩
    · exact (Ev.settle_net_generation _).trans (all.bumped_generation rfl (Ev.endOf_bumped there _))
    · exact (Ev.settle_net_links _).trans (all.links (by decide))
    · exact (Ev.settle_mon _).trans (all.mon (by decide))
  · have refused : s.ev.closeOutNamed (field f.payload 0 1) i = (s.ev, ⟨.wrongState, []⟩) :=
      if_pos (by simpa using mt i.closable_iff.1 shut)
    rw [run, refused]
    rfl

end Sys2Proof.Machine
end

section
/-! An AUTHORISE that does not go through (R118 to R120) and the end of verification (R129 to R131): O40, O42. -/

namespace Sys2Proof.Machine

-- One theorem after another: theorems checked side by side each hold a thread and its stack.
set_option Elab.async false

/-! ## Nothing to issue (R141) -/

theorem Ev.modIso_noneToIssue {e : Ev} (h : e.p.noneToIssue) (slot : Nat) {f : Isolation → Isolation}
    (hf : ∀ i, i.toIssue = [] → (f i).toIssue = []) : (e.modIso slot f).p.noneToIssue := by
  simp only [Plant.noneToIssue, List.all_eq_true, List.isEmpty_iff] at h ⊢
  exact forall_mem_tmod h hf

theorem Ev.setIso_noneToIssue {e : Ev} (h : e.p.noneToIssue) (slot : Nat) (new : IsoState) (cause : IsoCause)
    (other : Other) (left : Nat) : (e.setIso slot new cause other left).p.noneToIssue := by
  unfold Ev.setIso
  split
  · exact h
  · exact Ev.modIso_noneToIssue h slot fun i hi => i.moveTo_toIssue_nil new e.now hi

theorem Ev.askTrace_noneToIssue {e : Ev} (h : e.p.noneToIssue) (slot : Nat) : (e.askTrace slot).p.noneToIssue := by
  have restarted := Ev.modIso_noneToIssue h slot (f := fun i => { i with restarts := 0 }) fun _ hi => hi
  unfold Ev.askTrace
  dsimp only
  split
  · exact h
  · split
    · exact h
    · split
      · exact restarted
      · exact restarted

/-! ## AUTHORISE turned back (R118 to R120) -/

theorem Ev.emergency_iff (e : Ev) (i : Isolation) : e.emergency i = true
    ↔ ∃ id k x, i.incident = some id ∧ e.p.reg.byId id = some (k, x) ∧ x.grade = 1 := by
  cases hi : i.incident with
  | none => simp [Ev.emergency, hi]
  | some id =>
    cases hx : e.p.reg.byId id with
    | none => simp [Ev.emergency, hi, hx]
    | some y =>
      obtain ⟨k, x⟩ := y
      simp [Ev.emergency, hi, hx]

/-- A PLANNED isolation goes back to planning for an authoriser (R120). -/
def Ev.retraced (e : Ev) (origin slot : Nat) : Ev :=
  ((e.modIso slot fun i => { i with carry := some origin }).setIso slot .planning .retraced).askTrace slot

section Retraced
variable {e : Ev} {slot : Nat} {i : Isolation}

theorem Ev.authoriseNamed_of_stale (planned : i.state = .planned) (other : e.emergency i = true ∨ origin ≠ i.requester)
    (stale : ∀ pl, i.plan = some pl → pl.gen ≠ e.p.net.generation) (slot : Nat) :
    e.authoriseNamed origin slot i = (e.retraced origin slot, ⟨.retraced, []⟩) := by
  have allowed : ¬ (origin = i.requester && !e.emergency i) = true := by
    obtain urgent | differs := other
    · simp [urgent]
    · simp [differs]
  have old : (!i.plan.any fun p => p.gen = e.p.net.generation) = true := by
    cases hp : i.plan with
    | none => rfl
    | some pl => simpa using stale pl hp
  rw [Ev.authoriseNamed, if_neg (not_not.2 planned), if_neg allowed, if_pos old]
  rfl

theorem Ev.retraced_within (e : Ev) (origin slot : Nat) : Ev.Within [.isos, .trace] e (e.retraced origin slot) :=
  .last (Ev.askTrace_within _ _) (.last (Ev.setIso_within _ _ _ _ _ _)
    (.of (e.modIso_within slot (fun _ => rfl) fun _ => rfl)))

theorem Ev.retraced_keyed (e : Ev) (origin slot : Nat) : e.KeepsKeyed (e.retraced origin slot) :=
  .last (Ev.askTrace_keyed _ _) (.last (Ev.setIso_keyed _ _ _ _ _ _) (e.modIso_keyed _ _))

theorem Ev.retraced_noneToIssue (h : e.p.noneToIssue) (origin slot : Nat) : (e.retraced origin slot).p.noneToIssue :=
  Ev.askTrace_noneToIssue (Ev.setIso_noneToIssue (Ev.modIso_noneToIssue h slot
    (f := fun i => { i with carry := some origin }) fun _ hi => hi) _ _ _ _ _) slot

variable (h : e.iso? slot = some i) (planned : i.state = .planned)

include h planned

theorem Ev.retraced_iso (origin : Nat) : ∃ n, (e.retraced origin slot).iso? slot
    = some { i with carry := some origin, state := .planning, restarts := n } := by
  have moved := Ev.setIso_iso (Ev.modIso_iso h fun i => { i with carry := some origin }) .planning .retraced .nothing 0
  rw [Isolation.moveTo_of_plain _ _ _ (by simp [planned]) rfl] at moved
  exact Ev.askTrace_iso moved

theorem Ev.retraced_awaits (origin : Nat) : (e.retraced origin slot).p.trace.awaits ⟨slot, i.serial⟩ := by
  have moved := Ev.setIso_iso (Ev.modIso_iso h fun i => { i with carry := some origin }) .planning .retraced .nothing 0
  have awaits := Ev.askTrace_awaits moved
  rwa [Isolation.moveTo_of_plain _ _ _ (by simp [planned]) rfl] at awaits

theorem Ev.retraced_out (origin : Nat) : e.out ++ [⟨.isolationState, slot,
    be 2 i.serial ++ [3, 1, 4] ++ be 1 0 ++ be 1 255 ++ be 2 65535 ++ [0], e.now⟩] <+: (e.retraced origin slot).out := by
  refine List.IsPrefix.trans ?_ (Ev.askTrace_within _ slot).out
  rw [Ev.setIso_of_iso (Ev.modIso_iso h fun i => { i with carry := some origin }), planned]
  exact List.prefix_rfl

end Retraced

/-- Settles O40: the checks in their order; the isolation that goes back, and the notice of it. -/
theorem authoriseTurnedBack : Obligations.AuthoriseTurnedBack := by
  unfold Obligations.AuthoriseTurnedBack
  intro s f i h wf hp hs hi hser
  have run := exec_authorise h hp
  refine ⟨fun no => ?_, fun hr state => ?_, fun hr planned same calm => ?_, fun hr planned other stale => ?_⟩
  · rw [run, State.onNamed_refused no]
    rfl
  · have refused : s.ev.authoriseNamed f.origin (field f.payload 0 1) i = (s.ev, ⟨.wrongState, []⟩) := if_pos state
    rw [run, State.onNamed_found (by simpa using hr) hs hi hser, refused]
    rfl
  · have refused : s.ev.authoriseNamed f.origin (field f.payload 0 1) i = (s.ev, ⟨.sameOrigin, []⟩) := by
      have own : (f.origin = i.requester && !s.ev.emergency i) = true := by
        simpa [same] using mt (s.ev.emergency_iff i).1 calm
      rw [Ev.authoriseNamed, if_neg (not_not.2 planned), if_pos own]
    rw [run, State.onNamed_found (by simpa using hr) hs hi hser, refused]
    rfl
  · rw [State.onNamed_found (by simpa using hr) hs hi hser,
      Ev.authoriseNamed_of_stale (e := s.ev) planned (other.symm.imp_left (s.ev.emergency_iff i).2) stale] at run
    obtain ⟨n, there⟩ := Ev.retraced_iso (e := s.ev) hi planned f.origin
    have frame := s.ev.retraced_within f.origin (field f.payload 0 1)
    have keyed := s.ev.retraced_keyed f.origin (field f.payload 0 1) wf
    have quiet (h : s.plant.noneToIssue) := Ev.retraced_noneToIssue (e := s.ev) h f.origin (field f.payload 0 1)
    have first := Ev.retraced_out (e := s.ev) hi planned f.origin
    have awaits := Ev.retraced_awaits (e := s.ev) hi planned f.origin
    generalize s.ev.retraced f.origin (field f.payload 0 1) = e at run there frame keyed quiet first awaits
    have all : Ev.Within [.regen, .isos, .orders, .controls, .records, .trace, .ask] s.ev e.settle :=
      .last e.settle_within (.of frame)
    obtain ⟨l, _, settled⟩ := Ev.settle_iso (Plant.keyed_isos keyed) there
    obtain ⟨more, link⟩ := State.taken_first (s := s) (f := f) (r := (e, ⟨.retraced, []⟩)) first
    refine ⟨_, more, _, run, settled, rfl, rfl, rfl, rfl, Ev.settle_awaits awaits, fun none => ?_, all.holders (by decide),
      ?_, all.pipes (by decide), link⟩
    · rw [State.taken_plant, Ev.settle_ctl (quiet none)]
      exact (frame.orders (by decide)).1
    · exact (Ev.settle_net_generation e).trans (frame.still (by decide) (by decide) (by decide)).1

/-! ## Verification (R128 to R131) -/

theorem Ev.madeSafe_keyed (e : Ev) (incident : Option Nat) (r : IsoRef) : e.KeepsKeyed (e.madeSafe incident r) := by
  unfold Ev.madeSafe
  split
  · exact .refl e
  · exact .ite (e.modIncident_keyed _ _) (.refl e)

theorem Ev.enterEffective_keyed (e : Ev) (slot : Nat) (cause : IsoCause) : e.KeepsKeyed (e.enterEffective slot cause) := by
  unfold Ev.enterEffective
  split
  · exact .refl e
  · exact .last (Ev.madeSafe_keyed _ _ _) (.last (Ev.modIso_keyed _ _ _) (e.setIso_keyed _ _ _ _ _))

theorem Ev.verified_keyed (e : Ev) (slot : Nat) (result : Verification) (cause : IsoCause) :
    e.KeepsKeyed (e.verified slot result cause) := .last (Ev.enterEffective_keyed _ _ _) (e.modIso_keyed _ _)

/-- Leaving VERIFYING takes the decay test and its timer along (R78, R129). -/
theorem Isolation.moveTo_of_verifying (i : Isolation) (h : i.state = .verifying) (now : Nat) :
    i.moveTo .effective now = { i with state := .effective, decay := false, verifyTimer := none } := by
  simp [Isolation.moveTo, h, IsoState.terminal]

section Verifying
variable {e : Ev} {slot : Nat} {i : Isolation} (h : e.iso? slot = some i) (verifying : i.state = .verifying)

include h verifying

theorem Ev.enterEffective_iso (cause : IsoCause) : (e.enterEffective slot cause).iso? slot
    = some { i with state := .effective, decay := false, verifyTimer := none, effectTime := some e.now } := by
  have moved := Ev.setIso_iso h .effective cause .nothing 0
  rw [Isolation.moveTo_of_verifying i verifying] at moved
  simp only [Ev.enterEffective, h]
  refine ((Ev.madeSafe_within _ _ _).iso_same slot).trans ((Ev.modIso_iso moved _).trans ?_)
  rw [(e.setIso_within slot .effective cause .nothing 0).now]

theorem Ev.verified_iso (result : Verification) (cause : IsoCause) : (e.verified slot result cause).iso? slot
    = some { i with result := result, state := .effective, decay := false, verifyTimer := none, effectTime := some e.now } :=
  Ev.enterEffective_iso (Ev.modIso_iso h fun i => { i with result := result }) verifying cause

variable {d : Nat} (timer : i.verifyTimer = some d) (reached : d ≤ e.now)

include timer reached

/-- What the expiry of a reached timer does: the timer stops, and the stations left to read judge. -/
theorem Ev.verifyExpiry_of_no_station (none : e.liveStations i = []) : e.verifyExpiry slot
    = (e.modIso slot fun i => { i with verifyTimer := Option.none }).verified slot .unverified .noStation := by
  have due : (i.state = .verifying && i.verifyTimer.any (· ≤ e.now)) = true := by simp [verifying, timer, reached]
  have empty : ((e.modIso slot fun i => { i with verifyTimer := Option.none }).liveStations i).isEmpty = true :=
    List.isEmpty_iff.2 none
  simp only [Ev.verifyExpiry, h]
  rw [if_pos due, if_pos empty]

theorem Ev.verifyExpiry_of_decayed (some : e.liveStations i ≠ [])
    (below : (tkeysWhere (e.liveStations i) fun _ s => e.aboveDead s) = []) : e.verifyExpiry slot
      = (e.modIso slot fun i => { i with verifyTimer := none }).verified slot .verified .decayed := by
  have due : (i.state = .verifying && i.verifyTimer.any (· ≤ e.now)) = true := by simp [verifying, timer, reached]
  have left : ¬ ((e.modIso slot fun i => { i with verifyTimer := none }).liveStations i).isEmpty = true :=
    mt List.isEmpty_iff.1 some
  simp only [Ev.verifyExpiry, h]
  rw [if_pos due, if_neg left]
  split
  · rfl
  · next above => exact absurd (above.symm.trans below) (List.cons_ne_nil _ _)

theorem Ev.verifyExpiry_of_above (above : (tkeysWhere (e.liveStations i) fun _ s => e.aboveDead s) ≠ []) :
    ∃ n lowest, e.verifyExpiry slot = ((e.modIso slot fun i => { i with verifyTimer := none }).modIso slot
      fun i => { i with result := .passingSuspected }).notePassing slot i.serial n lowest := by
  have due : (i.state = .verifying && i.verifyTimer.any (· ≤ e.now)) = true := by simp [verifying, timer, reached]
  have left : ¬ ((e.modIso slot fun i => { i with verifyTimer := none }).liveStations i).isEmpty = true := by
    intro empty
    have none : e.liveStations i = [] := List.isEmpty_iff.1 empty
    exact above (by rw [none]; rfl)
  simp only [Ev.verifyExpiry, h]
  rw [if_pos due, if_neg left]
  split
  · next below => exact absurd below above
  · exact ⟨_, _, rfl⟩

end Verifying

/-- Settles O42: the three outcomes at the reached timer by the stations left to read, and ACCEPT. -/
theorem verificationEnds : Obligations.VerificationEnds := by
  unfold Obligations.VerificationEnds
  refine ⟨fun s slot d i hc wf hi verifying timer reached => ?_, fun s f i h wf hp hr hs hi hser => ⟨fun verifying suspect => ?_,
    fun other => ?_⟩⟩
  · have left : s.ev.liveStations i = s.plant.mon.stations.filter fun x => (x.2.cfg.node.any fun n => i.nodes.contains n)
        && (x.2.rt.freshness = .fresh || x.2.rt.freshness = .suspect) := by
      rw [Ev.liveStations, Ev.sectionStations, List.filter_filter]
      exact List.filter_congr fun x _ => Bool.and_comm _ _
    have above : (tkeysWhere (s.ev.liveStations i) fun _ x => s.ev.aboveDead x) = [] ↔
        ((s.ev.liveStations i).filter fun x => s.plant.mon.dead.at x.2.cfg.tier < roundDiv x.2.rt.s16 16) = [] :=
      List.map_eq_nil_iff
    dsimp only
    rw [← left]
    have run : exec (.verifyTimerExpiry slot) s = .next (s.event fun e => e.verifyExpiry slot) :=
      congrArg Host.Outcome.next (if_neg (by simp [hc]))
    have frame := s.ev.verifyExpiry_within slot
    have stopped := Ev.modIso_iso (e := s.ev) hi fun i => { i with verifyTimer := none }
    have wf' := s.ev.modIso_keyed slot (fun i => { i with verifyTimer := none }) wf
    have pipes := (Ev.settle_net_pipes _).trans (frame.pipes (by decide))
    have generation := (Ev.settle_net_generation _).trans (frame.still (by decide) (by decide) (by decide)).1
    have mon := (Ev.settle_mon _).trans (frame.mon (by decide))
    by_cases none : s.ev.liveStations i = []
    · have eq := Ev.verifyExpiry_of_no_station (e := s.ev) hi verifying timer reached none
      obtain ⟨l, _, settled⟩ := Ev.settle_iso (Plant.keyed_isos (Ev.verified_keyed _ _ _ _ wf'))
        (Ev.verified_iso stopped verifying .unverified .noStation)
      rw [← eq] at settled
      exact ⟨_, _, run, settled, rfl, fun _ => ⟨rfl, rfl, rfl⟩, fun some => absurd none some,
        fun high => absurd (by rw [none]; rfl) high, pipes, generation, mon⟩
    · by_cases high : (tkeysWhere (s.ev.liveStations i) fun _ x => s.ev.aboveDead x) = []
      · have eq := Ev.verifyExpiry_of_decayed (e := s.ev) hi verifying timer reached none high
        obtain ⟨l, _, settled⟩ := Ev.settle_iso (Plant.keyed_isos (Ev.verified_keyed _ _ _ _ wf'))
          (Ev.verified_iso stopped verifying .verified .decayed)
        rw [← eq] at settled
        exact ⟨_, _, run, settled, rfl, fun empty => absurd empty none, fun _ _ => ⟨rfl, rfl, rfl⟩,
          fun some => absurd (above.1 high) some, pipes, generation, mon⟩
      · obtain ⟨n, lowest, eq⟩ := Ev.verifyExpiry_of_above (e := s.ev) hi verifying timer reached high
        have there := Ev.modIso_iso stopped fun i => { i with result := .passingSuspected }
        obtain ⟨l, _, settled⟩ := Ev.settle_iso (e := s.ev.verifyExpiry slot)
          (by rw [eq]; exact Plant.keyed_isos (Ev.modIso_keyed _ slot (fun i => { i with result := .passingSuspected }) wf'))
          (by rw [eq]; exact there)
        exact ⟨_, _, run, settled, rfl, fun empty => absurd empty none, fun _ empty => absurd (above.2 empty) high,
          fun _ => ⟨verifying, rfl, rfl⟩, pipes, generation, mon⟩
  · have eq : s.ev.acceptNamed (field f.payload 0 1) i = (s.ev.enterEffective (field f.payload 0 1) .accepted, ⟨.ok, []⟩) :=
      if_pos (by simp [verifying, suspect])
    have run := exec_accept h hp
    rw [State.onNamed_found (by simpa using hr) hs hi hser, eq] at run
    have frame := s.ev.enterEffective_within (field f.payload 0 1) .accepted
    obtain ⟨l, _, settled⟩ := Ev.settle_iso (Plant.keyed_isos (s.ev.enterEffective_keyed _ _ wf))
      (Ev.enterEffective_iso (e := s.ev) hi verifying .accepted)
    exact ⟨_, _, run, settled, rfl, suspect, rfl, rfl, rfl, (Ev.settle_net_pipes _).trans (frame.pipes (by decide)),
      (Ev.settle_net_generation _).trans (frame.still (by decide) (by decide) (by decide)).1⟩
  · have refused : s.ev.acceptNamed (field f.payload 0 1) i = (s.ev, ⟨.wrongState, []⟩) := by
      refine if_neg fun both => ?_
      simp only [Bool.and_eq_true, decide_eq_true_eq] at both
      exact other.elim (absurd both.1) (absurd both.2)
    rw [exec_accept h hp, State.onNamed_found (by simpa using hr) hs hi hser, refused]
    rfl

end Sys2Proof.Machine
end

section
/-! A new isolation (R113, R114) and a relight report (R169, R170, R185): O34, O50. -/

namespace Sys2Proof.Machine

-- One theorem after another: theorems checked side by side each hold a thread and its stack.
set_option Elab.async false

/-! ## ISOLATE (R113, R114) -/

/-- The targets of an ISOLATE: those it names, or of none the pipe of its incident (R113). -/
def targetsWith (p : List Byte) (inc : Option (Nat × Incident)) : List Nat :=
  if field p 0 1 = 0 then (inc.bind fun x => x.2.pipe).toList else targetsOf p

theorem targetsOf_eq_nil (p : List Byte) : targetsOf p = [] ↔ field p 0 1 = 0 := by simp [targetsOf]

theorem Ev.targetFault_none {e : Ev} {ts : List Nat}
    (h : ∀ k ∈ ts, k ≤ 6143 ∧ ∃ l, tget e.p.net.links k = some l ∧ l.kind = .pipe) : e.targetFault ts = none := by
  have range : ¬ (ts.any fun t => Config.maxLink < t) = true := by
    simpa [Config.maxLink] using fun k hk => (h k hk).1
  have present : ¬ (ts.any fun t => (e.link? t).isNone) = true := by
    simp only [List.any_eq_true, not_exists, not_and]
    intro k hk absent
    obtain ⟨_, l, hl, _⟩ := h k hk
    simp [Ev.link?, hl] at absent
  have kind : ¬ (ts.any fun t => (e.link? t).any fun l => l.kind ≠ .pipe) = true := by
    simp only [List.any_eq_true, not_exists, not_and]
    intro k hk other
    obtain ⟨_, l, hl, pipe⟩ := h k hk
    simp [Ev.link?, hl, pipe] at other
  rw [Ev.targetFault, if_neg range, if_neg present, if_neg kind]

theorem IncidentRegister.asked_free {r : IncidentRegister} {id k : Nat} {x : Incident} (h : r.byId id = some (k, x))
    (uncleared : x.state ≠ .cleared) (free : x.iso = none) : r.asked id = .inr (k, x) := by
  simp [IncidentRegister.asked, h, Incident.uncleared, uncleared, free]

theorem Ev.isolateNamed_eq {e : Ev} {p : List Byte} {inc : Option (Nat × Incident)} (targeted : targetsWith p inc ≠ [])
    (room : e.p.trace.fifo.length < 8) {slot : Nat} (free : e.p.ctl.freeSlot = some slot) (origin : Nat) (hold : Bool) :
    e.isolateNamed origin (targetsOf p) hold inc = e.newIsolation origin (targetsWith p inc) hold inc slot := by
  have targets : (if (targetsOf p).isEmpty then inc.bind fun x => x.2.pipe.map fun p => [p] else some (targetsOf p))
      = some (targetsWith p inc) := by
    unfold targetsWith at targeted ⊢
    simp only [List.isEmpty_iff, targetsOf_eq_nil]
    split_ifs with zero
    · rw [if_pos zero] at targeted
      cases inc with
      | none => exact absurd rfl targeted
      | some x =>
        cases hp : x.2.pipe with
        | none => simp [hp] at targeted
        | some k => simp [hp]
    · rfl
  simp only [Ev.isolateNamed, targets, free]
  exact if_neg (Nat.not_le.2 room)

section Isolate
variable {s : State} {f : Frame} {inc : Option (Nat × Incident)} (h : s.handles f 0x10) (hr : s.allows f .operate)
  (ha : s.plant.net.state = .active) (hp : f.payload.length = 4 + 2 * field f.payload 0 1) (h4 : field f.payload 0 1 ≤ 4)
  (pipes : ∀ k ∈ targetsOf f.payload, k ≤ 6143 ∧ ∃ l, tget s.plant.net.links k = some l ∧ l.kind = .pipe)

include h hr ha hp h4 pipes

theorem exec_isolate_alone (unnamed : field f.payload 2 2 = 0) (given : field f.payload 0 1 ≠ 0) :
    exec .isolate s = .next (s.taken f (s.ev.isolateNamed f.origin (targetsOf f.payload) (flagAt f.payload 1 0) none)) := by
  refine congrArg Host.Outcome.next ((State.answerEv_taken h rfl _).trans (congrArg (s.taken f) ?_))
  have length : ¬ (!isolateLengthOk f.payload) = true := by
    simp only [isolateLengthOk, hp, Bool.not_eq_true', decide_true, Bool.and_true, Bool.not_eq_false, decide_eq_true_eq]
    omega
  have active : ¬ (!s.ev.active) = true := by simp [Ev.active, ha]
  have incident : namedIncident f.payload = none := if_pos unnamed
  have targeted : ¬ (targetsOf f.payload).isEmpty = true := by simpa [targetsOf_eq_nil] using given
  have right : ¬ (!(s.req f).rights.operate) = true := State.grants hr
  rw [Ev.isolate, if_neg right]
  simp only [State.req_payload, if_neg length, if_neg active, if_neg (Nat.not_lt.2 h4),
    Ev.targetFault_none (e := s.ev) pipes, incident]
  exact if_neg targeted

theorem exec_isolate_incident {k : Nat} {x : Incident} (named : field f.payload 2 2 ≠ 0)
    (hx : s.plant.reg.byId (field f.payload 2 2) = some (k, x)) (uncleared : x.state ≠ .cleared) (free : x.iso = none) :
    exec .isolate s
      = .next (s.taken f (s.ev.isolateNamed f.origin (targetsOf f.payload) (flagAt f.payload 1 0) (some (k, x)))) := by
  refine congrArg Host.Outcome.next ((State.answerEv_taken h rfl _).trans (congrArg (s.taken f) ?_))
  have length : ¬ (!isolateLengthOk f.payload) = true := by
    simp only [isolateLengthOk, hp, Bool.not_eq_true', decide_true, Bool.and_true, Bool.not_eq_false, decide_eq_true_eq]
    omega
  have active : ¬ (!s.ev.active) = true := by simp [Ev.active, ha]
  have incident : namedIncident f.payload = some (field f.payload 2 2) := if_neg named
  have right : ¬ (!(s.req f).rights.operate) = true := State.grants hr
  rw [Ev.isolate, if_neg right]
  simp only [State.req_payload, if_neg length, if_neg active, if_neg (Nat.not_lt.2 h4),
    Ev.targetFault_none (e := s.ev) pipes, incident, IncidentRegister.asked_free hx uncleared free]
  rfl

end Isolate

/-- A trace request leaves an isolation that has no restart as it is. -/
theorem Ev.askTrace_iso_fresh {e : Ev} {slot : Nat} {i : Isolation} (h : e.iso? slot = some i) (fresh : i.restarts = 0) :
    (e.askTrace slot).iso? slot = some i := by
  have same : { i with restarts := 0 } = i := by rw [← fresh]
  unfold Ev.askTrace
  simp only [h]
  split
  · exact h
  · split
    · exact (Ev.modIso_iso h fun i => { i with restarts := 0 }).trans (congrArg some same)
    · exact (Ev.modIso_iso h fun i => { i with restarts := 0 }).trans (congrArg some same)

/-- At the end of an event every isolation is in the state it was in. -/
theorem Ev.settle_iso_state {e : Ev} (wf : tableWf e.p.ctl.isos) (k : Nat) :
    (e.settle.iso? k).map (·.state) = (e.iso? k).map (·.state) := by
  cases h : e.iso? k with
  | none =>
    have fixed := e.settle_within.fixed (by decide) k
    rw [h] at fixed
    rw [Option.map_eq_none_iff.1 fixed]
  | some i =>
    obtain ⟨l, _, eq⟩ := Ev.settle_iso wf h
    rw [eq]
    rfl

/-- The isolation an accepted ISOLATE makes (R114). -/
def Ev.founded (e : Ev) (origin : Nat) (targets : List Nat) (hold : Bool) (incident : Option (Nat × Incident)) : Isolation :=
  { serial := e.p.ctl.serial, requester := origin, incident := incident.map (·.2.id), targets := targets, hold := hold
    requestTime := e.now }

/-- The new isolation in its slot, with its incident linked, before its trace is asked for. -/
def Ev.founding (e : Ev) (incident : Option (Nat × Incident)) (slot : Nat) (i : Isolation) : Ev :=
  let e' : Ev := { e with p.ctl.isos := tset e.p.ctl.isos slot i, p.ctl.serial := (e.p.ctl.serial + 1) % 65536 }
  match incident with
  | some (k, _) => e'.modIncident k fun x => { x with iso := some ⟨slot, e.p.ctl.serial⟩ }
  | none => e'

section Founding
variable (e : Ev) (inc : Option (Nat × Incident)) (slot : Nat) (i : Isolation)

theorem Ev.newIsolation_eq (origin : Nat) (targets : List Nat) (hold : Bool) :
    e.newIsolation origin targets hold inc slot
      = (((e.founding inc slot (e.founded origin targets hold inc)).askTrace slot).noteIso slot e.p.ctl.serial none .planning
          .requested .nothing 0, ⟨if hold then .held else .ok, be 1 slot ++ be 2 e.p.ctl.serial⟩) := by
  cases inc with
  | none => rfl
  | some x => rfl

@[simp] theorem Ev.founding_isos : (e.founding inc slot i).p.ctl.isos = tset e.p.ctl.isos slot i := by
  cases inc with
  | none => rfl
  | some x => rfl

@[simp] theorem Ev.founding_serial : (e.founding inc slot i).p.ctl.serial = (e.p.ctl.serial + 1) % 65536 := by
  cases inc with
  | none => rfl
  | some x => rfl

@[simp] theorem Ev.founding_out : (e.founding inc slot i).out = e.out := by
  cases inc with
  | none => rfl
  | some x => rfl

@[simp] theorem Ev.founding_now : (e.founding inc slot i).now = e.now := by
  cases inc with
  | none => rfl
  | some x => rfl

theorem Ev.founding_iso : (e.founding inc slot i).iso? slot = some i := by
  rw [Ev.iso?, Ev.founding_isos, tget_tset_same]

theorem Ev.founding_keyed : e.KeepsKeyed (e.founding inc slot i) := by
  have put : e.KeepsKeyed
      { e with p.ctl.isos := tset e.p.ctl.isos slot i, p.ctl.serial := (e.p.ctl.serial + 1) % 65536 } :=
    fun ⟨pipes, controls, isos, rest⟩ => ⟨pipes, controls, tableWf_tset isos slot i, rest⟩
  cases inc with
  | none => exact put
  | some x => exact .last (Ev.modIncident_keyed _ _ _) put

theorem Ev.founding_register (k : Nat) : (∀ j x, inc = some (j, x) → tget (e.founding inc slot i).p.reg.table k
      = if k = j then (tget e.p.reg.table k).map fun x => { x with iso := some ⟨slot, e.p.ctl.serial⟩ }
        else tget e.p.reg.table k)
    ∧ (inc = none → tget (e.founding inc slot i).p.reg.table k = tget e.p.reg.table k) := by
  constructor
  · rintro j x rfl
    exact tget_tmod e.p.reg.table j (fun x => { x with iso := some ⟨slot, e.p.ctl.serial⟩ }) k
  · rintro rfl
    rfl

theorem Ev.askTrace_out : (e.askTrace slot).out = e.out := by
  unfold Ev.askTrace
  dsimp only
  split
  · rfl
  · split
    · rfl
    · split
      · rfl
      · rfl

end Founding

/-- Settles O34: the isolation in the lowest empty slot, its incident, its trace and its notice. -/
theorem isolateStartsPlanning : Obligations.IsolateStartsPlanning := by
  unfold Obligations.IsolateStartsPlanning
  intro s f slot inc h hr ha wf ts hold serial now hp h4 targeted pipes named room hslot empty used
  have free : s.plant.ctl.freeSlot = some slot := by
    have lowest : lowestFree s.plant.ctl.isos 0 Config.isolationSlots = some slot :=
      lowestFree_eq (Nat.zero_le _) hslot empty fun j hj _ => used j hj
    simp only [IsolationController.freeSlot, lowest]
  have run : exec .isolate s = .next (s.taken f (s.ev.newIsolation f.origin ts hold inc slot)) := by
    have eq := Ev.isolateNamed_eq (e := s.ev) targeted room free f.origin hold
    rw [← show targetsWith f.payload inc = ts from rfl, ← eq]
    cases inc with
    | none =>
      refine exec_isolate_alone h hr ha hp h4 pipes named fun zero => targeted ?_
      exact if_pos zero
    | some x =>
      obtain ⟨k, x⟩ := x
      obtain ⟨hid, hx, uncleared, unlinked⟩ := named
      exact exec_isolate_incident h hr ha hp h4 pipes hid hx uncleared unlinked
  have frame : Ev.Within Part.founding s.ev (s.ev.newIsolation f.origin ts hold inc slot).1 :=
    s.ev.newIsolation_within _ _ _ _ free
  let i := s.ev.founded f.origin ts hold inc
  let e := (s.ev.founding inc slot i).askTrace slot
  rw [Ev.newIsolation_eq] at run frame
  have there : e.iso? slot = some i := Ev.askTrace_iso_fresh (s.ev.founding_iso inc slot i) rfl
  have wf' : tableWf e.p.ctl.isos :=
    Plant.keyed_isos (Ev.askTrace_keyed _ slot (s.ev.founding_keyed inc slot i wf))
  have asked := (s.ev.founding inc slot i).askTrace_within slot
  let g := e.noteIso slot serial none .planning .requested .nothing 0
  have first : [s.notice .isolationState slot (be 2 serial ++ [0, 1, 0] ++ be 1 0 ++ be 1 255 ++ be 2 65535 ++ [0])]
      <+: g.out := by
    simp only [g, Ev.noteIso, Ev.note, Ev.askTrace_out, Ev.founding_out, asked.now, Ev.founding_now, e]
    exact List.prefix_rfl
  obtain ⟨more, link⟩ := State.taken_first (s := s) (f := f)
    (r := (g, ⟨if hold then .held else .ok, be 1 slot ++ be 2 serial⟩)) first
  refine ⟨_, more, run, ?_, fun k hk => ?_, ?_, fun k => ?_, ?_, ?_, ?_, ?_, link⟩
  · exact Ev.settle_iso_of_nil (e := g) wf' there rfl
  · have other : e.iso? k = s.ev.iso? k := by
      rw [(Ev.askTrace_isosBut _ slot) k (by simpa using hk), Ev.iso?, Ev.founding_isos, tget_tset_other _ hk]
      rfl
    exact (Ev.settle_iso_state (e := g) wf' k).trans (congrArg (Option.map _) other)
  · exact (Ev.settle_ctl_serial g).trans ((asked.serial (by decide)).trans (Ev.founding_serial _ _ _ _))
  · obtain ⟨linked, alone⟩ := Ev.founding_register s.ev inc slot i k
    have same : g.settle.p.reg = (s.ev.founding inc slot i).p.reg := (Ev.settle_reg g).trans (asked.reg (by decide))
    rw [State.taken_plant]
    refine (congrArg (fun r => tget r.table k) same).trans ?_
    cases inc with
    | none => exact alone rfl
    | some x => exact linked x.1 x.2 rfl
  · exact Ev.settle_awaits (e := g) (Ev.askTrace_awaits (s.ev.founding_iso inc slot i))
  · exact (Ev.settle_net_generation g).trans (frame.still (by decide) (by decide) (by decide)).1
  · exact (Ev.settle_net_pipes g).trans (frame.pipes (by decide))
  · exact (Ev.settle_mon g).trans (frame.mon (by decide))

/-! ## RELIGHT_REPORT (R169, R170, R185) -/

theorem Ev.endOf_pending (e : Ev) (slot : Nat) (cause : IsoCause) (k : Nat) :
    ((e.endOf slot cause).pipe? k).map (·.pending) = (e.pipe? k).map (·.pending) := by
  cases h : e.iso? slot with
  | none => simp only [Ev.endOf, h]
  | some i =>
    cases hp : e.pipe? k with
    | some p =>
      obtain ⟨c, x, o, eq, _⟩ := Ev.endOf_pipe h hp cause
      rw [eq]
      rfl
    | none =>
      have wound : (e.woundUp slot i).pipe? k = none :=
        (congrArg (tget · k) ((e.woundUp_within slot i).pipes (by decide))).trans hp
      have gone := Ev.disowned_pipe_none wound slot i.outage
      rw [Ev.endOf_eq h]
      exact congrArg (Option.map _)
        ((congrArg (tget · k) ((Ev.endIso_within _ _ _ _ _ _).pipes (by decide))).trans gone)

theorem Ev.closeRecordOf_relights (e : Ev) (n : Option Nat) (k : Nat) :
    ((e.closeRecordOf n).record? k).map (·.relights) = (e.record? k).map (·.relights) := by
  cases n with
  | none => rfl
  | some n =>
    rw [Ev.closeRecordOf, Ev.closeRecord_record?]
    split
    · cases e.record? k <;> rfl
    · rfl

theorem Ev.endOf_relights (e : Ev) (slot : Nat) (cause : IsoCause) (k : Nat) :
    ((e.endOf slot cause).record? k).map (·.relights) = (e.record? k).map (·.relights) := by
  cases h : e.iso? slot with
  | none => simp only [Ev.endOf, h]
  | some i =>
    rw [Ev.endOf_eq h]
    have before : Ev.Within [.isos, .orders, .controls, .pipes, .bump, .ask] e
        (((e.woundUp slot i).releaseClaims slot fun _ => true).bump.askRecompute) :=
      .last (Ev.askRecompute_within _) (.last (Ev.bump_within _) (.last (Ev.releaseClaims_within _ _ _)
        (.of (e.woundUp_within slot i))))
    calc (((e.woundUp slot i).disowned slot i.outage).endIso slot .ended cause .nothing 0 |>.record? k).map (·.relights)
        = (((e.woundUp slot i).disowned slot i.outage).record? k).map (·.relights) :=
          congrArg (fun t => (tget t k).map (·.relights)) ((Ev.endIso_within _ _ _ _ _ _).records (by decide))
      _ = ((((e.woundUp slot i).releaseClaims slot fun _ => true).bump.askRecompute).record? k).map (·.relights) :=
          Ev.closeRecordOf_relights _ _ _
      _ = (e.record? k).map (·.relights) :=
          congrArg (fun t => (tget t k).map (·.relights)) (before.records (by decide))

/-- The ending check after a report ends the record's isolation or does nothing (R170, R171). -/
theorem Ev.recordEnding_cases (e : Ev) (owner : Nat) :
    e.recordEnding owner = e ∨ ∃ slot, e.recordEnding owner = e.endOf slot .relit := by
  unfold Ev.recordEnding
  split
  · exact .inl rfl
  · next r _ =>
    split
    · unfold Ev.endingCheck
      split
      · exact .inl rfl
      · split
        · exact .inr ⟨r.slot, rfl⟩
        · exact .inl rfl
    · exact .inl rfl

theorem Ev.recordEnding_pending (e : Ev) (owner k : Nat) :
    ((e.recordEnding owner).pipe? k).map (·.pending) = (e.pipe? k).map (·.pending) := by
  obtain eq | ⟨slot, eq⟩ := e.recordEnding_cases owner
  · rw [eq]
  · rw [eq, Ev.endOf_pending]

theorem Ev.recordEnding_relights (e : Ev) (owner k : Nat) :
    ((e.recordEnding owner).record? k).map (·.relights) = (e.record? k).map (·.relights) := by
  obtain eq | ⟨slot, eq⟩ := e.recordEnding_cases owner
  · rw [eq]
  · rw [eq, Ev.endOf_relights]

theorem Ev.relight_pipe? (e : Ev) (pipe owner : Nat) (a : Counts) (k : Nat) : (e.relight pipe owner a).pipe? k
    = if k = pipe then (e.pipe? k).map fun p => { p with pending := p.pending.sub a } else e.pipe? k :=
  tget_tmod e.p.net.pipes pipe (fun p => { p with pending := p.pending.sub a }) k

theorem Ev.relight_record? (e : Ev) (pipe owner : Nat) (a : Counts) : (e.relight pipe owner a).record? owner
    = (e.record? owner).map fun o => { o with relights := o.relights.bump a } :=
  (Ev.modRecord_record? _ owner owner _).trans (if_pos rfl)

theorem Ev.relightable_of {e : Ev} {p : PipeRt} (h : p.supply = .live ∨ (p.supply = .recharging ∧
    ∃ c i, p.claim = some c ∧ tget e.p.ctl.isos c = some i ∧ i.state = .relighting)) : e.relightable p = true := by
  obtain live | ⟨recharging, c, i, claim, hi, relighting⟩ := h
  · simp only [Ev.relightable, live]
  · simp [Ev.relightable, recharging, claim, Ev.iso?, hi, relighting]

theorem exec_relightReport {s : State} {f : Frame} {l : Link} {p : PipeRt} {k : Nat} (h : s.handles f 0x1A)
    (hp : f.payload.length = 8) (hr : s.allows f .operate) (ha : s.plant.net.state = .active)
    (hid : field f.payload 0 2 ≤ 6143) (small : ∀ n ∈ [2, 4, 6], field f.payload n 2 ≤ 4095)
    (hl : tget s.plant.net.links (field f.payload 0 2) = some l) (kind : l.kind = .pipe)
    (there : tget s.plant.net.pipes (field f.payload 0 2) = some p) (owned : p.owner = some k)
    (gas : s.ev.relightable p = true) : exec .relightReport s
      = .next (s.taken f (s.ev.takeRelight (field f.payload 0 2) k p (relightCounts f.payload))) := by
  refine congrArg Host.Outcome.next ((State.answerEv_taken h rfl _).trans (congrArg (s.taken f) ?_))
  have right : ¬ (!(s.req f).rights.operate) = true := State.grants hr
  have length : ¬ f.payload.length ≠ 8 := not_not.2 hp
  have active : ¬ (!s.ev.active) = true := by simp [Ev.active, ha]
  have range : ¬ (Config.maxLink < field f.payload 0 2 || Config.maxService < (relightCounts f.payload).p
      || Config.maxService < (relightCounts f.payload).c || Config.maxService < (relightCounts f.payload).d) = true := by
    simp only [Bool.or_eq_true]
    rintro (((above | above) | above) | above)
    · exact absurd (of_decide_eq_true above) (Nat.not_lt.2 hid)
    · exact absurd (of_decide_eq_true above) (Nat.not_lt.2 (small 2 (by simp)))
    · exact absurd (of_decide_eq_true above) (Nat.not_lt.2 (small 4 (by simp)))
    · exact absurd (of_decide_eq_true above) (Nat.not_lt.2 (small 6 (by simp)))
  have link : s.ev.link? (field f.payload 0 2) = some l := hl
  have pipe : s.ev.pipe? (field f.payload 0 2) = some p := there
  rw [Ev.relightReport, if_neg right]
  simp only [State.req_payload, if_neg length, if_neg active, link, kind, ne_eq, not_true_eq_false, if_false,
    Ev.relightPipe, pipe, owned]
  exact (if_neg range).trans (if_pos gas)

theorem Ev.takeRelight_pending (e : Ev) (pipe owner : Nat) (p : PipeRt) (c : Counts) (k : Nat) :
    ((e.takeRelight pipe owner p c).1.pipe? k).map (·.pending)
      = ((e.relight pipe owner (c.least p.pending)).pipe? k).map (·.pending) := by
  unfold Ev.takeRelight
  dsimp only
  split
  · rfl
  · exact Ev.recordEnding_pending _ _ _

theorem Ev.takeRelight_relights (e : Ev) (pipe owner : Nat) (p : PipeRt) (c : Counts) (k : Nat) :
    ((e.takeRelight pipe owner p c).1.record? k).map (·.relights)
      = ((e.relight pipe owner (c.least p.pending)).record? k).map (·.relights) := by
  unfold Ev.takeRelight
  dsimp only
  split
  · rfl
  · exact Ev.recordEnding_relights _ _ _

theorem Ev.settle_relights (e : Ev) (k : Nat) :
    (tget e.settle.p.led.records k).map (·.relights) = (e.record? k).map (·.relights) := by
  rw [Ev.settle_record?, Ev.record?, Option.map_map]
  rfl

/-- Settles O50: the lesser of report and pending goes from the pipe to its owner's relights; what may end after that
touches neither. -/
theorem relightReportTaken : Obligations.RelightReportTaken := by
  unfold Obligations.RelightReportTaken
  intro s f l p k o h wf hp hr ha hid small hl kind there owned hk gas
  have run := exec_relightReport h hp hr ha hid small hl kind there owned (Ev.relightable_of (e := s.ev) gas)
  have pending := s.ev.takeRelight_pending (field f.payload 0 2) k p (relightCounts f.payload)
  have relights := s.ev.takeRelight_relights (field f.payload 0 2) k p (relightCounts f.payload) k
  have reply : (s.ev.takeRelight (field f.payload 0 2) k p (relightCounts f.payload)).2
      = ⟨if (relightCounts f.payload).least p.pending = relightCounts f.payload then .ok else .partially,
        be 2 (field f.payload 0 2) ++ beCounts 2 ((relightCounts f.payload).least p.pending)
          ++ beCounts 2 (p.pending.sub ((relightCounts f.payload).least p.pending)) ++ be 2 k⟩ := rfl
  have all : (relightCounts f.payload).least p.pending = relightCounts f.payload ↔
      min (field f.payload 2 2) p.pending.p = field f.payload 2 2 ∧ min (field f.payload 4 2) p.pending.c = field f.payload 4 2
        ∧ min (field f.payload 6 2) p.pending.d = field f.payload 6 2 := by
    simp [relightCounts, Counts.least]
  generalize s.ev.takeRelight (field f.payload 0 2) k p (relightCounts f.payload) = r at run pending relights reply
  obtain ⟨e, c⟩ := r
  refine ⟨_, e.settle.out, run, ?_, fun j hj => ?_, ?_, ?_⟩
  · rw [State.taken_plant, Ev.settle_net_pipes]
    refine (pending _).trans ?_
    rw [Ev.relight_pipe?, if_pos rfl, show s.ev.pipe? _ = some p from there]
    rfl
  · rw [State.taken_plant, Ev.settle_net_pipes]
    refine (pending j).trans ?_
    rw [Ev.relight_pipe?, if_neg hj]
    rfl
  · rw [State.taken_plant, Ev.settle_relights]
    refine relights.trans ?_
    rw [Ev.relight_record?, show s.ev.record? k = some o from hk]
    rfl
  · subst reply
    simp only [all]
    rfl

end Sys2Proof.Machine
end

section
/-! Holds taken and orders issued (R122, R140, R141, R144, R165): what they do to the isolation they are for and to the
holder lists. -/

namespace Sys2Proof.Machine

-- One theorem after another: theorems checked side by side each hold a thread and its stack.
set_option Elab.async false

/-! ## The isolation that holds are taken for (R122, R144, R165) -/

/-- No ramp of the isolation can stall: it is not in RESTORING, or has no ramp (R164). -/
def Isolation.unramped (i : Isolation) : Prop := i.state ≠ .restoring ∨ i.ramp = none

section TakeHolds
variable {e : Ev} {slot : Nat} {i : Isolation} (h : e.iso? slot = some i)

include h

theorem Ev.dropEntries_iso (link : Nat) (which : OrderAction → Bool) : (e.dropEntries link which).iso? slot
    = some { i with toIssue := i.toIssue.filter fun y => !(y.link = link && which y.action) } := by
  refine (tget_map e.p.ctl.isos (fun _ i => ({ i with toIssue := i.toIssue.filter fun y =>
    !(y.link = link && which y.action) } : Isolation)) slot).trans ?_
  rw [show tget e.p.ctl.isos slot = some i from h]
  rfl

theorem Ev.blockedStall_iso (quiet : i.unramped) (r : IsoRef) (link : Nat) :
    (e.blockedStall r link).iso? slot = some i := by
  by_cases own : r.slot = slot
  · have same : e.blockedStall r link = e := by
      unfold Ev.blockedStall
      split
      · rfl
      · next j named =>
        have there : e.iso? r.slot = some i := own ▸ h
        unfold Ev.named? at named
        rw [there] at named
        dsimp only at named
        split at named
        · obtain rfl := Option.some.inj named
          refine if_neg fun stalls => ?_
          simp only [Bool.and_eq_true, decide_eq_true_eq] at stalls
          obtain ⟨⟨restoring, clock⟩, _⟩ := stalls
          obtain idle | bare := quiet
          · exact idle restoring
          · simp [bare] at clock
        · cases named
    rw [same]
    exact h
  · unfold Ev.blockedStall
    split
    · exact h
    · split
      · unfold Ev.stall
        split
        · exact h
        · split
          · exact h
          · split
            · exact h
            · exact (e.modIso_isosBut r.slot _ slot (by simpa using Ne.symm own)).trans h
      · exact h

theorem Ev.withdrawOpen_iso (quiet : i.unramped) (link : Nat) : (e.withdrawOpen link).iso? slot = some i := by
  unfold Ev.withdrawOpen
  split
  · split
    · exact Ev.blockedStall_iso (((Ev.finishOrder_within _ _ _ _).iso_same slot).trans h) quiet _ _
    · exact h
  · exact h

/-- The isolation holds the links too; of its list, entries may go. -/
theorem Ev.takeHolds_iso (quiet : i.unramped) (links : List Nat) : ∃ l, l.Sublist i.toIssue
    ∧ (e.takeHolds slot links).iso? slot = some { i with toIssue := l, holds := i.holds ++ links } := by
  have dropped (ls : List Nat) : ∀ {e : Ev} {i : Isolation}, e.iso? slot = some i → ∃ l, l.Sublist i.toIssue
      ∧ (e.each ls fun l e => e.dropEntries l fun a => a = .reopen).iso? slot = some { i with toIssue := l } := by
    induction ls with
    | nil => exact fun h => ⟨_, List.Sublist.refl _, h⟩
    | cons k ls ih =>
      intro e i h
      obtain ⟨l, sub, eq⟩ := ih (Ev.dropEntries_iso h k fun a => a = .reopen)
      exact ⟨l, sub.trans List.filter_sublist, eq⟩
  have withdrawn (ls : List Nat) : ∀ {e : Ev} {i : Isolation}, i.unramped → e.iso? slot = some i →
      (e.each ls fun l e => e.withdrawOpen l).iso? slot = some i := by
    induction ls with
    | nil => exact fun _ h => h
    | cons k ls ih => exact fun quiet h => ih quiet (Ev.withdrawOpen_iso h quiet k)
  obtain ⟨l, sub, free⟩ := dropped links h
  have held := withdrawn links (i := { i with toIssue := l }) quiet free
  refine ⟨l, sub, Ev.modIso_iso (i := { i with toIssue := l }) (Eq.trans ?_ held) _⟩
  refine (Ev.Within.each (A := [.controls, .holders]) (fun l e => ?_) _ links).iso_same slot
  exact e.modHolders_within l fun _ => rfl

omit h in
/-- The slot joins the holder list of each link once (R122). -/
theorem Ev.takeHolds_holders (e : Ev) (slot : Nat) {links : List Nat} (nodup : links.Nodup) (k : Nat) :
    ((e.takeHolds slot links).control? k).map (·.holders)
      = (e.control? k).map fun c => if k ∈ links then c.holders ++ [slot] else c.holders := by
  have joined (ls : List Nat) (nodup : ls.Nodup) : ∀ e : Ev,
      ((e.each ls fun l e => e.modControl l fun c => { c with holders := c.holders ++ [slot] }).control? k).map (·.holders)
        = (e.control? k).map fun c => if k ∈ ls then c.holders ++ [slot] else c.holders := by
    induction ls with
    | nil => intro e; simp [Ev.each]
    | cons l ls ih =>
      intro e
      obtain ⟨out, nodup⟩ := List.nodup_cons.1 nodup
      refine (ih nodup _).trans ?_
      rw [Ev.modControl_control?]
      by_cases same : k = l
      · subst same
        simp only [if_true, Option.map_map, if_neg out, List.mem_cons, true_or]
        rfl
      · rw [if_neg same]
        simp only [List.mem_cons, same, false_or]
  have before : Ev.Within [.isos, .orders, .controls] e ((e.each links fun l e => e.dropEntries l fun a => a = .reopen).each
      links fun l e => e.withdrawOpen l) :=
    .last (.each (fun l e => e.withdrawOpen_within l) _ links)
      (.of (B := [.isos]) (.each (fun l e => e.dropEntries_within l _) e links))
  refine (joined links nodup _).trans ?_
  have kept := before.holders (by decide) k
  have mapped (c : Option ControlRt) : (c.map fun c => if k ∈ links then c.holders ++ [slot] else c.holders)
      = (c.map (·.holders)).map fun hs => if k ∈ links then hs ++ [slot] else hs := by
    cases c <;> rfl
  rw [mapped, mapped, kept]

end TakeHolds

/-! ## Orders issued (R140, R141) -/

theorem Ev.issue_iso {e : Ev} {slot : Nat} {i : Isolation} (h : e.iso? slot = some i) (link : Nat) (action : OrderAction) :
    ∃ l, (e.issue slot link action).1.iso? slot = some { i with toIssue := l } := by
  simp only [Ev.issue, h]
  split
  · exact ⟨i.toIssue, ((e.issueNow_within _ _ _).iso_same slot).trans h⟩
  · exact ⟨_, Ev.modIso_iso h _⟩

/-- Of the isolation, issuing changes its list alone. -/
theorem Ev.issueAll_iso (slot : Nat) (action : OrderAction) (ls : List Nat) {e : Ev} {i : Isolation}
    (h : e.iso? slot = some i) : ∃ l, (Ev.issueAll slot action ls e).1.iso? slot = some { i with toIssue := l } := by
  induction ls generalizing e i with
  | nil => exact ⟨i.toIssue, h⟩
  | cons k ls ih =>
    obtain ⟨l, issued⟩ := Ev.issue_iso h k action
    obtain ⟨l', rest⟩ := ih issued
    unfold Ev.issueAll
    dsimp only
    split <;> exact ⟨l', rest⟩

theorem Ev.issueAll_keyed (slot : Nat) (action : OrderAction) (ls : List Nat) (e : Ev) :
    e.KeepsKeyed (Ev.issueAll slot action ls e).1 := by
  induction ls generalizing e with
  | nil => exact .refl e
  | cons l ls ih =>
    have both := (e.issue_keyed slot l action).trans (ih (e.issue slot l action).1)
    unfold Ev.issueAll
    dsimp only
    split <;> exact both

/-! ## What positions, links and tags an operation reads -/

section Frame
variable {A : List Part} {e f : Ev} (h : Ev.Within A e f)

include h

theorem Ev.Within.isOpen (l : Nat) (out : Part.positions ∉ A := by decide) : f.isOpen l = e.isOpen l := by
  have same := h.positions out l
  unfold Ev.isOpen
  cases hf : f.control? l <;> cases he : e.control? l <;> simp_all

theorem Ev.Within.isClosed (l : Nat) (out : Part.positions ∉ A := by decide) : f.isClosed l = e.isClosed l := by
  have same := h.positions out l
  unfold Ev.isClosed
  cases hf : f.control? l <;> cases he : e.control? l <;> simp_all

theorem Ev.Within.holdersOf (l : Nat) (out : Part.holders ∉ A := by decide) : f.holders l = e.holders l := by
  have same := h.holders out l
  unfold Ev.holders
  cases hf : f.control? l <;> cases he : e.control? l <;> simp_all

theorem Ev.Within.workable (l : Nat) (links : Part.links ∉ A := by decide) (net : Part.net ∉ A := by decide) :
    f.workable l = e.workable l := by
  obtain ⟨_, _, _, tags, _⟩ := h.net net
  have link : f.link? l = e.link? l := congrArg (tget · l) (h.links links)
  have tagged : f.tagged l .doNotOperate = e.tagged l .doNotOperate :=
    congrArg (fun t : Table Tag => t.any fun t => t.2.link = l && t.2.kind = .doNotOperate) tags
  rw [Ev.workable, Ev.workable, link, tagged]

end Frame

theorem Ev.allClosed_iff (e : Ev) (i : Isolation) : e.allClosed i = true ↔ ∀ l ∈ i.closure, e.isClosed l = true :=
  List.all_eq_true

/-- OPEN and CLOSED exclude each other. -/
theorem Ev.not_isClosed_of_isOpen {e : Ev} {l : Nat} (h : e.isOpen l = true) : e.isClosed l ≠ true := by
  unfold Ev.isOpen at h
  unfold Ev.isClosed
  obtain ⟨c, hc, opened⟩ := (Option.any_eq_true _ _).1 h
  rw [hc]
  simp only [decide_eq_true_eq] at opened
  simp [opened]

end Sys2Proof.Machine
end

section
/-! RECLOSE and the authorisation step (R121, R122, R167): O39, O49. -/

namespace Sys2Proof.Machine

-- One theorem after another: theorems checked side by side each hold a thread and its stack.
set_option Elab.async false

/-! ## RECLOSE (R167) -/

/-- A reclosed isolation in CLOSING, before its orders are issued (R167). -/
def Ev.reclosed (e : Ev) (slot : Nat) (i : Isolation) : Ev :=
  (((((e.modIso slot fun i => { i with ramp := none, toIssue := i.toIssue.filter fun x => x.action ≠ .reopen }).takeHolds slot
    i.closure).bump).modIso slot fun i => { i with result := .none }).setIso slot .closing .reclose).askRecompute

section Reclose
variable {e : Ev} {slot : Nat} {i : Isolation}

theorem Ev.reclosed_within (e : Ev) (slot : Nat) (i : Isolation) :
    Ev.Within [.isos, .orders, .controls, .holders, .bump, .ask] e (e.reclosed slot i) :=
  .last (Ev.askRecompute_within _) (.last (Ev.setIso_within _ _ _ _ _ _) (.last (Ev.modIso_within _ _ (fun _ => rfl) fun _ => rfl)
    (.last (Ev.bump_within _) (.last (Ev.takeHolds_within _ _ _) (.of (e.modIso_within slot (fun _ => rfl) fun _ => rfl))))))

theorem Ev.reclosed_keyed (e : Ev) (slot : Nat) (i : Isolation) : e.KeepsKeyed (e.reclosed slot i) :=
  .last (Ev.setIso_keyed _ _ _ _ _ _) (.last (Ev.modIso_keyed _ _ _) (.last (Ev.bump_keyed _)
    (.last (Ev.takeHolds_keyed _ _ _) (e.modIso_keyed _ _))))

theorem Ev.reclosed_bumped (e : Ev) (slot : Nat) (i : Isolation) : (e.reclosed slot i).bumped = true :=
  (Ev.setIso_within _ slot .closing .reclose .nothing 0).stays_bumped (Ev.bump_bumped _)

theorem Ev.reclosed_iso (h : e.iso? slot = some i) : ∃ j, (e.reclosed slot i).iso? slot = some j
    ∧ j.state = .closing ∧ j.ramp = none ∧ j.holds = i.holds ++ i.closure ∧ j.result = .none ∧ j.plan = i.plan := by
  have bare := Ev.modIso_iso h fun i => { i with ramp := none, toIssue := i.toIssue.filter fun x => x.action ≠ .reopen }
  obtain ⟨l, _, held⟩ := Ev.takeHolds_iso bare (.inr rfl) i.closure
  have bumped := (Ev.bump_within _).iso_same slot |>.trans held
  refine ⟨_, Ev.setIso_iso (Ev.modIso_iso bumped fun i => { i with result := .none }) .closing .reclose .nothing 0, rfl, ?_⟩
  rw [Isolation.moveTo_eq]
  exact ⟨rfl, rfl, rfl, rfl⟩

theorem Ev.reclosed_holders (e : Ev) (slot : Nat) {i : Isolation} (nodup : i.closure.Nodup) (k : Nat) :
    ((e.reclosed slot i).control? k).map (·.holders)
      = (e.control? k).map fun c => if k ∈ i.closure then c.holders ++ [slot] else c.holders := by
  have after := (Ev.setIso_within (((((e.modIso slot fun i => { i with
    ramp := none, toIssue := i.toIssue.filter fun x => x.action ≠ .reopen }).takeHolds slot i.closure).bump).modIso slot
      fun i => { i with result := .none })) slot .closing .reclose .nothing 0).holders (by decide) k
  refine after.trans ?_
  exact ((Ev.bump_within _).holders (by decide) k).trans (Ev.takeHolds_holders _ slot nodup k)

/-- With every open member workable, the CLOSE orders are issued and the isolation stays in CLOSING. -/
theorem Ev.recloseStep_of_workable (h : (e.reclosed slot i).iso? slot = some j) (plan : j.plan = i.plan)
    (open_ : ∃ l ∈ i.closure, e.isOpen l = true)
    (workable : ∀ l ∈ i.closure, e.isOpen l = true → e.workable l = true) :
    (e.recloseStep slot i).1 = (Ev.issueAll slot .close ((e.reclosed slot i).needingClose i) (e.reclosed slot i)).1 := by
  have frame := e.reclosed_within slot i
  have all : (i.closure.find? fun l => (e.reclosed slot i).isOpen l && !(e.reclosed slot i).workable l) = none := by
    rw [List.find?_eq_none]
    intro l hl
    rw [frame.isOpen l, frame.workable l]
    by_cases opened : e.isOpen l = true
    · simp [opened, workable l hl opened]
    · simp [opened]
  have issued : (e.recloseStep slot i).1
      = (Ev.issueAll slot .close ((e.reclosed slot i).needingClose i) (e.reclosed slot i)).1.closingCheck slot := by
    unfold Ev.recloseStep
    dsimp only
    split
    · next l found => cases found.symm.trans all
    · rfl
  obtain ⟨l, there⟩ := Ev.issueAll_iso slot .close ((e.reclosed slot i).needingClose i) h
  have after := Ev.issueAll_within slot .close ((e.reclosed slot i).needingClose i) (e.reclosed slot i)
  rw [issued]
  generalize (Ev.issueAll slot .close ((e.reclosed slot i).needingClose i) (e.reclosed slot i)).1 = g at there after
  obtain ⟨k, hk, opened⟩ := open_
  have open' : g.isOpen k = true := by rw [after.isOpen k, frame.isOpen k, opened]
  have shut : ¬ g.allClosed { j with toIssue := l } = true := by
    rw [Ev.allClosed_iff]
    intro closed
    refine Ev.not_isClosed_of_isOpen open' (closed k ?_)
    simpa [Isolation.closure, plan] using hk
  simp only [Ev.closingCheck, there]
  exact if_neg (by simp [shut])

end Reclose

/-- Settles O49: the holds are taken, the generation moves once, and orders close what stands OPEN. -/
theorem recloseReturnsToClosing : Obligations.RecloseReturnsToClosing := by
  unfold Obligations.RecloseReturnsToClosing
  intro s f i h wf hp hr hs hi hser
  have run := exec_reclose h hp
  rw [State.onNamed_found (by simpa using hr) hs hi hser] at run
  refine ⟨fun other => ?_, fun restoring bare room nodup open_ workable => ?_⟩
  · have refused : s.ev.recloseNamed (field f.payload 0 1) i = (s.ev, ⟨.wrongState, []⟩) := if_pos other
    rw [run, refused]
    rfl
  · generalize field f.payload 0 1 = slot at hi run room
    obtain ⟨c, taken⟩ : ∃ c, s.ev.recloseNamed slot i = ((s.ev.recloseStep slot i).1, c) := by
      rw [Ev.recloseNamed, if_neg (not_not.2 restoring), room]
      exact ⟨_, rfl⟩
    obtain ⟨j, there, state, ramp, holds, result, plan⟩ := Ev.reclosed_iso (e := s.ev) hi
    rw [taken, Ev.recloseStep_of_workable there plan open_ workable] at run
    have frame := s.ev.reclosed_within slot i
    have keyed := s.ev.reclosed_keyed slot i wf
    have held := Ev.reclosed_holders s.ev slot nodup
    have bumped := s.ev.reclosed_bumped slot i
    generalize s.ev.reclosed slot i = e at run there frame keyed held bumped
    have keyed' := Ev.issueAll_keyed slot .close (e.needingClose i) e keyed
    have after := Ev.issueAll_within slot .close (e.needingClose i) e
    obtain ⟨l, issued⟩ := Ev.issueAll_iso slot .close (e.needingClose i) there
    generalize (Ev.issueAll slot .close (e.needingClose i) e).1 = g at run keyed' after issued
    obtain ⟨l', _, settled⟩ := Ev.settle_iso (Plant.keyed_isos keyed') issued
    have all : Ev.Within Part.operating s.ev g := .last after (.of frame)
    have bumped' : g.bumped = true := after.stays_bumped bumped
    refine ⟨_, _, run, settled, state, ramp, ?_, result, fun k hk => ?_, ?_, ?_, ?_, ?_⟩
    · simpa [bare] using holds
    · have joined : (s.ev.control? k).map (fun c => if k ∈ i.closure then c.holders ++ [slot] else c.holders)
          = (tget s.plant.net.controls k).map fun c => c.holders ++ [slot] := by
        simp only [if_pos hk]
        rfl
      exact (g.settle_within.holders (by decide) k).trans ((after.holders (by decide) k).trans ((held k).trans joined))
    · exact (Ev.settle_net_generation g).trans (all.bumped_generation rfl bumped')
    · exact (Ev.settle_net_links g).trans (all.links (by decide))
    · exact (Ev.settle_net_pipes g).trans (after.pipes (by decide) |>.trans (frame.pipes (by decide)))
    · exact (Ev.settle_mon g).trans (all.mon (by decide))

/-! ## A record opened for an isolation (R177) -/

/-- Some key of a range is free when one of them is. -/
theorem exists_lowestFree {α : Type} {t : Table α} {lo bound k : Nat} (hlo : lo ≤ k) (hk : k < bound) (free : tget t k = none) :
    ∃ j, lowestFree t lo bound = some j := by
  cases found : (List.range bound).filter fun n => lo ≤ n && !thas t n with
  | nil => exact absurd (List.filter_eq_nil_iff.1 found k (List.mem_range.2 hk)) (by simp [hlo, thas, free])
  | cons j l => exact ⟨j, by rw [lowestFree, found]; rfl⟩

theorem Ev.openRecord_of_free {e : Ev} {n : Nat} (h1 : 1 ≤ n) (h63 : n ≤ 63) (free : tget e.p.led.records n = none) (r : IsoRef) :
    ∃ k, 1 ≤ k ∧ k ≤ 63 ∧ tget e.p.led.records k = none
      ∧ e.openRecord r = Ev.modIso { e with p.led.records := tset e.p.led.records k (newRecord (some r) e.now) } r.slot
          fun i => { i with outage := some k } := by
  obtain ⟨k, hk⟩ := exists_lowestFree (bound := Config.outageSlots) h1 (Nat.lt_succ_of_le h63) free
  obtain ⟨lo, hi, none⟩ := lowestFree_some hk
  refine ⟨k, lo, Nat.le_of_lt_succ hi, none, ?_⟩
  simp only [Ev.openRecord, Ev.recordSlot, hk, Ev.record?, none]

/-- Of an isolation that is not at its end, opening a record changes the record field alone. -/
theorem Ev.openRecord_iso {e : Ev} {slot : Nat} {i : Isolation} (h : e.iso? slot = some i) (running : i.state.terminal = false)
    (serial : Nat) : ∃ o, (e.openRecord ⟨slot, serial⟩).iso? slot = some { i with outage := o } := by
  have forgot {e : Ev} (h : e.iso? slot = some i) (iso : Option IsoRef) : (e.forgetRecord iso).iso? slot = some i := by
    cases iso with
    | none => exact h
    | some r =>
      refine (e.modIso_iso? r.slot slot _).trans ?_
      split
      · rw [h]
        simp [running]
      · exact h
  unfold Ev.openRecord
  split
  · exact ⟨i.outage, h⟩
  · next k _ =>
    refine ⟨some k, Ev.modIso_iso (i := i) ?_ fun i => { i with outage := some k }⟩
    split
    · exact h
    · exact forgot (e := Ev.note _ _ _ _) h _

theorem Ev.openRecord_keyed (e : Ev) (r : IsoRef) : e.KeepsKeyed (e.openRecord r) := by
  have forgot (e : Ev) (iso : Option IsoRef) : e.KeepsKeyed (e.forgetRecord iso) := by
    cases iso with
    | none => exact .refl e
    | some r => exact e.modIso_keyed _ _
  have put (e : Ev) (k : Nat) (o : Outage) : e.KeepsKeyed { e with p.led.records := tset e.p.led.records k o } :=
    fun ⟨pipes, controls, isos, orders, reg, records⟩ => ⟨pipes, controls, isos, orders, reg, tableWf_tset records k o⟩
  unfold Ev.openRecord
  split
  · exact .refl e
  · refine .last (Ev.modIso_keyed _ _ _) (.last (put _ _ _) ?_)
    split
    · exact .refl e
    · exact forgot (Ev.note _ _ _ _) _

/-! ## Entry to VERIFYING (R128, R129) -/

theorem Ev.decayCheck_keyed (e : Ev) (slot : Nat) : e.KeepsKeyed (e.decayCheck slot) := by
  unfold Ev.decayCheck
  split
  · exact .refl e
  · exact .ite (e.verified_keyed _ _ _) (.refl e)

theorem Ev.enterVerifying_keyed (e : Ev) (slot : Nat) : e.KeepsKeyed (e.enterVerifying slot) := by
  have cleared : e.KeepsKeyed (e.modIso slot fun i => { i with result := .none }).askRecompute := e.modIso_keyed _ _
  unfold Ev.enterVerifying
  dsimp only
  split
  · exact cleared
  · split
    · exact .last (Ev.verified_keyed _ _ _ _) cleared
    · exact .last (Ev.decayCheck_keyed _ _) (.last (Ev.modIso_keyed _ _ _) cleared)

section Verifying
variable {e : Ev} {slot : Nat} {i : Isolation} (h : e.iso? slot = some i) (verifying : i.state = .verifying)

include h verifying

theorem Ev.decayCheck_iso : ∃ r st d v t, (e.decayCheck slot).iso? slot
    = some { i with result := r, state := st, decay := d, verifyTimer := v, effectTime := t }
      ∧ (st = .verifying ∨ st = .effective) := by
  simp only [Ev.decayCheck, h]
  split
  · exact ⟨_, _, _, _, _, Ev.verified_iso h verifying .verified .decayed, .inr rfl⟩
  · exact ⟨i.result, i.state, i.decay, i.verifyTimer, i.effectTime, h, .inl verifying⟩

/-- Entry to VERIFYING starts the decay test, and may end it at once (R129). -/
theorem Ev.enterVerifying_iso : ∃ r st d v t, (e.enterVerifying slot).iso? slot
    = some { i with result := r, state := st, decay := d, verifyTimer := v, effectTime := t }
      ∧ (st = .verifying ∨ st = .effective) := by
  have cleared : (e.modIso slot fun i => { i with result := .none }).askRecompute.iso? slot
      = some { i with result := .none } := Ev.modIso_iso h fun i => { i with result := .none }
  simp only [Ev.enterVerifying, cleared]
  split
  · exact ⟨_, _, _, _, _, Ev.verified_iso cleared verifying .unverified .noStation, .inr rfl⟩
  · obtain ⟨r, st, d, v, t, eq, state⟩ := Ev.decayCheck_iso (Ev.modIso_iso cleared fun i => { i with
      decay := true, verifyTimer := some (e.now + e.p.ctl.verifyTime) }) verifying
    exact ⟨r, st, d, v, t, eq, state⟩

end Verifying

/-! ## The authorisation step (R122) -/

/-- The members an isolation does not hold yet. -/
def Isolation.unheld (i : Isolation) : List Nat := i.closure.filter fun l => !i.holds.contains l

theorem Isolation.mem_unheld (i : Isolation) (l : Nat) : l ∈ i.unheld ↔ l ∈ i.closure ∧ l ∉ i.holds := by
  simp [Isolation.unheld]

/-- The authorisation step up to its holds and its bump (R122). -/
def Ev.claiming (e : Ev) (slot : Nat) (i : Isolation) : Ev :=
  (((e.releaseClaims slot fun k => !i.section?.contains k).claimSection slot i.section?).takeHolds slot i.unheld).bump

section Authorise
variable {e : Ev} {slot : Nat} {i : Isolation}

theorem Ev.authReady_eq (e : Ev) (slot authoriser : Nat) (i : Isolation) : e.authReady slot authoriser i
    = ((if i.outage.isSome then e.claiming slot i else (e.claiming slot i).openRecord ⟨slot, i.serial⟩).modIso slot fun j =>
      { j with
        result := .none, carry := none, authoriser := some authoriser
        authTime := some (j.authTime.getD
          (if i.outage.isSome then e.claiming slot i else (e.claiming slot i).openRecord ⟨slot, i.serial⟩).now) }).askRecompute :=
  rfl

theorem Ev.claiming_within (e : Ev) (slot : Nat) (i : Isolation) :
    Ev.Within [.isos, .orders, .controls, .holders, .pipes, .bump] e (e.claiming slot i) :=
  .last (Ev.bump_within _) (.last (Ev.takeHolds_within _ _ _) (.last (Ev.claimSection_within _ _ _)
    (.of (e.releaseClaims_within _ _))))

theorem Ev.claiming_keyed (e : Ev) (slot : Nat) (i : Isolation) : e.KeepsKeyed (e.claiming slot i) :=
  .last (Ev.bump_keyed _) (.last (Ev.takeHolds_keyed _ _ _) (.last (Ev.mapPipes_keyed _ _) (e.mapPipes_keyed _)))

theorem Ev.claiming_pipe {k : Nat} {p : PipeRt} (h : e.pipe? k = some p) (slot : Nat) (i : Isolation) :
    ∃ x, (e.claiming slot i).pipe? k = some { p with
      supply := x
      claim := if k ∈ i.section? then some slot else if p.claim = some slot then none else p.claim } := by
  have after : Ev.Within [.isos, .orders, .controls, .holders, .bump]
      ((e.releaseClaims slot fun k => !i.section?.contains k).claimSection slot i.section?) (e.claiming slot i) :=
    .last (Ev.bump_within _) (.of (Ev.takeHolds_within _ slot i.unheld))
  have claimed : (e.claiming slot i).pipe? k
      = ((e.releaseClaims slot fun k => !i.section?.contains k).pipe? k).map fun p =>
        if i.section?.contains k then { p with claim := some slot } else p :=
    (congrArg (tget · k) (after.pipes (by decide))).trans (Ev.mapPipes_pipe? _ k _)
  rw [claimed, Ev.releaseClaims_pipe?, h]
  by_cases mem : k ∈ i.section?
  · exact ⟨p.supply, by simp [mem]⟩
  · by_cases own : p.claim = some slot
    · exact ⟨p.supply.released, by simp [mem, own]⟩
    · exact ⟨p.supply, by simp [mem, own]⟩

theorem Ev.claiming_iso (h : e.iso? slot = some i) (quiet : i.unramped) :
    ∃ l, (e.claiming slot i).iso? slot = some { i with toIssue := l, holds := i.holds ++ i.unheld } := by
  have claimed : ((e.releaseClaims slot fun k => !i.section?.contains k).claimSection slot i.section?).iso? slot = some i := h
  obtain ⟨l, _, held⟩ := Ev.takeHolds_iso claimed quiet i.unheld
  exact ⟨l, ((Ev.bump_within _).iso_same slot).trans held⟩

theorem Ev.claiming_holders (e : Ev) (slot : Nat) {i : Isolation} (nodup : i.closure.Nodup) (k : Nat) :
    ((e.claiming slot i).control? k).map (·.holders)
      = (e.control? k).map fun c => if k ∈ i.unheld then c.holders ++ [slot] else c.holders :=
  ((Ev.bump_within _).holders (by decide) k).trans (Ev.takeHolds_holders _ slot (nodup.filter _) k)

theorem Ev.authReady_after (e : Ev) (slot authoriser : Nat) (i : Isolation) :
    Ev.Within [.isos, .records, .ask] (e.claiming slot i) (e.authReady slot authoriser i) := by
  rw [Ev.authReady_eq]
  exact .last (Ev.askRecompute_within _) (.last (Ev.modIso_within _ _ (fun _ => rfl) fun _ => rfl)
    (.ite (.refl _ _) (.of (Ev.openRecord_within _ _))))

theorem Ev.authReady_keyed (e : Ev) (slot authoriser : Nat) (i : Isolation) : e.KeepsKeyed (e.authReady slot authoriser i) := by
  rw [Ev.authReady_eq]
  exact .last (Ev.modIso_keyed _ _ _) (.ite (e.claiming_keyed slot i) (.last (Ev.openRecord_keyed _ _) (e.claiming_keyed slot i)))

/-- The record an authorised isolation has: its own, or one opened in its name (R122, R177). -/
def Isolation.recorded (e f : Ev) (slot : Nat) (i : Isolation) (o : Option Nat) : Prop :=
  (∀ k, i.outage = some k → o = some k)
    ∧ (i.outage = none → (∃ k, 1 ≤ k ∧ k ≤ 63 ∧ tget e.p.led.records k = none) → ∃ k, o = some k ∧ 1 ≤ k ∧ k ≤ 63
      ∧ tget e.p.led.records k = none ∧ tget f.p.led.records k = some (newRecord (some ⟨slot, i.serial⟩) e.now))

theorem Ev.authReady_iso (h : e.iso? slot = some i) (planned : i.state = .planned) (authoriser : Nat) : ∃ l o,
    (e.authReady slot authoriser i).iso? slot = some { i with
      toIssue := l, holds := i.holds ++ i.unheld, outage := o, result := .none, carry := none
      authoriser := some authoriser, authTime := some (i.authTime.getD e.now) }
    ∧ i.recorded e (e.authReady slot authoriser i) slot o := by
  obtain ⟨l, held⟩ := Ev.claiming_iso h (.inl (by simp [planned]))
  have frame := e.claiming_within slot i
  rw [Ev.authReady_eq]
  generalize e.claiming slot i = f at held frame
  cases outage : i.outage with
  | some k =>
    simp only [Option.isSome_some, if_true]
    refine ⟨l, some k, ?_, fun j hj => ?_, fun absent => absurd (outage.symm.trans absent) (by simp)⟩
    · refine (Ev.modIso_iso held fun j => { j with
        result := .none, carry := none, authoriser := some authoriser, authTime := some (j.authTime.getD f.now) }).trans ?_
      rw [frame.now, ← outage]
    · exact outage.symm.trans hj
  | none =>
    simp only [Option.isSome_none, Bool.false_eq_true, if_false]
    have marked {g : Ev} {o : Option Nat} (now : g.now = e.now)
        (there : g.iso? slot = some { i with toIssue := l, holds := i.holds ++ i.unheld, outage := o }) :
        (g.modIso slot fun j => { j with
          result := .none, carry := none, authoriser := some authoriser
          authTime := some (j.authTime.getD g.now) }).askRecompute.iso? slot = some { i with
            toIssue := l, holds := i.holds ++ i.unheld, outage := o, result := .none, carry := none
            authoriser := some authoriser, authTime := some (i.authTime.getD e.now) } := by
      refine (Ev.modIso_iso there fun j => { j with
        result := .none, carry := none, authoriser := some authoriser, authTime := some (j.authTime.getD g.now) }).trans ?_
      rw [now]
    have records : f.p.led.records = e.p.led.records := frame.records (by decide)
    have now := ((Ev.openRecord_within f ⟨slot, i.serial⟩).now).trans frame.now
    by_cases free : ∃ k, 1 ≤ k ∧ k ≤ 63 ∧ tget e.p.led.records k = none
    · obtain ⟨n, h1, h63, empty⟩ := free
      obtain ⟨k, k1, k63, hk, eq⟩ := Ev.openRecord_of_free h1 h63 (records ▸ empty) ⟨slot, i.serial⟩
      refine ⟨l, some k, marked now ?_, fun j hj => absurd (outage.symm.trans hj) (by simp), fun _ _ =>
        ⟨k, rfl, k1, k63, records ▸ hk, ?_⟩⟩
      · rw [eq]
        exact Ev.modIso_iso (i := { i with toIssue := l, holds := i.holds ++ i.unheld }) held fun i => { i with outage := some k }
      · rw [eq, ← frame.now]
        exact tget_tset_same _ _ _
    · obtain ⟨o, opened⟩ := Ev.openRecord_iso held (by simp [planned, IsoState.terminal]) i.serial
      exact ⟨l, o, marked now opened, fun j hj => absurd (outage.symm.trans hj) (by simp), fun _ some => absurd some free⟩

/-- Past its claims and holds an authorised isolation is in CLOSING, or past it when every member stands CLOSED. -/
theorem Ev.authStep_of_ready {j : Isolation} (h : e.iso? slot = some i) (authoriser : Nat)
    (ready : (e.authReady slot authoriser i).iso? slot = some j) (cause : IsoCause) :
    ∃ l r st d v t, (e.authStep slot authoriser cause).1.iso? slot
        = some { j with toIssue := l, result := r, state := st, decay := d, verifyTimer := v, effectTime := t }
      ∧ ((e.authReady slot authoriser i).allClosed i = true → st = .verifying ∨ st = .effective)
      ∧ ((e.authReady slot authoriser i).allClosed i ≠ true → st = .closing) := by
  rw [Ev.authStep_eq h]
  generalize e.authReady slot authoriser i = f at ready
  split
  · next closed =>
    obtain ⟨r, st, d, v, t, eq, state⟩ := Ev.enterVerifying_iso (Ev.setIso_iso ready .verifying cause .nothing 0) rfl
    rw [Isolation.moveTo_eq] at eq
    exact ⟨_, r, st, d, v, t, eq, fun _ => state, fun open_ => absurd closed open_⟩
  · next open_ =>
    obtain ⟨l, eq⟩ := Ev.issueAll_iso slot .close (f.needingClose i) (Ev.setIso_iso ready .closing cause .nothing 0)
    rw [Isolation.moveTo_eq] at eq
    exact ⟨l, _, _, _, _, _, eq, fun closed => absurd closed open_, fun _ => rfl⟩

theorem Ev.authStep_keyed (e : Ev) (slot authoriser : Nat) (cause : IsoCause) :
    e.KeepsKeyed (e.authStep slot authoriser cause).1 := by
  cases h : e.iso? slot with
  | none =>
    unfold Ev.authStep
    rw [h]
    exact .refl e
  | some i =>
    rw [Ev.authStep_eq h]
    have ready := e.authReady_keyed slot authoriser i
    generalize e.authReady slot authoriser i = f at *
    split
    · exact .last (Ev.enterVerifying_keyed _ _) (.last (Ev.setIso_keyed _ _ _ _ _ _) ready)
    · exact .last (Ev.issueAll_keyed _ _ _ _) (.last (Ev.setIso_keyed _ _ _ _ _ _) ready)

theorem Ev.authStep_after (h : e.iso? slot = some i) (authoriser : Nat) (cause : IsoCause) :
    Ev.Within [.isos, .orders, .controls, .reg, .ask] (e.authReady slot authoriser i) (e.authStep slot authoriser cause).1 := by
  rw [Ev.authStep_eq h]
  split
  · exact .last (Ev.enterVerifying_within _ _) (.of (Ev.setIso_within _ _ _ _ _ _))
  · exact .last (Ev.issueAll_within _ _ _ _) (.of (Ev.setIso_within _ _ _ _ _ _))

end Authorise

/-! ## AUTHORISE (R118, R119, R121, R122) -/

theorem Ev.shareLimit_none {e : Ev} {slot : Nat} {links : List Nat} (h : ∀ l ∈ links, ∀ c, tget e.p.net.controls l = some c →
    c.holders.length < 4 ∨ slot ∈ c.holders) : e.shareLimit slot links = none := by
  rw [Ev.shareLimit, List.find?_eq_none]
  intro l hl full
  simp only [Bool.and_eq_true, decide_eq_true_eq, Bool.not_eq_true'] at full
  obtain ⟨full, out⟩ := full
  unfold Ev.holders at full out
  cases hc : e.control? l with
  | none => simp [hc, Config.holdersPerLink] at full
  | some c =>
    simp only [hc, Config.holdersPerLink] at full out
    obtain room | mem := h l hl c hc
    · omega
    · simp [mem] at out

theorem Ev.authoriseNamed_of_fit {e : Ev} {origin slot : Nat} {i : Isolation} {pl : Plan} (planned : i.state = .planned)
    (other : origin ≠ i.requester ∨ e.emergency i = true) (plan : i.plan = some pl) (current : pl.gen = e.p.net.generation)
    (room : e.shareLimit slot i.closure = none) :
    ∃ c, e.authoriseNamed origin slot i = ((e.authStep slot origin .authorised).1, c) := by
  have allowed : ¬ (origin = i.requester && !e.emergency i) = true := by
    obtain differs | urgent := other
    · simp [differs]
    · simp [urgent]
  have fits : ¬ (!i.plan.any fun p => p.gen = e.p.net.generation) = true := by simp [plan, current]
  rw [Ev.authoriseNamed, if_neg (not_not.2 planned), if_neg allowed, if_neg fits, room]
  exact ⟨_, rfl⟩

/-- Settles O39: the claims and holds of the step, its one bump and its record, and the state by the positions. -/
theorem authoriseClaimsAndHolds : Obligations.AuthoriseClaimsAndHolds := by
  unfold Obligations.AuthoriseClaimsAndHolds
  intro s f i pl h wf hp hr hs hi hser planned plan current nodup
  dsimp only
  intro other room
  have run := exec_authorise h hp
  rw [State.onNamed_found (by simpa using hr) hs hi hser] at run
  generalize field f.payload 0 1 = slot at hi run room
  obtain ⟨c, taken⟩ := Ev.authoriseNamed_of_fit (e := s.ev) (origin := f.origin) planned
    (other.imp_right (s.ev.emergency_iff i).2) plan current (Ev.shareLimit_none room)
  rw [taken] at run
  obtain ⟨l, o, ready, recorded⟩ := Ev.authReady_iso (e := s.ev) hi planned f.origin
  obtain ⟨l', r, st, d, v, t, there, shut, open_⟩ := Ev.authStep_of_ready (e := s.ev) hi f.origin ready .authorised
  have claiming := s.ev.claiming_within slot i
  have pipes (k : Nat) (p : PipeRt) (hk : s.ev.pipe? k = some p) := Ev.claiming_pipe hk slot i
  have holders := s.ev.claiming_holders slot nodup
  have marking := s.ev.authReady_after slot f.origin i
  have bumped : (s.ev.claiming slot i).bumped = true := Ev.bump_bumped _
  have keyed := s.ev.authStep_keyed slot f.origin .authorised wf
  have after := Ev.authStep_after (e := s.ev) hi f.origin .authorised
  generalize s.ev.claiming slot i = m at claiming pipes holders marking bumped
  generalize s.ev.authReady slot f.origin i = n at ready recorded there shut open_ marking after
  generalize (s.ev.authStep slot f.origin .authorised).1 = g at run there keyed after
  have all : Ev.Within Part.operating s.ev g := .last after (.last marking (.of claiming))
  have position (k : Nat) : n.isClosed k = s.ev.isClosed k := (marking.isClosed k).trans (claiming.isClosed k)
  have section_ : i.section? = pl.pipes := by simp [Isolation.section?, plan]
  have held (k : Nat) : (tget g.settle.p.net.controls k).map (·.holders)
      = (tget s.plant.net.controls k).map fun c => if k ∈ i.unheld then c.holders ++ [slot] else c.holders :=
    (g.settle_within.holders (by decide) k).trans ((after.holders (by decide) k).trans
      ((marking.holders (by decide) k).trans (holders k)))
  have fresh : i.closure.filter (fun l => l ∉ i.holds) = i.unheld := List.filter_congr fun l _ => by simp
  obtain ⟨l'', _, settled⟩ := Ev.settle_iso (Plant.keyed_isos keyed) there
  refine ⟨_, _, run, settled, rfl, rfl, rfl, by rw [fresh], fun inside k => ?_, fun opened => ?_, fun closed => ?_,
    fun k p hk => ?_, fun k new => ?_, fun k old => ?_, recorded.1, fun none free => ?_, ?_, ?_, ?_, ?_⟩
  · simp only [List.mem_append, i.mem_unheld]
    constructor
    · rintro (mem | ⟨mem, _⟩)
      · exact inside k mem
      · exact mem
    · intro mem
      by_cases k ∈ i.holds
      · exact .inl ‹_›
      · exact .inr ⟨mem, ‹_›⟩
  · obtain ⟨k, hk, c, hc, position'⟩ := opened
    refine open_ fun closed => ?_
    have shut := (n.allClosed_iff i).1 closed k hk
    rw [position k] at shut
    exact Ev.not_isClosed_of_isOpen (by simp [Ev.isOpen, Ev.control?, hc, position']) shut
  · refine shut ((n.allClosed_iff i).2 fun k hk => ?_)
    obtain ⟨c, hc, position'⟩ := closed k hk
    rw [position k]
    simp [Ev.isClosed, Ev.control?, hc, position']
  · obtain ⟨x, eq⟩ := pipes k p hk
    rw [section_] at eq
    have same : g.settle.p.net.pipes = m.p.net.pipes :=
      (Ev.settle_net_pipes g).trans ((after.pipes (by decide)).trans (marking.pipes (by decide)))
    exact ⟨_, (congrArg (tget · k) same).trans eq, rfl, rfl⟩
  · have mem : k ∈ i.unheld := (i.mem_unheld k).2 new
    simpa [mem] using held k
  · have out : k ∉ i.unheld := mt (i.mem_unheld k).1 old
    simpa [out] using held k
  · obtain ⟨k, rfl, h1, h63, empty, opened⟩ := recorded.2 none free
    have record : tget g.p.led.records k = some (newRecord (some ⟨slot, i.serial⟩) s.link.partTime) :=
      (congrArg (tget · k) (after.records (by decide))).trans opened
    refine ⟨k, _, rfl, h1, h63, empty, (Ev.settle_record? g k).trans (congrArg (Option.map _) record), rfl, rfl, rfl⟩
  · exact (Ev.settle_net_generation g).trans (all.bumped_generation rfl
      (after.stays_bumped (marking.stays_bumped bumped)))
  · exact (Ev.settle_net_links g).trans (all.links (by decide))
  · exact (Ev.settle_net_nodes g).trans (all.nodes (by decide))
  · exact (Ev.settle_mon g).trans (all.mon (by decide))

end Sys2Proof.Machine
end

section
/-! Calls (R85 to R98): O31, O32. -/

namespace Sys2Proof.Machine

-- One theorem after another: theorems checked side by side each hold a thread and its stack.
set_option Elab.async false

/-! ## The incident a call opens (R84, R96, R98) -/

/-- With the serial in no other record's id, a new incident takes it (R84). -/
theorem IncidentRegister.newId_eq {r : IncidentRegister} (free : ∀ x ∈ r.table, x.2.id ≠ r.serial) (slot : Nat) :
    r.newId slot = r.serial := by
  have unused : ¬ ((terase r.table slot).any fun x => x.2.id = r.serial) = true := by
    simp only [List.any_eq_true, decide_eq_true_eq, not_exists, not_and]
    intro x hx
    exact free x (List.mem_of_mem_filter hx)
  rw [IncidentRegister.newId, offerId, if_neg unused]

theorem IncidentRegister.freeSlot_eq {r : IncidentRegister} {slot : Nat} (h : slot < 256) (empty : tget r.table slot = none)
    (used : ∀ k < slot, (tget r.table k).isSome) : r.freeSlot = some slot := by
  have lowest : lowestFree r.table 0 Config.incidentSlots = some slot :=
    lowestFree_eq (Nat.zero_le _) h empty fun j hj _ => used j hj
  simp only [IncidentRegister.freeSlot, lowest]

theorem IncidentRegister.freeSlot_none {r : IncidentRegister} (used : ∀ k < 256, (tget r.table k).isSome)
    (open_ : ∀ x ∈ r.table, x.2.state ≠ .cleared) : r.freeSlot = none := by
  have full : lowestFree r.table 0 Config.incidentSlots = none := by
    cases found : lowestFree r.table 0 Config.incidentSlots with
    | none => rfl
    | some k =>
      obtain ⟨_, low, empty⟩ := lowestFree_some found
      exact absurd (used k low) (by simp [empty])
  have no_cleared : (r.table.filterMap fun x => if x.2.state = .cleared then some (x.1, x.2.lastState) else none) = [] := by
    rw [List.filterMap_eq_nil_iff]
    exact fun x hx => if_neg (open_ x hx)
  simp only [IncidentRegister.freeSlot, full, no_cleared]
  rfl

/-- The incident a call opens, with the id it is given (R96). -/
def Incident.calledIn (i : Incident) (id call now : Nat) : Incident :=
  { i with id := id, lastCall := some now, calls := 1, refs := [call] }

theorem Ev.openForCall_of_free {e : Ev} {slot : Nat} (h : slot < 256) (empty : tget e.p.reg.table slot = none)
    (used : ∀ k < slot, (tget e.p.reg.table k).isSome) (free : ∀ x ∈ e.p.reg.table, x.2.id ≠ e.p.reg.serial)
    (call : Nat) (kind : IncidentKind) (i : Incident) (pipe : Option Nat) (href : List Byte) :
    e.openForCall call kind i pipe href
      = ({ e with
          p.reg.table := tset e.p.reg.table slot (i.calledIn e.p.reg.serial call e.now)
          p.reg.serial := nextSerial e.p.reg.serial }, callReply (i.calledIn e.p.reg.serial call e.now) false pipe href) := by
  simp only [Ev.openForCall, Ev.openIncident, IncidentRegister.freeSlot_eq h empty used, IncidentRegister.newId_eq free]
  rfl

theorem Ev.openForCall_of_full {e : Ev} (used : ∀ k < 256, (tget e.p.reg.table k).isSome)
    (open_ : ∀ x ∈ e.p.reg.table, x.2.state ≠ .cleared) (call : Nat) (kind : IncidentKind) (i : Incident)
    (pipe : Option Nat) (href : List Byte) :
    e.openForCall call kind i pipe href = (e.noteTableFull kind pipe, ⟨.full, href⟩) := by
  simp only [Ev.openForCall, Ev.openIncident, IncidentRegister.freeSlot_none used open_]

/-! ## CALL, step by step (R85, R86) -/

theorem exec_call {s : State} {f : Frame} {kind : IncidentKind} (h : s.handles f 0x0E) (hr : s.allows f .call)
    (hp : f.payload.length = if flagAt f.payload 5 0 then 11 else 9) (hk : callKindOf (field f.payload 4 1) = some kind) :
    exec .call s
      = .next (s.taken f (s.ev.takeCall (field f.payload 0 4) kind (field f.payload 6 3) (hostRef f.payload))) := by
  refine congrArg Host.Outcome.next ((State.answerEv_taken h rfl _).trans (congrArg (s.taken f) ?_))
  have right : ¬ (!(s.req f).rights.call) = true := State.grants hr
  have long : ¬ f.payload.length < 6 := by split at hp <;> omega
  have length : ¬ (!callLengthOk f.payload) = true := by
    rw [callLengthOk, if_neg long]
    simpa using hp
  have code : coded callKindOf f.payload 4 = some kind := (coded_eq callKindOf (by omega) rfl).trans hk
  simp only [Ev.call, State.req_payload, if_neg right, if_neg length, code]

theorem IncidentRegister.lists_none {r : IncidentRegister} {call : Nat}
    (h : ∀ x ∈ r.table, x.2.state ≠ .cleared → call ∉ x.2.refs) : r.lists call = none := by
  rw [IncidentRegister.lists, Option.map_eq_none_iff, List.find?_eq_none]
  intro x hx
  simpa [Incident.uncleared] using h x hx

theorem IncidentRegister.lists_first {r : IncidentRegister} {call : Nat} {lower upper : Table Incident} {x : Nat × Incident}
    (table : r.table = lower ++ x :: upper) (before : ∀ y ∈ lower, y.2.state ≠ .cleared → call ∉ y.2.refs)
    (uncleared : x.2.state ≠ .cleared) (listed : call ∈ x.2.refs) : r.lists call = some x.2 := by
  have passed : lower.find? (fun x => x.2.uncleared && x.2.refs.contains call) = none := by
    rw [List.find?_eq_none]
    intro y hy
    simpa [Incident.uncleared] using before y hy
  rw [IncidentRegister.lists, table, List.find?_append, passed]
  simp [Incident.uncleared, uncleared, listed]

section TakeCall
variable {e : Ev} {call : Nat} (unlisted : e.p.reg.lists call = none) (kind : IncidentKind) {key : Nat} (href : List Byte)

theorem Ev.takeCall_listed {i : Incident} (h : e.p.reg.lists call = some i) (key : Nat) :
    e.takeCall call kind key href = (e, ⟨.duplicate, be 2 i.id ++ href⟩) := by
  simp only [Ev.takeCall, h]

include unlisted

theorem Ev.takeCall_unlocated (h : e.locateCall key = none) : e.takeCall call kind key href
    = e.openForCall call kind (newIncident kind (baseGrade kind) (e.now + e.p.reg.response (baseGrade kind)) e.now) none href := by
  simp only [Ev.takeCall, unlisted, h]
  rfl

variable {l : Located} (located : e.locateCall key = some l)

include located

theorem Ev.takeCall_absorbed {k : Nat} (noGas : kind = .noGas) (owned : l.rt.owner = some k) :
    e.takeCall call kind key href = (e.absorb k, ⟨.absorbed, be 2 k ++ href⟩) := by
  simp only [Ev.takeCall, unlisted, located, if_pos noGas, owned]

/-- What is left of a located call that no outage record absorbs (R86). -/
theorem Ev.takeCall_located (free : kind = .noGas → l.rt.owner = none) : e.takeCall call kind key href
    = if kind = .noGas && e.p.mon.tierLow.at l.link.tier then
        (((e.p.reg.table.find? fun x => x.2.uncleared && x.2.kind = .tierLow && x.2.tier = some l.link.tier).map fun x =>
          e.mergeCall x.1 call kind (e.callGrade kind (some l)) (callInSection kind (some l)) false (some l.pipe) href).getD
          (e.openForCall call kind
            { newIncident .tierLow 1 (e.now + e.p.reg.response1) e.now with tier := some l.link.tier } (some l.pipe) href))
      else
        (((latestKey (e.p.reg.candidates kind l.pipe e.now)).map fun slot =>
          e.mergeCall slot call kind (e.callGrade kind (some l)) (callInSection kind (some l)) true (some l.pipe) href).getD
          (e.openForCall call kind
            { newIncident kind (e.callGrade kind (some l)) (e.now + e.p.reg.response (e.callGrade kind (some l))) e.now with
              pipe := some l.pipe, tier := some l.link.tier, inSection := callInSection kind (some l) } (some l.pipe) href)) := by
  have unowned : (if kind = .noGas then l.rt.owner else none) = none := by
    split
    · exact free ‹_›
    · rfl
  simp only [Ev.takeCall, unlisted, located, unowned]
  split
  · cases e.p.reg.table.find? fun x => x.2.uncleared && x.2.kind = .tierLow && x.2.tier = some l.link.tier with
    | none => rfl
    | some x => rfl
  · cases latestKey (e.p.reg.candidates kind l.pipe e.now) with
    | none => rfl
    | some slot => rfl

end TakeCall

theorem Ev.locateCall_none {e : Ev} {key : Nat} (h : ∀ x ∈ e.p.net.locator, ¬(x.2.lo ≤ key ∧ key ≤ x.2.hi)) :
    e.locateCall key = none := by
  have hits : (e.p.net.locator.filter fun x => x.2.lo ≤ key && key ≤ x.2.hi) = [] := by
    rw [List.filter_eq_nil_iff]
    intro x hx
    simpa using h x hx
  have none : e.p.net.locate key = none := by
    unfold NetworkStore.locate
    split
    · rw [hits]
      rfl
    · rfl
  simp only [Ev.locateCall, none]

theorem Ev.locateCall_some {e : Ev} {key pipe : Nat} {l : Link} {rt : PipeRt} (h : e.p.net.locate key = some pipe)
    (hl : tget e.p.net.links pipe = some l) (ht : tget e.p.net.pipes pipe = some rt) :
    e.locateCall key = some ⟨pipe, l, rt⟩ := by
  simp only [Ev.locateCall, h, Ev.link?, Ev.pipe?, hl, ht]

theorem callKindOf_cases {n : Nat} {kind : IncidentKind} (h : callKindOf n = some kind) :
    (n = 0 ∧ kind = .ignition) ∨ (n = 1 ∧ kind = .damage) ∨ (n = 2 ∧ kind = .odourInside)
      ∨ (n = 3 ∧ kind = .odourOutside) ∨ (n = 4 ∧ kind = .noGas) := by
  unfold callKindOf at h
  split at h <;> simp_all

/-- Settles O31: no incident and no record takes the call, or one does. -/
theorem callOutcomes : Obligations.CallOutcomes := by
  unfold Obligations.CallOutcomes
  refine ⟨fun s f kind slot h hp hr flag hk unlisted unlocated hslot empty used fresh => ?_, fun s f h hp flag =>
    ⟨fun no => ?_, fun lower x upper hr hk table before uncleared listed => ?_,
      fun pipe l rt k hr hk unlisted located hl ht owned => ?_⟩⟩
  · have ref : hostRef f.payload = [] := by simp [hostRef, flag]
    dsimp only
    rw [exec_call h hr (by simp [flag, hp]) hk, Ev.takeCall_unlocated (IncidentRegister.lists_none unlisted) kind _
      (Ev.locateCall_none unlocated), Ev.openForCall_of_free hslot empty used fresh, ref]
    obtain ⟨_, rfl⟩ | ⟨_, rfl⟩ | ⟨_, rfl⟩ | ⟨_, rfl⟩ | ⟨_, rfl⟩ := callKindOf_cases hk
    · rfl
    · rfl
    · rfl
    · rfl
    · rfl
  · have run : exec .call s = .next (s.taken f (s.ev.call (s.req f))) :=
      congrArg Host.Outcome.next (State.answerEv_taken h rfl fun q e => e.call q)
    have refused : s.ev.call (s.req f) = (s.ev, ⟨.noRight, []⟩) := if_pos (State.refuses no)
    rw [run, refused]
    rfl
  · have ref : hostRef f.payload = [] := by simp [hostRef, flag]
    obtain ⟨kind, kindOf⟩ : ∃ kind, callKindOf (field f.payload 4 1) = some kind := by
      interval_cases field f.payload 4 1
      all_goals exact ⟨_, rfl⟩
    rw [exec_call h hr (by simp [flag, hp]) kindOf,
      Ev.takeCall_listed (e := s.ev) kind _ (IncidentRegister.lists_first table before uncleared listed), ref, List.append_nil]
    rfl
  · have ref : hostRef f.payload = [] := by simp [hostRef, flag]
    rw [exec_call h hr (by simp [flag, hp]) (by rw [hk]; rfl),
      Ev.takeCall_absorbed (e := s.ev) (IncidentRegister.lists_none unlisted) .noGas _
        (Ev.locateCall_some located hl ht) rfl owned, ref, List.append_nil]
    rfl

/-! ## Where a located call goes (R90 to R95) -/

/-- The pair a scan for the latest time keeps. -/
def later (best x : Nat × Nat) : Nat × Nat := if best.2 < x.2 then x else best

theorem foldl_later (l : List (Nat × Nat)) : ∀ b : Nat × Nat, (b :: l).Pairwise (fun x y => x.1 < y.1) →
    l.foldl later b ∈ b :: l ∧ ∀ x ∈ b :: l,
      x.2 < (l.foldl later b).2 ∨ (x.2 = (l.foldl later b).2 ∧ (l.foldl later b).1 ≤ x.1) := by
  induction l with
  | nil => intro b _; simp
  | cons y l ih =>
    intro b sorted
    obtain ⟨head, tail⟩ := List.pairwise_cons.1 sorted
    rw [List.foldl_cons]
    by_cases less : b.2 < y.2
    · obtain ⟨mem, best⟩ := ih y tail
      rw [show later b y = y from if_pos less]
      refine ⟨List.mem_cons_of_mem _ mem, fun x hx => ?_⟩
      obtain rfl | hx := List.mem_cons.1 hx
      · have := best y List.mem_cons_self
        omega
      · exact best x hx
    · have skipped : (b :: l).Pairwise fun x y => x.1 < y.1 :=
        List.pairwise_cons.2 ⟨fun x hx => head x (List.mem_cons_of_mem _ hx), (List.pairwise_cons.1 tail).2⟩
      obtain ⟨mem, best⟩ := ih b skipped
      rw [show later b y = b from if_neg less]
      refine ⟨?_, fun x hx => ?_⟩
      · obtain same | mem := List.mem_cons.1 mem
        · exact List.mem_cons.2 (.inl same)
        · exact List.mem_cons_of_mem _ (List.mem_cons_of_mem _ mem)
      · obtain rfl | hx := List.mem_cons.1 hx
        · exact best x List.mem_cons_self
        · obtain rfl | hx := List.mem_cons.1 hx
          · have first := best b List.mem_cons_self
            have before := head x List.mem_cons_self
            omega
          · exact best x (List.mem_cons_of_mem _ hx)

/-- The latest time, and of pairs that share it the lowest key. -/
theorem latestKey_eq {l : List (Nat × Nat)} (sorted : l.Pairwise fun x y => x.1 < y.1) {k t : Nat} (mem : (k, t) ∈ l)
    (best : ∀ x ∈ l, x.2 < t ∨ (x.2 = t ∧ k ≤ x.1)) : latestKey l = some k := by
  cases l with
  | nil => cases mem
  | cons b l =>
    obtain ⟨found, top⟩ := foldl_later l b sorted
    have below := best _ found
    have above := top _ mem
    have eq : latestKey (b :: l) = some (l.foldl later b).1 := rfl
    rw [eq]
    congr 1
    dsimp only at above
    omega

theorem IncidentRegister.mem_candidates (r : IncidentRegister) (w : tableWf r.table) (kind : IncidentKind) (pipe now k t : Nat) :
    (k, t) ∈ r.candidates kind pipe now ↔ ∃ i, tget r.table k = some i ∧ i.state ≠ .cleared ∧ i.pipe = some pipe
      ∧ sameFamily i.kind kind = true ∧ i.lastCall = some t ∧ now - t ≤ r.mergeWindow := by
  simp only [IncidentRegister.candidates, List.mem_filterMap]
  constructor
  · rintro ⟨⟨j, i⟩, mem, found⟩
    split at found
    · next last hl =>
      split at found
      · next test =>
        cases found
        simp only [Incident.uncleared, Bool.and_eq_true, decide_eq_true_eq] at test
        obtain ⟨⟨⟨uncleared, hp⟩, family⟩, window⟩ := test
        exact ⟨i, tget_of_mem w mem, uncleared, hp, family, hl, window⟩
      · cases found
    · cases found
  · rintro ⟨i, hi, uncleared, hp, family, hl, window⟩
    exact ⟨(k, i), mem_of_tget hi, by simp [hl, Incident.uncleared, uncleared, hp, family, window]⟩

theorem IncidentRegister.candidates_sorted (r : IncidentRegister) (w : tableWf r.table) (kind : IncidentKind) (pipe now : Nat) :
    (r.candidates kind pipe now).Pairwise fun x y => x.1 < y.1 := by
  have shape : r.candidates kind pipe now = r.table.filterMap fun x => (x.2.lastCall.bind fun t =>
      if x.2.uncleared && x.2.pipe = some pipe && sameFamily x.2.kind kind && now - t ≤ r.mergeWindow then some t
      else none).map fun t => (x.1, t) := by
    refine List.filterMap_congr fun x _ => ?_
    cases x.2.lastCall with
    | none => rfl
    | some t =>
      simp only [Option.bind_some]
      split <;> rfl
  rw [shape]
  exact List.pairwise_map.1 (tableWf_filterMap w fun _ i => i.lastCall.bind fun t =>
    if i.uncleared && i.pipe = some pipe && sameFamily i.kind kind && now - t ≤ r.mergeWindow then some t else none)

/-- No call is merged into an incident the Station Monitor opened, nor into one of the other family (R94). -/
theorem sameFamily_called {n : Nat} {kind : IncidentKind} (h : callKindOf n = some kind) (a : IncidentKind) :
    sameFamily a kind = true ↔ if kind = .noGas then a = .noGas
      else a = .ignition ∨ a = .damage ∨ a = .odourInside ∨ a = .odourOutside := by
  obtain ⟨_, rfl⟩ | ⟨_, rfl⟩ | ⟨_, rfl⟩ | ⟨_, rfl⟩ | ⟨_, rfl⟩ := callKindOf_cases h <;> simp [sameFamily, or_assoc]

theorem one_le_baseGrade (kind : IncidentKind) : 1 ≤ baseGrade kind := by cases kind <;> decide

/-- The two adjustments of a located call outside a section (R91). -/
theorem adjustGrade_twice {g : Nat} (h : 1 ≤ g) (a b : Bool) : adjustGrade (adjustGrade g a) b
    = max 1 (g - (if a = true then 1 else 0) - if b = true then 1 else 0) := by
  unfold adjustGrade
  cases a <;> cases b <;> simp <;> omega

theorem IncidentRegister.sagging_of {r : IncidentRegister} {tier : Tier} {x : Nat × Incident}
    (h : r.table.find? (fun x => x.2.uncleared && x.2.kind = .tierLow && x.2.tier = some tier) = some x) :
    x ∈ r.table ∧ x.2.state ≠ .cleared ∧ x.2.kind = .tierLow ∧ x.2.tier = some tier := by
  have test := List.find?_some h
  simp only [Incident.uncleared, Bool.and_eq_true, decide_eq_true_eq] at test
  obtain ⟨⟨uncleared, kind⟩, tier⟩ := test
  exact ⟨List.mem_of_find?_eq_some h, uncleared, kind, tier⟩

theorem Ev.callGrade_located (e : Ev) (kind : IncidentKind) (l : Located) : e.callGrade kind (some l)
    = if callInSection kind (some l) then 3
      else max 1 (baseGrade kind - (if l.link.tier = .lp then 0 else 1) - if e.stationRaises l.link then 1 else 0) := by
  simp only [Ev.callGrade]
  split
  · rfl
  · rw [adjustGrade_twice (one_le_baseGrade kind)]
    by_cases lp : l.link.tier = .lp
    · simp [lp]
    · simp [lp]

/-- What a merge changes and what it leaves (R95). -/
theorem Incident.merge_spec (i : Incident) (call : Nat) (kind : IncidentKind) (grade deadline now : Nat) (inSec family : Bool) :
    let j := i.merge call kind grade deadline now inSec family
    j.calls = min 65535 (i.calls + 1)
    ∧ (i.refs.length < 16 → j.refs = i.refs ++ [call] ∧ j.truncated = i.truncated)
    ∧ (16 ≤ i.refs.length → j.refs = i.refs ∧ j.truncated = true)
    ∧ j.lastCall = some now ∧ j.inSection = (i.inSection || inSec)
    ∧ (grade < i.grade → j.grade = grade ∧ j.deadline = min i.deadline deadline
      ∧ j.kind = if family then kind else i.kind)
    ∧ (i.grade ≤ grade → j.grade = i.grade ∧ j.deadline = i.deadline ∧ j.kind = i.kind)
    ∧ j.id = i.id ∧ j.state = i.state ∧ j.opened = i.opened ∧ j.lastState = i.lastState ∧ j.overdue = i.overdue
    ∧ j.pipe = i.pipe ∧ j.station = i.station ∧ j.tier = i.tier ∧ j.iso = i.iso := by
  have listed : (i.refs.length < 16 →
      (if i.refs.length < Config.callRefs then i.refs ++ [call] else i.refs) = i.refs ++ [call]
        ∧ (i.truncated || !(i.refs.length < Config.callRefs)) = i.truncated)
      ∧ (16 ≤ i.refs.length → (if i.refs.length < Config.callRefs then i.refs ++ [call] else i.refs) = i.refs
        ∧ (i.truncated || !(i.refs.length < Config.callRefs)) = true) :=
    ⟨fun few => ⟨if_pos few, by simp [Config.callRefs, few]⟩,
      fun many => ⟨if_neg (Nat.not_lt.2 many), by simp [Config.callRefs, many]⟩⟩
  obtain ⟨few, many⟩ := listed
  dsimp only
  by_cases urgent : grade < i.grade
  · simp only [Incident.merge, if_pos urgent]
    exact ⟨trivial, few, many, trivial, trivial, fun _ => ⟨trivial, trivial, trivial⟩, fun calm => absurd urgent (Nat.not_lt.2 calm),
      trivial, trivial, trivial, trivial, trivial, trivial, trivial, trivial, trivial⟩
  · simp only [Incident.merge, if_neg urgent]
    exact ⟨trivial, few, many, trivial, trivial, fun more => absurd more urgent, fun _ => ⟨trivial, trivial, trivial⟩,
      trivial, trivial, trivial, trivial, trivial, trivial, trivial, trivial, trivial⟩

/-- Settles O32: a call goes to the one incident that the scan of its case finds, or opens one. -/
theorem mergeOfCall : Obligations.MergeOfCall := by
  unfold Obligations.MergeOfCall
  refine ⟨Incident.merge_spec, ?_⟩
  intro s f kind pipe l rt h wf hr hp hk unlisted located hl ht free r now call inSec base beside grade response reply merges
    opens family candidate sagging
  obtain ⟨_, _, _, _, register, _⟩ := wf
  have ref : hostRef f.payload = f.payload.drop 9 := by
    unfold hostRef bytesAt
    split at hp
    · rw [if_pos ‹_›, List.take_of_length_le (by simp [hp])]
    · rw [if_neg ‹_›, List.drop_eq_nil_of_le (by omega)]
  have run := exec_call h hr hp hk
  rw [Ev.takeCall_located (e := s.ev) (IncidentRegister.lists_none unlisted) kind _ (Ev.locateCall_some located hl ht) free,
    ref] at run
  have graded : s.ev.callGrade kind (some ⟨pipe, l, rt⟩) = grade := by
    have base' : baseGrade kind = base := by
      obtain ⟨_, rfl⟩ | ⟨_, rfl⟩ | ⟨_, rfl⟩ | ⟨_, rfl⟩ | ⟨_, rfl⟩ := callKindOf_cases hk <;> rfl
    rw [Ev.callGrade_located, base']
    rfl
  rw [graded, show callInSection kind (some ⟨pipe, l, rt⟩) = inSec from rfl] at run
  clear_value grade inSec
  have merged {k : Nat} {i : Incident} (fam : Bool) (hi : tget r.table k = some i)
      (run : exec .call s = .next (s.taken f (s.ev.mergeCall k call kind grade inSec fam (some pipe) (f.payload.drop 9)))) :
      merges k i fam := by
    have eq : s.ev.mergeCall k call kind grade inSec fam (some pipe) (f.payload.drop 9)
        = (s.ev.modIncident k fun _ => i.merge call kind grade (now + response grade) now inSec fam,
          reply (i.merge call kind grade (now + response grade) now inSec fam) 1) := by
      simp only [Ev.mergeCall, show tget s.ev.p.reg.table k = some i from hi]
      rfl
    rw [eq] at run
    exact run
  have opened {i : Incident}
      (run : exec .call s = .next (s.taken f (s.ev.openForCall call kind i (some pipe) (f.payload.drop 9)))) :
      opens (i.calledIn 0 call now) := by
    refine ⟨fun slot hslot empty used fresh => ?_, fun used uncleared => ?_⟩
    · rw [Ev.openForCall_of_free hslot empty used fresh] at run
      exact run
    · rw [Ev.openForCall_of_full used uncleared] at run
      exact run
  clear_value merges opens
  refine ⟨fun low => ?_, fun steady => ?_⟩
  · rw [if_pos (by simp [low])] at run
    refine ⟨fun k i hi alone => ?_, fun absent => ?_⟩
    · obtain ⟨there, uncleared, tierLow, tier⟩ := hi
      cases found : s.plant.reg.table.find? fun x => x.2.uncleared && x.2.kind = .tierLow && x.2.tier = some l.tier with
      | none =>
        exact absurd (List.find?_eq_none.1 found (k, i) (mem_of_tget there))
          (not_not.2 <| by simp [Incident.uncleared, uncleared, tierLow, tier])
      | some x =>
        obtain ⟨mem, uncleared', tierLow', tier'⟩ := IncidentRegister.sagging_of found
        have there' : tget r.table x.1 = some x.2 := tget_of_mem register mem
        have same : x.1 = k := alone x.1 x.2 ⟨there', uncleared', tierLow', tier'⟩
        rw [found] at run
        exact merged false there (same ▸ run)
    · have none : (s.plant.reg.table.find? fun x => x.2.uncleared && x.2.kind = .tierLow && x.2.tier = some l.tier) = none := by
        cases found : s.plant.reg.table.find? fun x => x.2.uncleared && x.2.kind = .tierLow && x.2.tier = some l.tier with
        | none => rfl
        | some x =>
          obtain ⟨mem, uncleared, tierLow, tier⟩ := IncidentRegister.sagging_of found
          exact absurd ⟨tget_of_mem register mem, uncleared, tierLow, tier⟩ (absent x.1 x.2)
      rw [none] at run
      exact opened run
  · rw [if_neg (by simpa using steady)] at run
    have candidates (k last : Nat) : (k, last) ∈ s.plant.reg.candidates kind pipe now ↔ ∃ i, candidate k i last := by
      rw [IncidentRegister.mem_candidates _ register]
      refine exists_congr fun i => ?_
      rw [sameFamily_called hk]
    refine ⟨fun k i last hi best => ?_, fun absent => ?_⟩
    · have latest : latestKey (s.plant.reg.candidates kind pipe now) = some k := by
        refine latestKey_eq (IncidentRegister.candidates_sorted _ register _ _ _) ((candidates k last).2 ⟨i, hi⟩) fun x hx => ?_
        obtain ⟨j, hj⟩ := (candidates x.1 x.2).1 hx
        exact best x.1 j x.2 hj
      rw [latest] at run
      obtain ⟨there, _⟩ := hi
      exact merged true there run
    · have none : s.plant.reg.candidates kind pipe now = [] := by
        refine List.eq_nil_iff_forall_not_mem.2 fun x hx => ?_
        obtain ⟨j, hj⟩ := (candidates x.1 x.2).1 hx
        exact absent x.1 j x.2 hj
      rw [none] at run
      exact opened run

end Sys2Proof.Machine
end

section
/-! Reports of crews (R143, R146 to R149, R152): the order that ends, its link, and what the new position leaves of both:
O45. -/

namespace Sys2Proof.Machine

-- One theorem after another: theorems checked side by side each hold a thread and its stack.
set_option Elab.async false

/-! ## Events with nothing to issue (R141) -/

/-- With nothing to issue before, there is nothing to issue after. -/
def Ev.StaysIdle (e f : Ev) : Prop := e.p.noneToIssue → f.p.noneToIssue

section StaysIdle
variable {e f g : Ev}

theorem Ev.StaysIdle.refl (e : Ev) : e.StaysIdle e := id

theorem Ev.StaysIdle.last (k : f.StaysIdle g) (h : e.StaysIdle f) : e.StaysIdle g := k ∘ h

theorem Ev.StaysIdle.ite {p : Prop} [Decidable p] (h : e.StaysIdle f) (k : e.StaysIdle g) :
    e.StaysIdle (if p then f else g) := by
  split
  · exact h
  · exact k

theorem Ev.StaysIdle.each {h : Nat → Ev → Ev} (step : ∀ k (e : Ev), e.StaysIdle (h k e)) (e : Ev) (ks : List Nat) :
    e.StaysIdle (e.each ks h) := by
  induction ks generalizing e with
  | nil => exact .refl e
  | cons k ks ih => exact .last (ih (h k e)) (step k e)

theorem Ev.Within.staysIdle {A : List Part} (h : Ev.Within A e f) (out : Part.isos ∉ A := by decide) : e.StaysIdle f := by
  intro none
  rw [Plant.noneToIssue, h.isos out]
  exact none

theorem Ev.modIso_staysIdle (e : Ev) (slot : Nat) {f : Isolation → Isolation}
    (hf : ∀ i, i.toIssue = [] → (f i).toIssue = []) : e.StaysIdle (e.modIso slot f) :=
  fun none => Ev.modIso_noneToIssue none slot hf

theorem Ev.setIso_staysIdle (e : Ev) (slot : Nat) (new : IsoState) (cause : IsoCause) (other : Other) (left : Nat) :
    e.StaysIdle (e.setIso slot new cause other left) := fun none => Ev.setIso_noneToIssue none slot new cause other left

theorem Ev.askTrace_staysIdle (e : Ev) (slot : Nat) : e.StaysIdle (e.askTrace slot) :=
  fun none => Ev.askTrace_noneToIssue none slot

theorem Ev.enterEffective_staysIdle (e : Ev) (slot : Nat) (cause : IsoCause) : e.StaysIdle (e.enterEffective slot cause) := by
  unfold Ev.enterEffective
  split
  · exact .refl e
  · exact .last (Ev.askRecompute_within _).staysIdle (.last (Ev.madeSafe_within _ _ _).staysIdle
      (.last (Ev.modIso_staysIdle _ _ fun _ h => h) (e.setIso_staysIdle _ _ _ _ _)))

theorem Ev.verified_staysIdle (e : Ev) (slot : Nat) (result : Verification) (cause : IsoCause) :
    e.StaysIdle (e.verified slot result cause) :=
  .last (Ev.enterEffective_staysIdle _ _ _) (e.modIso_staysIdle slot fun _ h => h)

theorem Ev.enterVerifying_staysIdle (e : Ev) (slot : Nat) : e.StaysIdle (e.enterVerifying slot) := by
  have cleared : e.StaysIdle (e.modIso slot fun i => { i with result := .none }).askRecompute :=
    e.modIso_staysIdle slot fun _ h => h
  have checked (e : Ev) : e.StaysIdle (e.decayCheck slot) := by
    unfold Ev.decayCheck
    split
    · exact .refl e
    · exact .ite (e.verified_staysIdle _ _ _) (.refl e)
  unfold Ev.enterVerifying
  dsimp only
  split
  · exact cleared
  · split
    · exact .last (Ev.verified_staysIdle _ _ _ _) cleared
    · exact .last (checked _) (.last (Ev.modIso_staysIdle _ _ fun _ h => h) cleared)

theorem Ev.closingCheck_staysIdle (e : Ev) (slot : Nat) : e.StaysIdle (e.closingCheck slot) := by
  unfold Ev.closingCheck
  split
  · exact .refl e
  · exact .ite (.last (Ev.enterVerifying_staysIdle _ _) (e.setIso_staysIdle _ _ _ _ _)) (.refl e)

theorem Ev.closingCheck_keyed (e : Ev) (slot : Nat) : e.KeepsKeyed (e.closingCheck slot) := by
  unfold Ev.closingCheck
  split
  · exact .refl e
  · exact .ite (.last (Ev.enterVerifying_keyed _ _) (e.setIso_keyed _ _ _ _ _)) (.refl e)

theorem Ev.endIso_staysIdle (e : Ev) (slot : Nat) (new : IsoState) (cause : IsoCause) (other : Other) (left : Nat) :
    e.StaysIdle (e.endIso slot new cause other left) := by
  have waitOver (k : Nat) (e : Ev) : e.StaysIdle (e.waitOver k) :=
    .last (Ev.askTrace_staysIdle _ _) (.last (Ev.setIso_staysIdle _ _ _ _ _ _) (e.modIso_staysIdle _ fun _ h => h))
  unfold Ev.endIso
  split
  · exact .refl e
  · exact .last (.each waitOver _ _) (.last (Ev.modIso_staysIdle _ _ fun _ h => h)
      (.last (Ev.unlinkIncident_within _ _ _).staysIdle (e.setIso_staysIdle _ _ _ _ _)))

end StaysIdle

/-! ## A finished order and its link (R143) -/

/-- An order that has left the list, while nothing waits to be issued. -/
structure Ev.Kept (id : Nat) (o : Order) (e : Ev) : Prop where
  keyed : e.p.keyed
  idle : e.p.noneToIssue
  order : e.order? id = some o
  finished : o.outstanding = false

/-- With it its link, without an order: what an event does afterwards touches neither. -/
structure Ev.Done (id link : Nat) (o : Order) (c : ControlRt) (e : Ev) : Prop extends Ev.Kept id o e where
  control : e.control? link = some c
  free : c.order = none

theorem Ev.Kept.step {id : Nat} {o : Order} {e f : Ev} {A : List Part} (h : e.Kept id o) (w : Ev.Within A e f)
    (keyed : e.KeepsKeyed f) (idle : e.StaysIdle f) (orders : Part.orders ∉ A := by decide) : f.Kept id o where
  keyed := keyed h.keyed
  idle := idle h.idle
  order := (congrArg (tget · id) (w.orders orders).1).trans h.order
  finished := h.finished

theorem Ev.Kept.finishOrder {id : Nat} {o : Order} {e : Ev} (h : e.Kept id o) {other : Nat} (ne : other ≠ id) (st : OrderState)
    (cause : FinishCause) : (e.finishOrder other st cause).Kept id o where
  keyed := e.finishOrder_keyed other st cause h.keyed
  idle := (e.finishOrder_within other st cause).staysIdle (by decide) h.idle
  order := by
    unfold Ev.finishOrder
    split
    · exact h.order
    · exact (e.modOrder_order? other id _).trans ((if_neg (Ne.symm ne)).trans h.order)
  finished := h.finished

/-- An order that has left the list is none of those an isolation has outstanding. -/
theorem Ev.Kept.not_mem {id : Nat} {o : Order} {e : Ev} (h : e.Kept id o) {r : IsoRef} {a : OrderAction} {k : Nat}
    (hk : k ∈ e.ordersOf r a) : k ≠ id := by
  rintro rfl
  obtain ⟨_, _, _, orders, _⟩ := h.keyed
  obtain ⟨x, hx, test⟩ := (mem_tkeysWhere (p := fun _ o => o.outstanding && o.iso = r && o.action = a) orders).1 hk
  obtain rfl := Option.some.inj (hx.symm.trans h.order)
  simp [h.finished] at test

section Done
variable {id link : Nat} {o : Order} {c : ControlRt} {e f : Ev}

theorem Ev.Done.step {A : List Part} (h : e.Done id link o c) (w : Ev.Within A e f) (keyed : e.KeepsKeyed f) (idle : e.StaysIdle f)
    (orders : Part.orders ∉ A := by decide) (controls : Part.controls ∉ A := by decide) : f.Done id link o c where
  toKept := h.toKept.step w keyed idle orders
  control := (congrArg (tget · link) (w.controls controls)).trans h.control
  free := h.free

theorem Ev.Done.each {step : Nat → Ev → Ev} {ks : List Nat} (h : e.Done id link o c)
    (hs : ∀ k ∈ ks, ∀ e : Ev, e.Done id link o c → (step k e).Done id link o c) : (e.each ks step).Done id link o c := by
  induction ks generalizing e with
  | nil => exact h
  | cons k ks ih => exact ih (hs k List.mem_cons_self e h) fun j hj => hs j (List.mem_cons_of_mem _ hj)

theorem Ev.Done.finishOrder (h : e.Done id link o c) {other : Nat} (ne : other ≠ id) (st : OrderState) (cause : FinishCause) :
    (e.finishOrder other st cause).Done id link o c where
  toKept := h.toKept.finishOrder ne st cause
  control := by
    unfold Ev.finishOrder
    split
    · exact h.control
    · next x hx =>
      refine (Ev.modControl_control? (e.modOrder other _) x.link link fun c => { c with order := none }).trans ?_
      have there : (e.modOrder other fun o => { o with state := st, finishTime := some e.now, cause := some cause }).control? link
          = some c := h.control
      rw [there]
      split
      · rw [Option.map_some, ← h.free]
      · rfl
  free := h.free

theorem Ev.Done.withdrawOpens (h : e.Done id link o c) (r : IsoRef) : (e.withdrawOpens r).Done id link o c :=
  h.each fun _ hk _ he => he.finishOrder (h.toKept.not_mem hk) _ _

theorem Ev.Done.endOf (h : e.Done id link o c) (slot : Nat) (cause : IsoCause) : (e.endOf slot cause).Done id link o c := by
  cases hi : e.iso? slot with
  | none =>
    simp only [Ev.endOf, hi]
    exact h
  | some i =>
    rw [Ev.endOf_eq hi]
    have stopped := h.step (e.modIso_within slot (f := fun i => { i with
      ramp := i.ramp.map fun r => { r with startTimer := none } }) (fun _ => rfl) fun _ => rfl) (e.modIso_keyed _ _)
      (e.modIso_staysIdle _ fun _ h => h)
    have wound : (e.woundUp slot i).Done id link o c := by
      have withdrawn := stopped.withdrawOpens ⟨slot, i.serial⟩
      exact withdrawn.step (Ev.modIso_within _ slot (f := fun i => { i with toIssue := [] }) (fun _ => rfl) fun _ => rfl)
        (Ev.modIso_keyed _ _ _) (Ev.modIso_staysIdle _ _ fun _ _ => rfl)
    have disowned := wound.step (Ev.disowned_within _ slot i.outage) (Ev.disowned_keyed _ _ _)
      (Ev.disowned_within _ slot i.outage).staysIdle
    exact disowned.step (Ev.endIso_within _ _ _ _ _ _) (Ev.endIso_keyed _ _ _ _ _ _) (Ev.endIso_staysIdle _ _ _ _ _ _)

theorem Ev.Done.closingCheck (h : e.Done id link o c) (slot : Nat) : (e.closingCheck slot).Done id link o c :=
  h.step (e.closingCheck_within slot) (e.closingCheck_keyed slot) (e.closingCheck_staysIdle slot)

theorem Ev.Done.modIso (h : e.Done id link o c) (slot : Nat) {f : Isolation → Isolation} (fixed : ∀ i, (f i).fixed = i.fixed)
    (plan : ∀ i, (f i).plan = i.plan) (empty : ∀ i, i.toIssue = [] → (f i).toIssue = []) : (e.modIso slot f).Done id link o c :=
  h.step (e.modIso_within slot fixed plan) (e.modIso_keyed slot f) (e.modIso_staysIdle slot empty)

theorem Ev.Done.completionCheck (h : e.Done id link o c) (slot : Nat) : (e.completionCheck slot).Done id link o c := by
  have ending {e : Ev} (h : e.Done id link o c) : (e.endingCheck slot).Done id link o c := by
    unfold Ev.endingCheck
    split
    · exact h
    · split
      · exact h.endOf slot .relit
      · exact h
  unfold Ev.completionCheck
  split
  · exact h
  · split
    · exact h
    · split
      · next r _ _ =>
        have done := h.modIso slot (f := fun i => { i with ramp := some { r with complete := true, startTimer := none } })
          (fun _ => rfl) (fun _ => rfl) fun _ h => h
        have moved := done.step (Ev.setIso_within _ slot .relighting .rampDone .nothing 0) (Ev.setIso_keyed _ _ _ _ _ _)
          (Ev.setIso_staysIdle _ _ _ _ _ _)
        exact ending (moved.step (Ev.askRecompute_within _) (fun wf => wf) (Ev.askRecompute_within _).staysIdle)
      · exact h

theorem Ev.Done.opening (h : e.Done id link o c) (slot : Nat) : (e.opening slot).Done id link o c := by
  unfold Ev.opening
  split
  · exact h
  · next r _ =>
    split
    · unfold Ev.clockStart
      split
      · exact h
      · exact h.modIso slot (fun _ => rfl) (fun _ => rfl) fun _ h => h
    · exact (h.modIso slot (f := fun i => { i with ramp := some { r with openGen := e.p.net.generation } })
        (fun _ => rfl) (fun _ => rfl) fun _ h => h).completionCheck slot

theorem Ev.Done.settled (h : e.Done id link o c) :
    tget e.settle.p.ctl.orders id = some o ∧ tget e.settle.p.net.controls link = some c := by
  rw [Ev.settle_ctl h.idle, Ev.settle_net_controls h.idle]
  exact ⟨h.order, h.control⟩

end Done

/-! ## The reported position change (R148) -/

/-- A position written, with its bump and recompute, and the order it fulfils withdrawn (R148, steps 1 and 2). -/
def Ev.moved (e : Ev) (link : Nat) (pos : Position) : Ev :=
  ((e.modControl link fun c => { c with position := pos }).bump.askRecompute).positionMet link pos

section Position
variable {e : Ev} {link : Nat} {c : ControlRt} (h : e.control? link = some c)

include h

theorem Ev.reportedPosition_same (pos : Position) (same : c.position = pos) : e.reportedPosition link pos = e := by
  simp only [Ev.reportedPosition, h]
  exact if_pos same

theorem Ev.reportedPosition_closed (open_ : c.position ≠ .closed) : e.reportedPosition link .closed
    = (e.moved link .closed).each ((e.moved link .closed).closingHolders link) fun k e => e.closingCheck k := by
  simp only [Ev.reportedPosition, h]
  exact if_neg open_

theorem Ev.reportedPosition_opened (shut : c.position ≠ .opened) : e.reportedPosition link .opened
    = if ((e.moved link .opened).holders link).isEmpty then
        (e.moved link .opened).each ((e.moved link .opened).restorers link) fun k e => e.opening k
      else (e.moved link .opened).memberOpen link := by
  simp only [Ev.reportedPosition, h]
  exact if_neg shut

theorem Ev.reportedPosition_after {pos : Position} (ne : c.position ≠ pos) :
    Ev.Within Part.operating (e.moved link pos) (e.reportedPosition link pos) := by
  cases pos with
  | closed =>
    rw [Ev.reportedPosition_closed h ne]
    exact .each (fun k e => .of (e.closingCheck_within k)) _ _
  | opened =>
    rw [Ev.reportedPosition_opened h ne]
    exact .ite (.each (fun k e => e.opening_within k) _ _) (.of (Ev.memberOpen_within _ _))

omit h in
theorem Ev.moved_within (e : Ev) (link : Nat) (pos : Position) :
    Ev.Within [.positions, .orders, .controls, .bump, .ask] e (e.moved link pos) :=
  .last (Ev.positionMet_within _ _ _) (.last (Ev.askRecompute_within _) (.last (Ev.bump_within _)
    (.of (e.modPosition_within link fun _ => rfl))))

omit h in
theorem Ev.moved_bumped (e : Ev) (link : Nat) (pos : Position) : (e.moved link pos).bumped = true :=
  (Ev.positionMet_within _ _ _).stays_bumped (Ev.bump_bumped _)

omit h in
theorem Ev.moved_position (e : Ev) (link : Nat) (pos : Position) (k : Nat) : ((e.moved link pos).control? k).map (·.position)
    = if k = link then (e.control? k).map fun _ => pos else (e.control? k).map (·.position) := by
  refine ((Ev.positionMet_within _ _ _).positions (by decide) k).trans
    (((Ev.bump_within _).positions (by decide) k).trans ?_)
  rw [Ev.modControl_control?]
  split
  · rw [Option.map_map]
    rfl
  · rfl

/-- A link without an order moves; nothing else of its control or of the orders changes (R148). -/
theorem Ev.moved_of_free (free : c.order = none) (pos : Position) :
    e.moved link pos = (e.modControl link fun c => { c with position := pos }).bump.askRecompute
      ∧ (e.moved link pos).control? link = some { c with position := pos } := by
  have there : ((e.modControl link fun c => { c with position := pos }).bump.askRecompute).control? link
      = some { c with position := pos } := by
    refine (congrArg (tget · link) ((Ev.bump_within _).controls (by decide))).trans ?_
    refine (Ev.modControl_control? e link link fun c => { c with position := pos }).trans ?_
    rw [if_pos rfl, h]
    rfl
  have none : ((e.modControl link fun c => { c with position := pos }).bump.askRecompute).orderOf? link = none := by
    simp only [Ev.orderOf?, there, Option.bind_some, free]
  have same : e.moved link pos = (e.modControl link fun c => { c with position := pos }).bump.askRecompute := by
    simp only [Ev.moved, Ev.positionMet, none]
  exact ⟨same, same ▸ there⟩

end Position

theorem Ev.Done.moved {e : Ev} {id link : Nat} {o : Order} {c : ControlRt} (h : e.Done id link o c) (pos : Position) :
    (e.moved link pos).Done id link o { c with position := pos } := by
  obtain ⟨eq, there⟩ := Ev.moved_of_free h.control h.free pos
  refine ⟨⟨?_, ?_, ?_, h.finished⟩, there, h.free⟩
  · rw [eq]
    exact Ev.bump_keyed _ (e.modControl_keyed link _ h.keyed)
  · exact (e.moved_within link pos).staysIdle (by decide) h.idle
  · rw [eq]
    exact (congrArg (tget · id) ((Ev.bump_within _).orders (by decide)).1).trans h.order

/-- The link a finished order moved: at the new position, with the holders it has. An opening finds no holder. -/
theorem Ev.Done.reportedPosition {e : Ev} {id link : Nat} {o : Order} {c : ControlRt} (h : e.Done id link o c) (pos : Position)
    (bare : pos = .opened → c.holders = []) : (e.reportedPosition link pos).Done id link o { c with position := pos } := by
  by_cases same : c.position = pos
  · rw [Ev.reportedPosition_same h.control pos same, ← same]
    exact h
  · have moved := h.moved pos
    cases pos with
    | closed =>
      rw [Ev.reportedPosition_closed h.control same]
      exact moved.each fun k _ e he => he.closingCheck k
    | opened =>
      have empty : ((e.moved link .opened).holders link).isEmpty = true := by
        simp [Ev.holders, moved.control, bare rfl]
      rw [Ev.reportedPosition_opened h.control same, if_pos empty]
      exact moved.each fun k _ e he => he.opening k

/-! ## VALVE_REPORT OPERATED (R146, R149) -/

theorem Ev.finishOrder_eq {e : Ev} {id : Nat} {o : Order} (h : e.order? id = some o) (st : OrderState) (cause : FinishCause) :
    e.finishOrder id st cause
      = ((e.modOrder id fun o => { o with state := st, finishTime := some e.now, cause := some cause }).modControl o.link
          fun c => { c with order := none }).note .orderEnd id
          (be 2 o.link ++ be 1 o.action.code ++ be 1 st.code ++ be 1 cause.code ++ be 1 o.iso.slot ++ be 2 o.iso.serial) := by
  simp only [Ev.finishOrder, h]

/-- An order accepted now if it was not before, and DONE (R149). -/
def Ev.operated (e : Ev) (id : Nat) : Ev :=
  (e.modOrder id fun o => { o with acceptTime := some (o.acceptTime.getD e.now) }).finishOrder id .done .operated

section Operated
variable {e : Ev} {id : Nat} {o : Order} (h : e.order? id = some o)

omit h in
theorem Ev.operated_within (e : Ev) (id : Nat) : Ev.Within [.orders, .controls] e (e.operated id) :=
  .last (Ev.finishOrder_within _ _ _ _) (.of (e.modOrder_within id _))

include h

theorem Ev.operated_eq : e.operated id
    = (((e.modOrder id fun o => { o with acceptTime := some (o.acceptTime.getD e.now) }).modOrder id fun o =>
        { o with state := .done, finishTime := some e.now, cause := some .operated }).modControl o.link
        fun c => { c with order := none }).note .orderEnd id
        (be 2 o.link ++ be 1 o.action.code ++ be 1 2 ++ be 1 0 ++ be 1 o.iso.slot ++ be 2 o.iso.serial) := by
  have accepted : (e.modOrder id fun o => { o with acceptTime := some (o.acceptTime.getD e.now) }).order? id
      = some { o with acceptTime := some (o.acceptTime.getD e.now) } := by
    rw [Ev.modOrder_order?, if_pos rfl, h]
    rfl
  rw [Ev.operated, Ev.finishOrder_eq accepted]
  rfl

theorem Ev.operated_done (wf : e.p.keyed) (idle : e.p.noneToIssue) {c : ControlRt} (hc : e.control? o.link = some c) :
    (e.operated id).Done id o.link { o with
      state := .done, acceptTime := some (o.acceptTime.getD e.now), finishTime := some e.now
      cause := some .operated } { c with order := none } where
  keyed := Ev.finishOrder_keyed _ _ _ _ (e.modOrder_keyed id _ wf)
  idle := (e.operated_within id).staysIdle (by decide) idle
  order := by
    rw [Ev.operated_eq h]
    refine (Ev.modOrder_order? _ id id _).trans ?_
    rw [if_pos rfl, Ev.modOrder_order?, if_pos rfl, h]
    rfl
  finished := rfl
  control := by
    rw [Ev.operated_eq h]
    exact (Ev.modControl_control? _ o.link o.link _).trans ((if_pos rfl).trans (congrArg (Option.map _) hc))
  free := rfl

end Operated

theorem Ev.reportOperated_of_outstanding {e : Ev} {id : Nat} {o : Order} (h : o.state = .issued ∨ o.state = .accepted) :
    ∃ body, e.reportOperated id o
      = ((e.operated id).reportedPosition o.link o.action.gives, ⟨.ok, be 2 id ++ [2] ++ body⟩) := by
  obtain issued | accepted := h
  · simp only [Ev.reportOperated, issued]
    exact ⟨_, congrArg (Prod.mk _) (by simp only [orderReply, List.append_assoc]; rfl)⟩
  · simp only [Ev.reportOperated, accepted]
    exact ⟨_, congrArg (Prod.mk _) (by simp only [orderReply, List.append_assoc]; rfl)⟩

/-- Settles O45: the order is done and its link at the position given, and the rest of the event touches neither. -/
theorem orderOperated : Obligations.OrderOperated := by
  unfold Obligations.OrderOperated
  intro s f o c h hp hf wf hr ha ho hc id pos
  have run : exec .valveReportOperated s = .next (s.taken f (s.ev.reportOperated id o)) :=
    congrArg Host.Outcome.next (exec_orderReport h hr ha (by omega) hf hp ho)
  have there : s.ev.order? id = some o := ho
  have gives : pos = o.action.gives := by cases hact : o.action <;> simp only [pos, hact] <;> rfl
  clear_value pos id
  subst gives
  refine ⟨fun outstanding own idle bare => ?_, fun finished same => ?_⟩
  · obtain ⟨body, eq⟩ := Ev.reportOperated_of_outstanding (e := s.ev) (id := id) outstanding
    rw [eq] at run
    have done := Ev.operated_done there wf idle hc
    have ended : [s.notice .orderEnd id (be 2 o.link ++ be 1 o.action.code ++ [2, 0] ++ be 1 o.iso.slot
        ++ be 2 o.iso.serial)] <+: (s.ev.operated id).out := by
      rw [Ev.operated_eq there, List.append_assoc (be 2 o.link ++ be 1 o.action.code)]
      exact List.prefix_rfl
    have before := s.ev.operated_within id
    generalize s.ev.operated id = e at run done ended before
    have all : Ev.Within (.positions :: Part.operating) s.ev (e.reportedPosition o.link o.action.gives) :=
      .last (Ev.reportedPosition_within _ _ _) (.of before)
    have reported := done.reportedPosition o.action.gives fun opened => bare (by cases ha : o.action <;> simp_all [OrderAction.gives])
    have generation : (e.reportedPosition o.link o.action.gives).p.net.generation
        = if c.position = o.action.gives then s.plant.net.generation else min 4294967295 (s.plant.net.generation + 1) := by
      have still := (before.still (by decide) (by decide) (by decide))
      split
      · next same =>
        rw [Ev.reportedPosition_same done.control _ same]
        exact still.1
      · next ne =>
        exact all.bumped_generation rfl ((Ev.reportedPosition_after done.control ne).stays_bumped (Ev.moved_bumped _ _ _))
    have first := ended.trans (Ev.reportedPosition_within e o.link o.action.gives).out
    generalize e.reportedPosition o.link o.action.gives = g at run all reported generation first
    obtain ⟨more, link⟩ := State.taken_first (s := s) (f := f) (r := (g, ⟨.ok, be 2 id ++ [2] ++ body⟩)) first
    obtain ⟨order, control⟩ := reported.settled
    exact ⟨_, more, body, run, order, control, (Ev.settle_net_generation g).trans generation,
      (Ev.settle_net_links g).trans (all.links (by decide)), (Ev.settle_net_nodes g).trans (all.nodes (by decide)), link⟩
  · have late : ∃ body, s.ev.reportOperated id o = (s.ev, ⟨.late, body⟩) := by
      have unmoved := Ev.reportedPosition_same (e := s.ev) hc o.action.gives same
      obtain withdrawn | failed := finished
      · simp only [Ev.reportOperated, withdrawn, unmoved]
        exact ⟨_, rfl⟩
      · simp only [Ev.reportOperated, failed, unmoved]
        exact ⟨_, rfl⟩
    obtain ⟨body, eq⟩ := late
    rw [eq] at run
    exact ⟨body, run⟩

end Sys2Proof.Machine
end

section
/-! What is left when a valve or regulator becomes unworkable (R124, R144, R150, R151): `State.LeftUnworkable`. -/

namespace Sys2Proof.Machine

-- One theorem after another: theorems checked side by side each hold a thread and its stack.
set_option Elab.async false

/-! ## What every return to planning keeps -/

section Preserved
variable {P : Ev → Prop}

theorem Ev.each_preserves {step : Nat → Ev → Ev} {ks : List Nat} (hs : ∀ k ∈ ks, ∀ e, P e → P (step k e)) :
    ∀ e : Ev, P e → P (e.each ks step) := by
  induction ks with
  | nil => exact fun _ h => h
  | cons k ks ih =>
    exact fun e h => ih (fun j hj => hs j (List.mem_cons_of_mem _ hj)) _ (hs k List.mem_cons_self e h)

variable (again : ∀ (e : Ev) (h l : Nat), P e → h ∈ e.closingHolders l → e.isClosed l = false → e.workable l = true →
    P (e.issue h l .close).1)

include again in
theorem Ev.retest_preserves {fail : List Nat → Nat → Ev → Ev}
    (failed : ∀ hs l e, P e → (∀ h ∈ hs, h ∈ e.closingHolders l) → e.isClosed l = false → P (fail hs l e))
    (l : Nat) (e : Ev) (h : P e) : P (Ev.retest fail l e) := by
  unfold Ev.retest
  split
  · exact h
  · next x xs holders =>
    split
    · exact h
    · next test =>
      simp only [Bool.or_eq_true, not_or, Bool.not_eq_true] at test
      obtain ⟨open_, _⟩ := test
      split
      · exact again e x l h (holders ▸ List.mem_cons_self) open_ ‹_›
      · exact failed _ l e h (fun h mem => holders ▸ mem) open_

include again

section Lost

variable {lost : Ev → Nat → Prop} {may : Nat → Prop} (opened : ∀ e l, e.isClosed l = false → lost e l)
  (stays : ∀ e f l, Ev.Within Part.replanning e f → lost e l → lost f l) (held : ∀ e l h, P e → h ∈ e.closingHolders l → may h)
  (back : ∀ (e : Ev) (slot l : Nat) (i : Isolation), P e → e.iso? slot = some i → i.state = .closing → lost e l → may slot →
    P (e.sendBack slot l i))

include again opened stays held back

/-- What returns to planning and new CLOSE orders keep, the failing of a lost member keeps, with all that follows (R124,
R144): a member is lost where it stands open, or where the event says so; who may fail is a holder of it, or named so. -/
theorem Ev.memberFailed_preserves_of (fuel : Nat) : ∀ (slot link : Nat) (e : Ev), P e → lost e link → may slot →
    P (Ev.memberFailed fuel slot link e) := by
  induction fuel with
  | zero => exact fun _ _ _ h _ _ => h
  | succ fuel ih =>
    intro slot link e h gone mine
    by_cases closing : ∃ i, e.iso? slot = some i ∧ i.state = .closing
    · obtain ⟨i, hi, closing⟩ := closing
      rw [Ev.memberFailed_of_closing hi closing]
      have each (hs : List Nat) (l : Nat) (e : Ev) (h : P e) (mem : ∀ h ∈ hs, h ∈ e.closingHolders l)
          (open_ : e.isClosed l = false) : P (e.each hs fun s e => Ev.memberFailed fuel s l e) := by
        refine (Ev.each_preserves (P := fun e => P e ∧ lost e l) (fun k hk f h => ⟨ih k l f h.1 h.2 ?_, ?_⟩) e
          ⟨h, opened e l open_⟩).1
        · exact held e l k ‹P e› (mem k hk)
        · exact stays _ _ l (Ev.memberFailed_within fuel k l f) h.2
      exact Ev.each_preserves (fun l _ e h => Ev.retest_preserves again each l e h) _
        (back e slot link i h hi closing gone mine)
    · rw [Ev.memberFailed_of_idle fun i hi same => closing ⟨i, hi, same⟩]
      exact h

theorem Ev.failMembers_preserves_of (slots : List Nat) (link : Nat) (e : Ev) (h : P e) (gone : lost e link)
    (mine : ∀ s ∈ slots, may s) : P (e.failMembers slots link) := by
  refine (Ev.each_preserves (P := fun e => P e ∧ lost e link)
    (fun k hk e h => ⟨Ev.memberFailed_preserves_of again opened stays held back _ k link e h.1 h.2 (mine k hk), ?_⟩) e
    ⟨h, gone⟩).1
  exact stays _ _ link (Ev.memberFailed_within _ k link e) h.2

omit opened stays held back in
/-- The withdrawal of CLOSE orders keeps what the finishing of an order keeps too (R144). -/
theorem Ev.withdrawCloses_preserves (held : ∀ e l h, P e → h ∈ e.closingHolders l → may h)
    (back : ∀ (e : Ev) (slot l : Nat) (i : Isolation), P e → e.iso? slot = some i → i.state = .closing →
      e.isClosed l = false → may slot → P (e.sendBack slot l i))
    (e : Ev) (r : IsoRef) (released : List Nat)
    (withdrawn : ∀ ids ⊆ e.ordersOf r .close, P (e.each ids fun id e => e.finishOrder id .withdrawn .released)) :
    P (e.withdrawCloses r released) := by
  rw [Ev.withdrawCloses_eq]
  refine Ev.each_preserves (fun l _ f h => Ev.retest_preserves again (fun hs l f h mem open_ => ?_) l f h) _
    (withdrawn _ (List.filter_subset_self _))
  exact Ev.failMembers_preserves_of again (lost := fun e l => e.isClosed l = false) (fun _ _ h => h)
    (fun _ _ l w h => (w.isClosed l).trans h) held back hs l f h open_ fun k hk => held f l k h (mem k hk)

end Lost

end Preserved

section PreservedByAll
variable {P : Ev → Prop}
  (back : ∀ (e : Ev) (slot l : Nat) (i : Isolation), P e → e.iso? slot = some i → i.state = .closing → e.isClosed l = false →
    P (e.sendBack slot l i))
  (again : ∀ (e : Ev) (h l : Nat), P e → h ∈ e.closingHolders l → e.isClosed l = false → e.workable l = true →
    P (e.issue h l .close).1)

include back again

theorem Ev.memberFailed_preserves (fuel slot link : Nat) (e : Ev) (h : P e) (open_ : e.isClosed link = false) :
    P (Ev.memberFailed fuel slot link e) :=
  Ev.memberFailed_preserves_of again (lost := fun e l => e.isClosed l = false) (may := fun _ => True) (fun _ _ h => h)
    (fun _ _ l w h => (w.isClosed l).trans h) (fun _ _ _ _ _ => trivial)
    (fun e slot l i h hi closing open_ _ => back e slot l i h hi closing open_) fuel slot link e h open_ trivial

theorem Ev.failMembers_preserves (slots : List Nat) (link : Nat) (e : Ev) (h : P e) (open_ : e.isClosed link = false) :
    P (e.failMembers slots link) :=
  Ev.failMembers_preserves_of again (lost := fun e l => e.isClosed l = false) (may := fun _ => True) (fun _ _ h => h)
    (fun _ _ l w h => (w.isClosed l).trans h) (fun _ _ _ _ _ => trivial)
    (fun e slot l i h hi closing open_ _ => back e slot l i h hi closing open_) slots link e h open_ fun _ _ => trivial

end PreservedByAll

/-- An isolation in planning again, its own CLOSE orders not yet withdrawn (R124). -/
def Ev.replanned (e : Ev) (slot link : Nat) (i : Isolation) : Ev :=
  ((e.releaseHolds slot (i.holds.filter fun l => !(e.keptHolds link i).contains l)).modIso slot fun j =>
    j.replan (e.keptHolds link i)).setIso slot .planning .memberFailed (.link link)

theorem Ev.sendBack_eq (e : Ev) (slot link : Nat) (i : Isolation) : e.sendBack slot link i
    = (((e.replanned slot link i).each (e.ordersOf ⟨slot, i.serial⟩ .close) fun id e =>
        e.finishOrder id .withdrawn .released).askTrace slot).askRecompute := rfl

theorem Ev.replanned_within (e : Ev) (slot link : Nat) (i : Isolation) :
    Ev.Within [.isos, .controls, .holders] e (e.replanned slot link i) :=
  .last (Ev.setIso_within _ _ _ _ _ _) (.last (Ev.modIso_within _ _ (fun _ => rfl) fun _ => rfl)
    (.of (e.releaseHolds_within _ _)))

theorem Ev.sendBack_within (e : Ev) (slot link : Nat) (i : Isolation) :
    Ev.Within Part.replanning e (e.sendBack slot link i) := by
  rw [Ev.sendBack_eq]
  exact .last (Ev.askRecompute_within _) (.last (Ev.askTrace_within _ _)
    (.last (.each (A := [.orders, .controls]) (fun id e => e.finishOrder_within id _ _) _ _) (.of (e.replanned_within _ _ _))))

/-! ## A link without an order that cannot be worked gets none (R144, R150) -/

/-- The link has no outstanding order. -/
def Ev.orderless (e : Ev) (link : Nat) : Prop := (e.control? link).bind (·.order) = none

section Orderless
variable {e f : Ev} {link : Nat}

theorem Ev.Within.orderless {A : List Part} (w : Ev.Within A e f) (h : e.orderless link)
    (out : Part.controls ∉ A := by decide) : f.orderless link := by
  rw [Ev.orderless, Ev.control?, w.controls out]
  exact h

theorem Ev.modControl_orderless (h : e.orderless link) (l : Nat) {f : ControlRt → ControlRt}
    (hf : ∀ c, c.order = none → (f c).order = none) : (e.modControl l f).orderless link := by
  rw [Ev.orderless, Ev.modControl_control?]
  split
  · unfold Ev.orderless at h
    cases hc : e.control? link with
    | none => rfl
    | some c => exact hf c (by simpa [hc] using h)
  · exact h

theorem Ev.finishOrder_orderless (h : e.orderless link) (id : Nat) (st : OrderState) (cause : FinishCause) :
    (e.finishOrder id st cause).orderless link := by
  unfold Ev.finishOrder
  split
  · exact h
  · exact Ev.modControl_orderless (e := e.modOrder id _) h _ fun _ _ => rfl

theorem Ev.issueNow_orderless (h : e.orderless link) (r : IsoRef) {l : Nat} (ne : l ≠ link) (action : OrderAction) :
    (e.issueNow r l action).orderless link := by
  unfold Ev.issueNow
  dsimp only
  refine (congrArg (Option.bind · ControlRt.order) ?_).trans h
  exact (Ev.modControl_control? _ l link _).trans (if_neg (Ne.symm ne))

theorem Ev.issue_orderless (h : e.orderless link) (slot : Nat) {l : Nat} (ne : l ≠ link) (action : OrderAction) :
    (e.issue slot l action).1.orderless link := by
  unfold Ev.issue
  split
  · exact h
  · split
    · exact Ev.issueNow_orderless h _ ne _
    · exact h

theorem Ev.releaseHolds_orderless (h : e.orderless link) (slot : Nat) (links : List Nat) :
    (e.releaseHolds slot links).orderless link :=
  Ev.each_preserves (P := fun e => e.orderless link) (ks := links)
    (step := fun l e => e.modControl l fun c => { c with holders := c.holders.filter (· ≠ slot) })
    (fun l _ _ h => Ev.modControl_orderless h l fun _ hc => hc) e h

theorem Ev.replanned_orderless (h : e.orderless link) (slot l : Nat) (i : Isolation) :
    (e.replanned slot l i).orderless link :=
  (Ev.setIso_within _ _ _ _ _ _).orderless (Ev.releaseHolds_orderless h _ _)

theorem Ev.sendBack_orderless (h : e.orderless link) (slot l : Nat) (i : Isolation) :
    (e.sendBack slot l i).orderless link := by
  rw [Ev.sendBack_eq]
  have withdrawn := Ev.each_preserves (P := fun e => e.orderless link) (ks := e.ordersOf ⟨slot, i.serial⟩ .close)
    (fun id _ e h => Ev.finishOrder_orderless h id .withdrawn .released) _ (Ev.replanned_orderless h slot l i)
  exact (Ev.askTrace_within _ slot).orderless withdrawn

/-- No failing of members, for whatever link, brings an unworkable link an order. -/
theorem Ev.failMembers_orderless (h : e.orderless link) (dead : e.workable link = false) (slots : List Nat) (l : Nat) :
    (e.failMembers slots l).orderless link := by
  refine (Ev.failMembers_preserves_of (P := fun e => e.orderless link ∧ e.workable link = false) (fun e h l both _ _ works => ?_)
    (lost := fun _ _ => True) (may := fun _ => True) (fun _ _ _ => trivial) (fun _ _ _ _ _ => trivial)
    (fun _ _ _ _ _ => trivial) (fun e slot l i h _ _ _ _ => ?_) slots l e ⟨h, dead⟩ trivial fun _ _ => trivial).1
  · obtain ⟨none, dead⟩ := both
    have ne : l ≠ link := fun same => by rw [same, dead] at works; cases works
    exact ⟨Ev.issue_orderless none h ne .close, ((e.issue_within h l .close).workable link).trans dead⟩
  · exact ⟨Ev.sendBack_orderless h.1 slot l i, ((e.sendBack_within slot l i).workable link).trans h.2⟩

end Orderless

/-! ## An isolation in CLOSING that is sent back (R124) -/

theorem Ev.askTrace_keeps_awaits {e : Ev} {r : IsoRef} (h : e.p.trace.awaits r) (slot : Nat) :
    (e.askTrace slot).p.trace.awaits r := by
  unfold Ev.askTrace
  split
  · exact h
  · dsimp only
    split
    · exact h
    · obtain running | fifo | deferred := h
      · split
        · exact .inl running
        · exact .inl running
      · split
        · exact .inr (.inl (List.mem_append_left _ fifo))
        · exact .inr (.inl fifo)
      · split
        · exact .inr (.inr deferred)
        · exact .inr (.inr (List.mem_append_left _ deferred))

theorem Ev.sendBack_keeps_awaits {e : Ev} {r : IsoRef} (h : e.p.trace.awaits r) (slot link : Nat) (i : Isolation) :
    (e.sendBack slot link i).p.trace.awaits r := by
  have before : Ev.Within [.isos, .controls, .holders, .orders] e ((e.replanned slot link i).each
      (e.ordersOf ⟨slot, i.serial⟩ .close) fun id e => e.finishOrder id .withdrawn .released) :=
    .last (.each (A := [.orders, .controls]) (fun id e => e.finishOrder_within id _ _) _ _) (.of (e.replanned_within _ _ _))
  rw [Ev.sendBack_eq]
  exact Ev.askTrace_keeps_awaits (before.awaits h) slot

theorem Ev.issue_keeps_awaits {e : Ev} {r : IsoRef} (h : e.p.trace.awaits r) (slot link : Nat) (action : OrderAction) :
    (e.issue slot link action).1.p.trace.awaits r := (e.issue_within slot link action).awaits h

theorem Ev.failMembers_awaits {e : Ev} {r : IsoRef} (h : e.p.trace.awaits r) (slots : List Nat) {link : Nat}
    (open_ : e.isClosed link = false) : (e.failMembers slots link).p.trace.awaits r :=
  Ev.failMembers_preserves (P := fun e => e.p.trace.awaits r) (fun _ slot l i h _ _ _ => Ev.sendBack_keeps_awaits h slot l i)
    (fun _ h l k _ _ _ => Ev.issue_keeps_awaits k h l .close) slots link e h open_

/-- What is left of an isolation that was in CLOSING and has been sent back to planning: it keeps the holds on its CLOSED
members, has nothing to issue, and bears the carry-through mark for its authoriser (R124). -/
structure Isolation.BackFrom (e : Ev) (i j : Isolation) : Prop where
  state : j.state = .planning
  carry : j.carry = some (i.authoriser.getD i.requester)
  holds : j.holds = i.holds.filter e.isClosed
  toIssue : j.toIssue = []
  result : j.result = .none
  plan : j.plan = i.plan
  authTime : j.authTime = i.authTime
  outage : j.outage = i.outage

section SendBack
variable {e : Ev} {slot link : Nat} {i : Isolation} (h : e.iso? slot = some i)

include h

theorem Ev.replanned_iso (open_ : e.isClosed link = false) :
    ∃ j, (e.replanned slot link i).iso? slot = some j ∧ i.BackFrom e j ∧ j.serial = i.serial := by
  have kept : e.keptHolds link i = i.holds.filter e.isClosed := by
    refine List.filter_congr fun l _ => ?_
    by_cases same : l = link
    · simp [same, open_]
    · simp [same]
  have freed := Ev.modIso_iso (Ev.releaseHolds_iso h (i.holds.filter fun l => !(e.keptHolds link i).contains l)) fun j =>
    j.replan (e.keptHolds link i)
  refine ⟨_, Ev.setIso_iso freed .planning .memberFailed (.link link) 0, ?_, ?_⟩
  · refine ⟨rfl, ?_, ?_, Isolation.moveTo_toIssue_nil _ _ _ rfl, ?_, ?_, ?_, ?_⟩
    all_goals rw [Isolation.moveTo_eq]
    · rfl
    · exact kept
    · rfl
    · rfl
    · rfl
    · rfl
  · rw [Isolation.moveTo_eq]
    rfl

theorem Ev.sendBack_iso (open_ : e.isClosed link = false) :
    (∃ j, (e.sendBack slot link i).iso? slot = some j ∧ i.BackFrom e j)
      ∧ (e.sendBack slot link i).p.trace.awaits ⟨slot, i.serial⟩ := by
  obtain ⟨j, hj, back, serial⟩ := Ev.replanned_iso h open_
  have withdrawn : Ev.Within [.orders, .controls] (e.replanned slot link i) ((e.replanned slot link i).each
      (e.ordersOf ⟨slot, i.serial⟩ .close) fun id e => e.finishOrder id .withdrawn .released) :=
    .each (fun id e => e.finishOrder_within id _ _) _ _
  have there := (withdrawn.iso_same slot).trans hj
  obtain ⟨n, asked⟩ := Ev.askTrace_iso there
  have awaits := Ev.askTrace_awaits there
  rw [serial] at awaits
  exact ⟨⟨_, asked, back.state, back.carry, back.holds, back.toIssue, back.result, back.plan, back.authTime, back.outage⟩, awaits⟩

end SendBack

/-- The isolation of a slot has been sent back. -/
structure Ev.Returned (e : Ev) (k : Nat) (i : Isolation) (f : Ev) : Prop where
  keyed : f.p.keyed
  positions : ∀ l, f.isClosed l = e.isClosed l
  back : ∃ j, f.iso? k = some j ∧ i.BackFrom e j
  awaits : f.p.trace.awaits ⟨k, i.serial⟩

/-- The isolation of a slot is in CLOSING still, or has been sent back. -/
def Ev.Returning (e : Ev) (k : Nat) (i : Isolation) (f : Ev) : Prop :=
  (f.p.keyed ∧ (∀ l, f.isClosed l = e.isClosed l) ∧ ∃ l, f.iso? k = some { i with toIssue := l }) ∨ e.Returned k i f

section Returning
variable {e : Ev} {k : Nat} {i : Isolation} {f : Ev}

theorem Ev.Returned.failMembers (h : e.Returned k i f) (slots : List Nat) {link : Nat} (open_ : f.isClosed link = false) :
    e.Returned k i (f.failMembers slots link) := by
  obtain ⟨keyed, spared⟩ := f.failMembers_sparesIdle slots link h.keyed
  obtain ⟨j, hj, back⟩ := h.back
  refine ⟨keyed, fun l => ((f.failMembers_within slots link).isClosed l).trans (h.positions l),
    ⟨j, spared k j hj (by simp [back.state]), back⟩, Ev.failMembers_awaits h.awaits slots open_⟩

theorem Ev.Returning.memberFailed (h : e.Returning k i f) (fuel slot : Nat) {link : Nat} (open_ : f.isClosed link = false) :
    e.Returning k i (Ev.memberFailed fuel slot link f) := by
  refine Ev.memberFailed_preserves (P := fun f => e.Returning k i f) (fun f slot l x h hx state open_ => ?_)
    (fun f x l h holds _ _ => ?_) fuel slot link f h open_
  · have keyed := f.sendBack_keyed slot l x
    have positions := (f.sendBack_within slot l x)
    by_cases same : k = slot
    · subst same
      obtain ⟨wf, same, entries, there⟩ | back := h
      · obtain rfl := Option.some.inj (hx.symm.trans there)
        obtain ⟨⟨j, hj, back⟩, awaits⟩ := Ev.sendBack_iso hx open_
        have holds : i.holds.filter f.isClosed = i.holds.filter e.isClosed := by rw [funext same]
        exact .inr ⟨keyed wf, fun l => (positions.isClosed l).trans (same l),
          ⟨j, hj, back.state, back.carry, back.holds.trans holds, back.toIssue, back.result, back.plan, back.authTime,
            back.outage⟩, awaits⟩
      · obtain ⟨j, hj, from_⟩ := back.back
        obtain rfl := Option.some.inj (hx.symm.trans hj)
        cases state.symm.trans from_.state
    · have other := f.sendBack_isosBut slot l x k (by simpa using same)
      obtain ⟨wf, same, entries, there⟩ | back := h
      · exact .inl ⟨keyed wf, fun l => (positions.isClosed l).trans (same l), entries, other.trans there⟩
      · obtain ⟨j, hj, from_⟩ := back.back
        exact .inr ⟨keyed back.keyed, fun l => (positions.isClosed l).trans (back.positions l), ⟨j, other.trans hj, from_⟩,
          Ev.sendBack_keeps_awaits back.awaits slot l x⟩
  · have keyed := f.issue_keyed x l .close
    have positions := f.issue_within x l .close
    obtain ⟨wf, same, entries, there⟩ | back := h
    · obtain ⟨entries', issued⟩ : ∃ l', (f.issue x l .close).1.iso? k = some { i with toIssue := l' } := by
        by_cases same : k = x
        · subst same
          exact Ev.issue_iso there l .close
        · exact ⟨entries, (f.issue_isosBut x l .close k (by simpa using same)).trans there⟩
      exact .inl ⟨keyed wf, fun l => (positions.isClosed l).trans (same l), entries', issued⟩
    · obtain ⟨j, hj, from_⟩ := back.back
      have other : k ≠ x := by
        rintro rfl
        have state := Ev.closingHolders_closing back.keyed holds hj
        cases state.symm.trans from_.state
      exact .inr ⟨keyed back.keyed, fun l => (positions.isClosed l).trans (back.positions l),
        ⟨j, (f.issue_isosBut x l .close k (by simpa using other)).trans hj, from_⟩, Ev.issue_keeps_awaits back.awaits x l .close⟩

/-- The first failing of a member sends the isolation back. -/
theorem Ev.Returning.memberFailed_own (h : e.Returning k i f) (closing : i.state = .closing) (fuel : Nat) {link : Nat}
    (open_ : f.isClosed link = false) : e.Returned k i (Ev.memberFailed (fuel + 1) k link f) := by
  obtain ⟨wf, same, entries, there⟩ | back := h
  · obtain ⟨⟨j, hj, from_⟩, awaits⟩ := Ev.sendBack_iso there open_
    have keyed := f.sendBack_keyed k link { i with toIssue := entries } wf
    have positions := f.memberFailed_within (fuel + 1) k link
    have holds : i.holds.filter f.isClosed = i.holds.filter e.isClosed := by rw [funext same]
    have sparing (links : List Nat) (g : Ev) : g.SparesIdle
        (g.each links (Ev.retest fun hs l e => e.each hs fun s e => Ev.memberFailed fuel s l e)) :=
      .each (Ev.retest_sparesIdle fun hs l e => .each (fun s e => Ev.memberFailed_sparesIdle fuel s l e) e hs) _ _
    have failing (hs : List Nat) (l : Nat) (g : Ev) (h : g.p.trace.awaits ⟨k, i.serial⟩) (open_ : g.isClosed l = false) :
        (g.each hs fun s e => Ev.memberFailed fuel s l e).p.trace.awaits ⟨k, i.serial⟩ := by
      refine (Ev.each_preserves (P := fun e => e.p.trace.awaits ⟨k, i.serial⟩ ∧ e.isClosed l = false)
        (fun s _ e h => ⟨?_, ((Ev.memberFailed_within fuel s l e).isClosed l).trans h.2⟩) g ⟨h, open_⟩).1
      exact Ev.memberFailed_preserves (P := fun e => e.p.trace.awaits ⟨k, i.serial⟩)
        (fun _ slot l i h _ _ _ => Ev.sendBack_keeps_awaits h slot l i)
        (fun _ h l k _ _ _ => Ev.issue_keeps_awaits k h l .close) fuel s l e h.1 h.2
    have waiting (links : List Nat) (g : Ev) (h : g.p.trace.awaits ⟨k, i.serial⟩) :
        (g.each links (Ev.retest fun hs l e => e.each hs fun s e => Ev.memberFailed fuel s l e)).p.trace.awaits
          ⟨k, i.serial⟩ :=
      Ev.each_preserves (P := fun e => e.p.trace.awaits ⟨k, i.serial⟩) (fun l _ e h =>
        Ev.retest_preserves (P := fun e => e.p.trace.awaits ⟨k, i.serial⟩)
          (fun _ h l k _ _ _ => Ev.issue_keeps_awaits k h l .close) (fun hs l e h _ => failing hs l e h) l e h) g h
    rw [Ev.memberFailed_of_closing there closing] at positions ⊢
    obtain ⟨wf', spared⟩ := sparing ((f.ordersOf ⟨k, i.serial⟩ .close).filterMap fun id => (f.order? id).map (·.link))
      (f.sendBack k link { i with toIssue := entries }) keyed
    refine ⟨wf', fun l => (positions.isClosed l).trans (same l), ⟨j, spared k j hj (by simp [from_.state]), ?_⟩,
      waiting _ _ awaits⟩
    exact ⟨from_.state, from_.carry, from_.holds.trans holds, from_.toIssue, from_.result, from_.plan, from_.authTime,
      from_.outage⟩
  · obtain ⟨j, hj, from_⟩ := back.back
    rw [Ev.memberFailed_of_idle fun x hx => by
      obtain rfl := Option.some.inj (hx.symm.trans hj)
      simp [from_.state]]
    exact back

theorem Ev.Returning.failMembers (h : e.Returning k i f) (slots : List Nat) {link : Nat} (open_ : f.isClosed link = false) :
    e.Returning k i (f.failMembers slots link) := by
  refine (Ev.each_preserves (P := fun f => e.Returning k i f ∧ f.isClosed link = false)
    (fun s _ f h => ⟨h.1.memberFailed _ s h.2, ?_⟩) f ⟨h, open_⟩).1
  exact ((Ev.memberFailed_within _ s link f).isClosed link).trans h.2

/-- Of the isolations that a lost member fails, each that was in CLOSING has been sent back at the end (R150). -/
theorem Ev.Returning.failMembers_own (closing : i.state = .closing) {slots : List Nat} (mem : k ∈ slots) {link : Nat} :
    ∀ {f : Ev}, e.Returning k i f → f.isClosed link = false → e.Returned k i (f.failMembers slots link) := by
  induction slots with
  | nil => cases mem
  | cons s slots ih =>
    intro f h open_
    have open' := ((Ev.memberFailed_within (Config.isolationSlots + 1) s link f).isClosed link).trans open_
    obtain rfl | mem := List.mem_cons.1 mem
    · exact (h.memberFailed_own closing Config.isolationSlots open_).failMembers slots open'
    · exact ih mem (h.memberFailed (Config.isolationSlots + 1) s open_) open'

end Returning

end Sys2Proof.Machine
end

section
/-! A valve or regulator that becomes unworkable, field by field of `State.LeftUnworkable` (R124, R141, R144, R150): what
O23 and O46 rest on. -/

namespace Sys2Proof.Machine

-- One theorem after another: theorems checked side by side each hold a thread and its stack.
set_option Elab.async false

/-! ## The steps of R150 -/

/-- The outstanding order of the link FAILED, where there is one (R150). -/
def Ev.lostOrder (e : Ev) (link : Nat) (cause : FinishCause) : Ev :=
  match e.orderOf? link with
  | some (id, _) => e.finishOrder id .failed cause
  | none => e

/-- The isolations whose CLOSE order for the link is outstanding (R150). -/
def Ev.closers (e : Ev) (link : Nat) : List Nat :=
  if ((e.orderOf? link).map fun x => decide (x.2.action = .close)).getD false then e.closingHolders link else []

/-- The isolations that wait to issue a CLOSE order for the link (R150). -/
def Ev.listed (e : Ev) (link : Nat) : List Nat :=
  e.slotsWhere fun _ i => i.state = .closing && i.toIssue.any fun x => x.link = link && x.action = .close

/-- The order lost and its closers sent back to planning. -/
def Ev.forsaken (e : Ev) (link : Nat) (cause : FinishCause) : Ev :=
  ((e.lostOrder link cause).failMembers (e.closers link) link).failMembers (e.listed link) link

/-- No entry for the link left either (R141). -/
def Ev.deserted (e : Ev) (link : Nat) (cause : FinishCause) : Ev := (e.forsaken link cause).dropEntries link fun _ => true

/-- An OPEN order that the link loses is one of an isolation in RESTORING (R150). -/
def Ev.blocked (e f : Ev) (link : Nat) (r : IsoRef) : Prop :=
  ∃ id o i, e.orderOf? link = some (id, o) ∧ o.action = .reopen ∧ r = o.iso ∧ f.named? r = some i ∧ i.state = .restoring

theorem Ev.unworkable_of_blocked {e : Ev} {link : Nat} {cause : FinishCause} {r : IsoRef}
    (h : e.blocked (e.deserted link cause) link r) : e.unworkable link cause
      = ((e.deserted link cause).note .restoreBlocked r.slot (be 2 r.serial ++ be 2 link)).blockedStall r link := by
  obtain ⟨id, o, i, order, action, rfl, named, restoring⟩ := h
  simp only [Ev.deserted, Ev.forsaken, Ev.lostOrder, Ev.closers, Ev.listed, order] at named ⊢
  simp only [Ev.unworkable, order]
  exact if_pos (by rw [named]; simp [action, restoring])

theorem Ev.unworkable_cases (e : Ev) (link : Nat) (cause : FinishCause) :
    e.unworkable link cause = e.deserted link cause ∨ ∃ r, e.blocked (e.deserted link cause) link r := by
  by_cases h : ∃ r, e.blocked (e.deserted link cause) link r
  · exact .inr h
  · refine .inl ?_
    cases order : e.orderOf? link with
    | none => simp only [Ev.unworkable, Ev.deserted, Ev.forsaken, Ev.lostOrder, Ev.closers, Ev.listed, order]
    | some x =>
      obtain ⟨id, o⟩ := x
      have idle : ¬(o.action = .reopen ∧ ∃ i, (e.deserted link cause).named? o.iso = some i ∧ i.state = .restoring) :=
        fun ⟨action, i, named, restoring⟩ => h ⟨o.iso, id, o, i, order, action, rfl, named, restoring⟩
      simp only [Ev.deserted, Ev.forsaken, Ev.lostOrder, Ev.closers, Ev.listed, order] at idle ⊢
      simp only [Ev.unworkable, order]
      refine if_neg fun test => idle ?_
      rw [Bool.and_eq_true] at test
      refine ⟨of_decide_eq_true test.1, ?_⟩
      obtain ⟨_, restoring⟩ := test
      generalize Ev.named? _ o.iso = named at restoring ⊢
      cases named with
      | none => cases restoring
      | some i => exact ⟨i, rfl, of_decide_eq_true restoring⟩

/-- What the notice and the stall that may follow keep, the whole keeps. -/
theorem Ev.unworkable_preserves {P : Ev → Prop} (noted : ∀ f kind object d, P f → P (Ev.note f kind object d))
    (stalled : ∀ f r link, P f → P (Ev.blockedStall f r link)) {e : Ev} {link : Nat} {cause : FinishCause}
    (h : P (e.deserted link cause)) : P (e.unworkable link cause) := by
  obtain same | ⟨r, blocked⟩ := e.unworkable_cases link cause
  · exact same ▸ h
  · rw [Ev.unworkable_of_blocked blocked]
    exact stalled _ r link (noted _ _ _ _ h)

theorem Ev.lostOrder_within (e : Ev) (link : Nat) (cause : FinishCause) :
    Ev.Within [.orders, .controls] e (e.lostOrder link cause) := by
  unfold Ev.lostOrder
  split
  · exact e.finishOrder_within _ _ _
  · exact .refl _ e

theorem Ev.lostOrder_of_order {e : Ev} {link id : Nat} {c : ControlRt} {o : Order} (hc : e.control? link = some c)
    (own : c.order = some id) (ho : e.order? id = some o) (cause : FinishCause) :
    e.orderOf? link = some (id, o) ∧ e.lostOrder link cause = e.finishOrder id .failed cause := by
  have order : e.orderOf? link = some (id, o) := by simp [Ev.orderOf?, hc, own, ho]
  refine ⟨order, ?_⟩
  simp only [Ev.lostOrder, order]

/-! ## No entry for the link (R141) -/

/-- No to-issue list has an entry for the link. -/
def Ev.unlisted (e : Ev) (link : Nat) : Prop := ∀ y ∈ e.p.ctl.isos, ∀ x ∈ y.2.toIssue, x.link ≠ link

section Unlisted
variable {e : Ev} {link : Nat}

theorem Ev.modIso_unlisted (h : e.unlisted link) (slot : Nat) {f : Isolation → Isolation}
    (hf : ∀ i, (∀ x ∈ i.toIssue, x.link ≠ link) → ∀ x ∈ (f i).toIssue, x.link ≠ link) : (e.modIso slot f).unlisted link :=
  forall_mem_tmod (P := fun i : Isolation => ∀ x ∈ i.toIssue, x.link ≠ link) h hf

theorem Ev.stall_unlisted (h : e.unlisted link) (slot : Nat) (cause : StallCause) (object frozen : Option Nat)
    (values : Int × Int) : (e.stall slot cause object frozen values).unlisted link := by
  unfold Ev.stall
  split
  · exact h
  · split
    · exact h
    · split
      · exact h
      · exact Ev.modIso_unlisted h slot fun _ h => h

theorem Ev.blockedStall_unlisted (h : e.unlisted link) (r : IsoRef) (l : Nat) : (e.blockedStall r l).unlisted link := by
  unfold Ev.blockedStall
  split
  · exact h
  · split
    · exact Ev.stall_unlisted h _ _ _ _ _
    · exact h

theorem Ev.dropEntries_unlisted (e : Ev) (link : Nat) : (e.dropEntries link fun _ => true).unlisted link := by
  intro y hy x hx
  obtain ⟨z, _, rfl⟩ := List.mem_map.mp hy
  obtain ⟨_, other⟩ := List.mem_filter.mp hx
  simpa using other

theorem Ev.unworkable_unlisted (e : Ev) (link : Nat) (cause : FinishCause) : (e.unworkable link cause).unlisted link :=
  Ev.unworkable_preserves (P := fun e => e.unlisted link) (fun _ _ _ _ h => h) (fun _ r l h => Ev.blockedStall_unlisted h r l)
    (Ev.dropEntries_unlisted _ link)

/-- What the arbiter keeps: what the taking of an entry keeps, and the issue of its order where it is served (R142). -/
theorem Ev.serve_preserves {P : Ev → Prop}
    (step : ∀ (e : Ev) slot i x rest, P e → e.outstandingCount < Config.outstandingOrders → (slot, i) ∈ e.p.ctl.isos →
      i.toIssue = x :: rest → P (e.modIso slot fun i => { i with toIssue := rest })
        ∧ (e.servable i x = true →
          P ((e.modIso slot fun i => { i with toIssue := rest }).issueNow ⟨slot, i.serial⟩ x.link x.action)))
    (fuel : Nat) {e : Ev} (h : P e) : P (Ev.serve fuel e) := by
  induction fuel generalizing e with
  | zero => exact h
  | succ fuel ih =>
    unfold Ev.serve
    split
    · next free =>
      split
      · exact h
      · next slot i found =>
        split
        · exact h
        · next x rest list =>
          obtain ⟨taken, issued⟩ := step e slot i x rest h free (List.mem_of_find?_eq_some found) list
          dsimp only
          split
          · exact ih (issued ‹_›)
          · exact ih taken
    · exact h

/-- The arbiter issues no order for a link without entry (R142). -/
theorem Ev.serve_unlisted {P : Ev → Prop}
    (shorter : ∀ (e : Ev) slot rest, P e → P (e.modIso slot fun i => { i with toIssue := rest }))
    (issued : ∀ (e : Ev) r l a, P e → l ≠ link → P (e.issueNow r l a)) (fuel : Nat) {e : Ev} (unlisted : e.unlisted link)
    (h : P e) : (Ev.serve fuel e).unlisted link ∧ P (Ev.serve fuel e) := by
  refine Ev.serve_preserves (P := fun e => e.unlisted link ∧ P e) (fun e slot i x rest h _ mem list => ?_) fuel ⟨unlisted, h⟩
  obtain ⟨unlisted, h⟩ := h
  have entries := unlisted _ mem
  rw [list] at entries
  have left : (e.modIso slot fun i => { i with toIssue := rest }).unlisted link :=
    Ev.modIso_unlisted unlisted slot fun _ _ y hy => entries y (List.mem_cons_of_mem x hy)
  have shorter := shorter e slot rest h
  exact ⟨⟨left, shorter⟩, fun _ => ⟨left, issued _ _ _ _ shorter (entries x List.mem_cons_self)⟩⟩

/-- What follows the arbiter at the end of an event. -/
theorem Ev.settle_after_arbitrate (e : Ev) :
    Ev.Within [.records, .trace, .ask] ({ e with bumped := false } : Ev).arbitrate e.settle :=
  .last (Ev.takeJob_within _) (.last (Ev.watchRecompute_within _) (.last (Ev.watchCheck_within _) (.of (Ev.notePeaks_within _))))

theorem Ev.settle_unlisted (h : e.unlisted link) : e.settle.unlisted link := by
  have served := Ev.serve_unlisted (P := fun _ => True) (fun _ _ _ _ => trivial) (fun _ _ _ _ _ _ => trivial)
    ({ e with bumped := false } : Ev).entryCount (e := { e with bumped := false }) h trivial
  rw [Ev.unlisted, e.settle_after_arbitrate.isos (by decide)]
  exact served.1

theorem Ev.settle_orderless (h : e.unlisted link) (none : e.orderless link) : e.settle.orderless link := by
  have served := Ev.serve_unlisted (P := fun e => e.orderless link) (fun _ _ _ h => h)
    (fun _ r _ a h ne => Ev.issueNow_orderless h r ne a) ({ e with bumped := false } : Ev).entryCount
    (e := { e with bumped := false }) h none
  exact e.settle_after_arbitrate.orderless served.2

end Unlisted

/-! ## The order of the link (R150) -/

theorem Ev.lostOrder_orderless {e : Ev} {link id : Nat} {c : ControlRt} {o : Order} (hc : e.control? link = some c)
    (own : c.order = some id) (ho : e.order? id = some o) (same : o.link = link) (cause : FinishCause) :
    (e.lostOrder link cause).orderless link := by
  obtain ⟨_, lost⟩ := Ev.lostOrder_of_order hc own ho cause
  rw [lost, Ev.finishOrder_eq ho, ← same]
  refine (congrArg (Option.bind · ControlRt.order) (Ev.modControl_control? (e.modOrder id _) o.link o.link _)).trans ?_
  rw [if_pos rfl]
  cases (e.modOrder id _).control? o.link with
  | none => rfl
  | some _ => rfl

theorem Ev.unworkable_orderless {e : Ev} {link id : Nat} {c : ControlRt} {o : Order} (dead : e.workable link = false)
    (hc : e.control? link = some c) (own : c.order = some id) (ho : e.order? id = some o) (same : o.link = link)
    (cause : FinishCause) : (e.unworkable link cause).orderless link := by
  have lost := Ev.lostOrder_orderless hc own ho same cause
  have dead := ((e.lostOrder_within link cause).workable link).trans dead
  have closers := Ev.failMembers_orderless lost dead (e.closers link) link
  have dead := ((Ev.failMembers_within _ (e.closers link) link).workable link).trans dead
  exact Ev.unworkable_preserves (P := fun e => e.orderless link) (fun _ _ _ _ h => h)
    (fun _ _ _ h => (Ev.blockedStall_within _ _ _).orderless h) (Ev.failMembers_orderless closers dead (e.listed link) link)

/-- No two isolations are in CLOSING. -/
def Ev.lone (e : Ev) : Prop :=
  ∀ k i l j, e.iso? k = some i → i.state = .closing → e.iso? l = some j → j.state = .closing → k = l

theorem Ev.lone_of_filter {e : Ev}
    (few : (e.p.ctl.isos.filter fun x => x.2.state = .closing).length ≤ 1) : e.lone := by
  intro k i l j hi closing hj closing'
  have mem {k : Nat} {i : Isolation} (h : e.iso? k = some i) (closing : i.state = .closing) :
      (k, i) ∈ e.p.ctl.isos.filter fun x => x.2.state = .closing :=
    List.mem_filter.mpr ⟨mem_of_tget h, decide_eq_true closing⟩
  obtain ⟨a, ha⟩ := List.mem_iff_getElem.mp (mem hi closing)
  obtain ⟨b, hb⟩ := List.mem_iff_getElem.mp (mem hj closing')
  obtain ⟨ha', ha⟩ := ha
  obtain ⟨hb', hb⟩ := hb
  obtain rfl : a = b := by omega
  exact congrArg Prod.fst (ha.symm.trans hb)

section SendBack
variable {e : Ev} {slot : Nat} {i : Isolation}

theorem Ev.replanned_staysIdle (e : Ev) (slot link : Nat) (i : Isolation) : e.StaysIdle (e.replanned slot link i) := by
  have released : e.StaysIdle (e.releaseHolds slot (i.holds.filter fun l => !(e.keptHolds link i).contains l)) :=
    .last (Ev.modIso_staysIdle _ _ fun i h => by simp [h])
      (.each (h := fun l e => e.modControl l fun c => { c with holders := c.holders.filter (· ≠ slot) })
        (fun l e => (e.modHolders_within l fun _ => rfl).staysIdle) e _)
  exact .last (Ev.setIso_staysIdle _ _ _ _ _ _) (.last (Ev.modIso_staysIdle _ _ fun _ _ => rfl) released)

theorem Ev.Kept.sendBack {id : Nat} {o : Order} (h : e.Kept id o) (slot link : Nat) (i : Isolation) :
    (e.sendBack slot link i).Kept id o := by
  have replanned : (e.replanned slot link i).Kept id o :=
    h.step (e.replanned_within slot link i) (.last (Ev.setIso_keyed _ _ _ _ _ _) (.last (Ev.modIso_keyed _ _ _)
      (e.releaseHolds_keyed _ _))) (e.replanned_staysIdle slot link i)
  have withdrawn := Ev.each_preserves (P := fun e => e.Kept id o) (ks := e.ordersOf ⟨slot, i.serial⟩ .close)
    (fun k hk f hf => hf.finishOrder (h.not_mem hk) .withdrawn .released) _ replanned
  rw [Ev.sendBack_eq]
  exact (withdrawn.step (Ev.askTrace_within _ slot) (Ev.askTrace_keyed _ slot) (Ev.askTrace_staysIdle _ slot)).step
    (Ev.askRecompute_within _) (fun wf => wf) (Ev.askRecompute_within _).staysIdle

theorem Ev.sendBack_planning (h : e.iso? slot = some i) (link : Nat) :
    ∃ j, (e.sendBack slot link i).iso? slot = some j ∧ j.state = .planning := by
  have freed := Ev.modIso_iso (Ev.releaseHolds_iso h (i.holds.filter fun l => !(e.keptHolds link i).contains l)) fun j =>
    j.replan (e.keptHolds link i)
  have there := Ev.setIso_iso freed .planning .memberFailed (.link link) 0
  have withdrawn : Ev.Within [.orders, .controls] (e.replanned slot link i) ((e.replanned slot link i).each
      (e.ordersOf ⟨slot, i.serial⟩ .close) fun id e => e.finishOrder id .withdrawn .released) :=
    .each (fun id e => e.finishOrder_within id _ _) _ _
  obtain ⟨n, asked⟩ := Ev.askTrace_iso ((withdrawn.iso_same slot).trans there)
  exact ⟨_, asked, rfl⟩

end SendBack

/-- The only isolation in CLOSING sent back: none is in CLOSING, so that no CLOSE order follows. -/
theorem Ev.memberFailed_of_lone {e : Ev} (alone : e.lone) {slot : Nat} {i : Isolation} (h : e.iso? slot = some i)
    (closing : i.state = .closing) (wf : e.p.keyed) (fuel link : Nat) :
    Ev.memberFailed (fuel + 1) slot link e = e.sendBack slot link i
      ∧ ∀ k j, (e.sendBack slot link i).iso? k = some j → j.state ≠ .closing := by
  have idle : ∀ k j, (e.sendBack slot link i).iso? k = some j → j.state ≠ .closing := by
    intro k j hj
    by_cases same : k = slot
    · subst same
      obtain ⟨j', hj', planning⟩ := Ev.sendBack_planning h link
      obtain rfl := Option.some.inj (hj'.symm.trans hj)
      simp [planning]
    · rw [e.sendBack_isosBut slot link i k (by simpa using same)] at hj
      exact fun closing' => same (alone k j slot i hj closing' h closing)
  refine ⟨?_, idle⟩
  have none (l : Nat) : (e.sendBack slot link i).closingHolders l = [] := by
    refine List.eq_nil_iff_forall_not_mem.mpr fun k hk => ?_
    cases hj : (e.sendBack slot link i).iso? k with
    | none =>
      obtain ⟨_, _, isos, _⟩ := e.sendBack_keyed slot link i wf
      obtain ⟨j, hj', _⟩ := (mem_tkeysWhere (p := fun _ i => i.state = .closing && i.holds.contains l) isos).1 hk
      cases hj'.symm.trans hj
    | some j => exact idle k j hj (Ev.closingHolders_closing (e.sendBack_keyed slot link i wf) hk hj)
  rw [Ev.memberFailed_of_closing h closing]
  refine Ev.each_preserves (P := fun f => f = e.sendBack slot link i) (fun l _ f hf => ?_) _ rfl
  rw [hf, Ev.retest, none]

theorem Ev.Kept.failMembers {id : Nat} {o : Order} {e : Ev} (h : e.Kept id o) (alone : e.lone) (slots : List Nat) (link : Nat) :
    (e.failMembers slots link).Kept id o ∧ (e.failMembers slots link).lone := by
  refine Ev.each_preserves (P := fun e => e.Kept id o ∧ e.lone) (fun slot _ e h => ?_) e ⟨h, alone⟩
  obtain ⟨h, alone⟩ := h
  by_cases closing : ∃ i, e.iso? slot = some i ∧ i.state = .closing
  · obtain ⟨i, hi, closing⟩ := closing
    obtain ⟨eq, idle⟩ := Ev.memberFailed_of_lone alone hi closing h.keyed Config.isolationSlots link
    rw [eq]
    exact ⟨h.sendBack slot link i, fun k j _ _ hj closing => absurd closing (idle k j hj)⟩
  · rw [Ev.memberFailed_of_idle fun i hi same => closing ⟨i, hi, same⟩]
    exact ⟨h, alone⟩

theorem Ev.stall_staysIdle (e : Ev) (slot : Nat) (cause : StallCause) (object frozen : Option Nat) (values : Int × Int) :
    e.StaysIdle (e.stall slot cause object frozen values) := by
  unfold Ev.stall
  split
  · exact .refl e
  · split
    · exact .refl e
    · exact .ite (.refl e) (e.modIso_staysIdle slot fun _ h => h)

theorem Ev.blockedStall_staysIdle (e : Ev) (r : IsoRef) (link : Nat) : e.StaysIdle (e.blockedStall r link) := by
  unfold Ev.blockedStall
  split
  · exact .refl e
  · exact .ite (e.stall_staysIdle _ _ _ _ _) (.refl e)

theorem Ev.dropEntries_staysIdle (e : Ev) (link : Nat) (which : OrderAction → Bool) : e.StaysIdle (e.dropEntries link which) := by
  intro idle
  simp only [Plant.noneToIssue, List.all_eq_true, List.isEmpty_iff] at idle ⊢
  intro y hy
  obtain ⟨z, hz, rfl⟩ := List.mem_map.mp hy
  simp [idle z hz]

/-- With nothing to issue and one isolation in CLOSING at most, the lost order keeps its record to the end (R139, R150). -/
theorem Ev.unworkable_failed {e : Ev} (wf : e.p.keyed) (idle : e.p.noneToIssue)
    (few : (e.p.ctl.isos.filter fun x => x.2.state = .closing).length ≤ 1) {link id : Nat} {c : ControlRt} {o : Order}
    (hc : e.control? link = some c) (own : c.order = some id) (ho : e.order? id = some o) (cause : FinishCause) :
    (e.unworkable link cause).Kept id { o with state := .failed, finishTime := some e.now, cause := some cause } := by
  obtain ⟨_, lost⟩ := Ev.lostOrder_of_order hc own ho cause
  have finished : (e.lostOrder link cause).Kept id
      { o with state := .failed, finishTime := some e.now, cause := some cause } := by
    rw [lost]
    refine ⟨e.finishOrder_keyed _ _ _ wf, (e.finishOrder_within _ _ _).staysIdle (by decide) idle, ?_, rfl⟩
    rw [Ev.finishOrder_eq ho]
    exact (e.modOrder_order? id id _).trans ((if_pos rfl).trans (congrArg (Option.map _) ho))
  have alone : (e.lostOrder link cause).lone := by
    have same := (e.lostOrder_within link cause).iso_same
    intro k i l j hi closing hj closing'
    exact Ev.lone_of_filter few k i l j ((same k).symm.trans hi) closing ((same l).symm.trans hj) closing'
  obtain ⟨kept, alone⟩ := finished.failMembers alone (e.closers link) link
  obtain ⟨kept, _⟩ := kept.failMembers alone (e.listed link) link
  refine Ev.unworkable_preserves (P := fun e => e.Kept id _) (fun f kind obj d h => ⟨h.keyed, h.idle, h.order, h.finished⟩)
    (fun f r l h => h.step (f.blockedStall_within r l) (f.blockedStall_keyed r l) (f.blockedStall_staysIdle r l)) ?_
  exact kept.step (Ev.dropEntries_within _ _ _) (Ev.dropEntries_keyed _ _ _) (Ev.dropEntries_staysIdle _ _ _)

/-! ## The isolations in CLOSING, and the others (R124, R150) -/

theorem Ev.Returned.step {A : List Part} {e f g : Ev} {k : Nat} {i : Isolation} (h : e.Returned k i f)
    (w : Ev.Within A f g) (keyed : f.KeepsKeyed g) (same : ∀ j, f.iso? k = some j → i.BackFrom e j → g.iso? k = some j)
    (positions : Part.positions ∉ A := by decide) (trace : Part.trace ∉ A := by decide) : e.Returned k i g where
  keyed := keyed h.keyed
  positions l := (w.isClosed l positions).trans (h.positions l)
  back := by
    obtain ⟨j, hj, back⟩ := h.back
    exact ⟨j, same j hj back, back⟩
  awaits := w.awaits h.awaits trace

theorem Ev.unworkable_returned {e : Ev} (wf : e.p.keyed) {link : Nat} (open_ : e.isClosed link = false) {k : Nat} {i : Isolation}
    (hi : e.iso? k = some i) (closing : i.state = .closing) (due : k ∈ e.closers link ∨ k ∈ e.listed link)
    (cause : FinishCause) : e.Returned k i (e.unworkable link cause) := by
  have lost := e.lostOrder_within link cause
  have start : e.Returning k i (e.lostOrder link cause) := by
    refine .inl ⟨?_, fun l => lost.isClosed l, i.toIssue, (lost.iso_same k).trans hi⟩
    unfold Ev.lostOrder
    split
    · exact e.finishOrder_keyed _ _ _ wf
    · exact wf
  have open₁ := (lost.isClosed link).trans open_
  have open₂ := ((Ev.failMembers_within _ (e.closers link) link).isClosed link).trans open₁
  have forsaken : e.Returned k i (e.forsaken link cause) := by
    obtain closer | listed := due
    · exact (start.failMembers_own closing closer open₁).failMembers (e.listed link) open₂
    · exact (start.failMembers (e.closers link) open₁).failMembers_own closing listed open₂
  refine Ev.unworkable_preserves (P := fun f => e.Returned k i f)
    (fun f kind obj d h => h.step (f.note_within kind obj d) (fun wf => wf) fun _ hj _ => hj)
    (fun f r l h => h.step (f.blockedStall_within r l) (f.blockedStall_keyed r l) fun j hj back =>
      Ev.blockedStall_iso hj (.inl (by simp [back.state])) r l) ?_
  refine forsaken.step (Ev.dropEntries_within _ link fun _ => true) (Ev.dropEntries_keyed _ _ _) fun j hj back => ?_
  refine (Ev.dropEntries_iso hj link fun _ => true).trans ?_
  rw [back.toIssue, List.filter_nil, ← back.toIssue]

/-- The isolation of a slot keeps its state and its holds. -/
structure Ev.Steady (k : Nat) (i : Isolation) (e : Ev) : Prop where
  keyed : e.p.keyed
  same : ∃ j, e.iso? k = some j ∧ j.state = i.state ∧ j.holds = i.holds

theorem Ev.Steady.modIso {k : Nat} {i : Isolation} {e : Ev} (h : e.Steady k i) (slot : Nat) {f : Isolation → Isolation}
    (state : ∀ i, (f i).state = i.state) (holds : ∀ i, (f i).holds = i.holds) : (e.modIso slot f).Steady k i := by
  refine ⟨e.modIso_keyed slot f h.keyed, ?_⟩
  obtain ⟨j, hj, hs, hh⟩ := h.same
  by_cases same : k = slot
  · subst same
    exact ⟨f j, Ev.modIso_iso hj f, (state j).trans hs, (holds j).trans hh⟩
  · exact ⟨j, (e.modIso_isosBut slot f k (by simpa using same)).trans hj, hs, hh⟩

theorem Ev.Steady.blockedStall {k : Nat} {i : Isolation} {e : Ev} (h : e.Steady k i) (r : IsoRef) (link : Nat) :
    (e.blockedStall r link).Steady k i := by
  unfold Ev.blockedStall
  split
  · exact h
  · split
    · unfold Ev.stall
      split
      · exact h
      · split
        · exact h
        · split
          · exact h
          · next x _ _ =>
            have stalled := h.modIso r.slot (f := fun i => { i with ramp := some { x with
              stall := some ⟨.blocked, some link, e.now⟩, startTimer := none, frozen := none } }) (fun _ => rfl) fun _ => rfl
            exact ⟨stalled.keyed, stalled.same⟩
    · exact h

theorem Ev.unworkable_steady {e : Ev} (wf : e.p.keyed) {k : Nat} {i : Isolation} (hi : e.iso? k = some i)
    (idle : i.state ≠ .closing) (link : Nat) (cause : FinishCause) : (e.unworkable link cause).Steady k i := by
  have lost : e.SparesIdle (e.lostOrder link cause) := by
    unfold Ev.lostOrder
    split
    · exact e.finishOrder_sparesIdle _ _ _
    · exact .refl e
  have spared : e.SparesIdle (e.forsaken link cause) :=
    .last (Ev.failMembers_sparesIdle _ _ _) (.last (Ev.failMembers_sparesIdle _ _ _) lost)
  obtain ⟨keyed, same⟩ := spared wf
  have there := same k i hi idle
  exact Ev.unworkable_preserves (P := fun e => e.Steady k i) (fun _ _ _ _ h => ⟨h.keyed, h.same⟩)
    (fun _ r l h => h.blockedStall r l)
    ⟨Ev.dropEntries_keyed _ _ _ keyed, _, Ev.dropEntries_iso there link fun _ => true, rfl, rfl⟩

theorem Ev.Steady.settle {k : Nat} {i : Isolation} {e : Ev} (h : e.Steady k i) :
    ∃ j, e.settle.iso? k = some j ∧ j.state = i.state ∧ j.holds = i.holds := by
  obtain ⟨_, _, isos, _⟩ := h.keyed
  obtain ⟨j, hj, hs, hh⟩ := h.same
  obtain ⟨l, _, there⟩ := Ev.settle_iso isos hj
  exact ⟨_, there, hs, hh⟩

/-! ## All of it -/

/-- What R150 leaves, of an event in which the link has become unworkable before any order or isolation changed. -/
theorem Ev.unworkable_left {s t : State} {e : Ev} {link : Nat} {cause : FinishCause} (wf : e.p.keyed)
    (ctl : e.p.ctl = s.plant.ctl) (controls : e.p.net.controls = s.plant.net.controls) (now : e.now = s.link.partTime)
    (dead : e.workable link = false) (after : t.plant = (e.unworkable link cause).settle.p) :
    s.LeftUnworkable t link cause := by
  have order? (id : Nat) : tget s.plant.ctl.orders id = e.order? id := congrArg (fun c => tget c.orders id) ctl.symm
  have iso? (k : Nat) : tget s.plant.ctl.isos k = e.iso? k := congrArg (fun c => tget c.isos k) ctl.symm
  have control? (l : Nat) : tget s.plant.net.controls l = e.control? l := congrArg (tget · l) controls.symm
  have unlisted := e.unworkable_unlisted link cause
  refine ⟨fun k j hj x hx => ?_, fun c id o hc own ho same => ?_, fun c id o hc own ho idle few => ?_,
    fun c k i hc opened hi closing due => ?_, fun k i hi idle => ?_⟩
  · rw [after] at hj
    exact Ev.settle_unlisted unlisted _ (mem_of_tget hj) x hx
  · rw [control?] at hc
    rw [order?] at ho
    rw [after]
    exact Ev.settle_orderless unlisted (Ev.unworkable_orderless dead hc own ho same cause)
  · rw [control?] at hc
    rw [order?] at ho
    rw [Plant.noneToIssue, ← ctl] at idle
    rw [← ctl] at few
    have kept := Ev.unworkable_failed wf idle few hc own ho cause
    rw [after, Ev.settle_ctl kept.idle, ← now]
    exact kept.order
  · rw [control?] at hc
    rw [iso?] at hi
    have open_ : e.isClosed link = false := by simp [Ev.isClosed, hc, opened]
    have due : k ∈ e.closers link ∨ k ∈ e.listed link := by
      obtain ⟨_, _, isos, _⟩ := wf
      obtain ⟨held, id, o, own, ho, close⟩ | ⟨x, hx, same, close⟩ := due
      · refine .inl ?_
        rw [order?] at ho
        obtain ⟨order, _⟩ := Ev.lostOrder_of_order hc own ho cause
        rw [Ev.closers, order, if_pos (by simp [close])]
        exact (mem_tkeysWhere (p := fun _ i => i.state = .closing && i.holds.contains link) isos).2
          ⟨i, hi, by simp [closing, held]⟩
      · refine .inr ((mem_tkeysWhere (p := fun _ i => i.state = .closing && i.toIssue.any fun x =>
          x.link = link && x.action = .close) isos).2 ⟨i, hi, ?_⟩)
        simp only [closing, decide_true, Bool.true_and, List.any_eq_true]
        exact ⟨x, hx, by simp [same, close]⟩
    have returned := Ev.unworkable_returned wf open_ hi closing due cause
    obtain ⟨_, _, isos, _⟩ := returned.keyed
    obtain ⟨j, hj, back⟩ := returned.back
    have shut : (fun l => (tget s.plant.net.controls l).any fun d => decide (d.position = .closed)) = e.isClosed :=
      funext fun l => by rw [control?]; rfl
    refine ⟨j, ?_, back.state, back.carry, ?_, back.toIssue, back.result, back.plan, back.authTime, back.outage, ?_⟩
    · rw [after]
      exact Ev.settle_iso_of_nil isos hj back.toIssue
    · rw [shut]
      exact back.holds
    · rw [State.awaitsTrace, after]
      exact Ev.settle_awaits returned.awaits
  · rw [iso?] at hi
    rw [after]
    exact (Ev.unworkable_steady wf hi idle link cause).settle

/-! ## Its notices (R143, R150) -/

/-- The ORDER_END of an order that has failed (R143). -/
def Order.failedNotice (o : Order) (id : Nat) (cause : FinishCause) (now : Nat) : Notice :=
  ⟨.orderEnd, id, be 2 o.link ++ be 1 o.action.code ++ be 1 OrderState.failed.code ++ be 1 cause.code ++ be 1 o.iso.slot
    ++ be 2 o.iso.serial, now⟩

section Notices
variable {e : Ev} {link id : Nat} {c : ControlRt} {o : Order} (quiet : e.out = []) (hc : e.control? link = some c)
  (own : c.order = some id) (ho : e.order? id = some o) (cause : FinishCause)

include quiet hc own ho

theorem Ev.lostOrder_out : (e.lostOrder link cause).out = [o.failedNotice id cause e.now] := by
  obtain ⟨_, lost⟩ := Ev.lostOrder_of_order hc own ho cause
  rw [lost, Ev.finishOrder_eq ho]
  exact congrArg (· ++ [o.failedNotice id cause e.now]) quiet

theorem Ev.unworkable_ended : [o.failedNotice id cause e.now] <+: (e.unworkable link cause).out := by
  have lost := Ev.lostOrder_out quiet hc own ho cause
  have after : Ev.Within Part.replanning (e.lostOrder link cause) (e.unworkable link cause) :=
    Ev.unworkable_preserves (P := fun f => Ev.Within Part.replanning (e.lostOrder link cause) f)
      (fun f kind obj d h => h.andThen (f.note_within kind obj d)) (fun f r l h => h.andThen (f.blockedStall_within r l))
      (.last (Ev.dropEntries_within _ _ _) (.last (Ev.failMembers_within _ _ _) (.of (Ev.failMembers_within _ _ _))))
  rw [← lost]
  exact after.out

/-- With nothing to issue, an OPEN order lost fails no isolation, and RESTORE_BLOCKED follows for one in RESTORING. -/
theorem Ev.unworkable_restoreBlocked (idle : e.p.noneToIssue) (reopen : o.action = .reopen) {i : Isolation}
    (hi : e.iso? o.iso.slot = some i) (serial : i.serial = o.iso.serial) (restoring : i.state = .restoring) :
    [o.failedNotice id cause e.now, ⟨.restoreBlocked, o.iso.slot, be 2 o.iso.serial ++ be 2 link, e.now⟩]
      <+: (e.unworkable link cause).out := by
  obtain ⟨order, _⟩ := Ev.lostOrder_of_order hc own ho cause
  have closers : e.closers link = [] := by simp [Ev.closers, order, reopen]
  have listed : e.listed link = [] := by
    simp only [Plant.noneToIssue, List.all_eq_true, List.isEmpty_iff] at idle
    have none : e.p.ctl.isos.filter (fun x => x.2.state = .closing && x.2.toIssue.any fun x =>
        x.link = link && x.action = .close) = [] := List.filter_eq_nil_iff.mpr fun x hx => by simp [idle x hx]
    exact congrArg (List.map Prod.fst) none
  have deserted : e.deserted link cause = (e.lostOrder link cause).dropEntries link fun _ => true := by
    rw [Ev.deserted, Ev.forsaken, closers, listed]
    rfl
  have there := Ev.dropEntries_iso (((e.lostOrder_within link cause).iso_same o.iso.slot).trans hi) link fun _ => true
  rw [← deserted] at there
  have named : (e.deserted link cause).named? o.iso = some { i with
      toIssue := i.toIssue.filter fun y => !(y.link = link && true) } := by
    simp only [Ev.named?, there, serial, if_true]
  have out : (e.deserted link cause).out = [o.failedNotice id cause e.now] := by
    rw [deserted]
    exact Ev.lostOrder_out quiet hc own ho cause
  have now : (e.deserted link cause).now = e.now := by
    rw [deserted]
    exact (e.lostOrder_within link cause).now
  rw [Ev.unworkable_of_blocked ⟨id, o, _, order, reopen, rfl, named, restoring⟩]
  refine List.IsPrefix.trans ?_ (Ev.blockedStall_within _ _ _).out
  rw [Ev.note, out, now]
  exact List.prefix_rfl

end Notices

end Sys2Proof.Machine
end

section
/-! A link becomes unworkable or is found elsewhere (R150 to R152, R22): O23 and O46. -/

namespace Sys2Proof.Machine

-- One theorem after another: theorems checked side by side each hold a thread and its stack.
set_option Elab.async false

theorem State.taken_begins {s : State} {f : Frame} {r : Ev × Reply} {ns : List Notice} (h : ns <+: r.1.out) :
    ∃ more, (s.taken f r).link = ((ns ++ more).foldl ControlLink.queue s.link).finish f r.2 := by
  obtain ⟨more, out⟩ := h.trans r.1.settle_within.out
  exact ⟨more, congrArg (fun l => (List.foldl ControlLink.queue s.link l).finish f r.2) out.symm⟩

theorem Ev.settle_position (e : Ev) (k : Nat) :
    (tget e.settle.p.net.controls k).map (·.position) = (e.control? k).map (·.position) :=
  e.settle_within.positions (by decide) k

/-! ## TAG_SET of a DO_NOT_OPERATE tag (R22) -/

/-- The tag placed and the generation bumped. -/
def Ev.forbidden (e : Ev) (id origin link : Nat) : Ev :=
  ({ e with p.net.tags := tset e.p.net.tags id ⟨link, .doNotOperate, origin, e.now⟩ } : Ev).bump

theorem Ev.forbidden_within (e : Ev) {id : Nat} (hid : id < Config.tagSlots) (origin link : Nat) :
    Ev.Within [.net, .bump] e (e.forbidden id origin link) :=
  .last (Ev.bump_within _) (.of (e.putTag_within ⟨link, .doNotOperate, origin, e.now⟩ hid))

theorem Ev.forbidden_dead (e : Ev) (id origin link : Nat) : (e.forbidden id origin link).workable link = false := by
  have tagged : (e.forbidden id origin link).tagged link .doNotOperate = true := by
    rw [Ev.tagged_iff]
    refine ⟨(id, ⟨link, .doNotOperate, origin, e.now⟩), ?_, rfl, rfl⟩
    exact mem_of_tget (by simp [Ev.forbidden])
  simp [Ev.workable, tagged]

/-- Settles O23: the tag makes the link unworkable, and what R150 then does moves no position and bumps no more. -/
theorem doNotOperateTagMakesUnworkable : Obligations.DoNotOperateTagMakesUnworkable := by
  unfold Obligations.DoNotOperateTagMakesUnworkable
  intro s f l id h hp hr ha hid hk hl pipe untagged free wf n link
  have fits : tagFits l .doNotOperate = true := by simp [tagFits, pipe]
  have clear : s.ev.tagged link .doNotOperate = false := by
    rw [← Bool.not_eq_true, Ev.tagged_iff]
    rintro ⟨x, hx, both⟩
    exact untagged x hx both
  have run : exec .tagSet s = .next (s.taken f ((s.ev.forbidden id f.origin link).unworkable link .tagged, ⟨.ok, be 2 id⟩)) := by
    rw [exec_tagSet h hp hr ha hid (by rw [hk]; rfl) hl, Ev.tagLink_of_free fits clear free]
    rfl
  obtain ⟨_, low, _⟩ := lowestFree_some free
  have before := s.ev.forbidden_within low f.origin link
  have dead := s.ev.forbidden_dead id f.origin link
  have tags : (s.ev.forbidden id f.origin link).p.net.tags = tset n.tags id ⟨link, .doNotOperate, f.origin, s.link.partTime⟩ :=
    Ev.bump_net_tags _
  have bumped : (s.ev.forbidden id f.origin link).bumped = true := Ev.bump_bumped _
  have ctl : (s.ev.forbidden id f.origin link).p.ctl = s.plant.ctl := Ev.bump_ctl _
  have keyed : (s.ev.forbidden id f.origin link).p.keyed := Ev.bump_keyed _ wf
  have quiet : (s.ev.forbidden id f.origin link).out = [] := Ev.bump_out _
  generalize s.ev.forbidden id f.origin link = e at run before dead tags bumped ctl keyed quiet
  have after := e.unworkable_within link .tagged
  have all : Ev.Within Part.tagging s.ev (e.unworkable link .tagged) := .last after (.of before)
  have controls := before.controls (by decide)
  have now : e.now = s.link.partTime := before.now
  have left {t : State} (same : t.plant = (e.unworkable link .tagged).settle.p) : s.LeftUnworkable t link .tagged :=
    Ev.unworkable_left keyed ctl controls now dead same
  have order? (oid : Nat) : tget s.plant.ctl.orders oid = e.order? oid := congrArg (fun c => tget c.orders oid) ctl.symm
  have iso? (k : Nat) : tget s.plant.ctl.isos k = e.iso? k := congrArg (fun c => tget c.isos k) ctl.symm
  have control? (k : Nat) : tget s.plant.net.controls k = e.control? k := congrArg (tget · k) controls.symm
  have ended := fun {c oid o} => Ev.unworkable_ended (e := e) (link := link) (id := oid) (c := c) (o := o) quiet (cause := .tagged)
  have next := fun {c oid o} => Ev.unworkable_restoreBlocked (e := e) (link := link) (id := oid) (c := c) (o := o) quiet
    (cause := .tagged)
  have generation := all.bumped_generation rfl (after.stays_bumped bumped)
  have tags' := (after.net (by decide)).2.2.2.1.trans tags
  have idle : s.plant.noneToIssue → e.p.noneToIssue := fun idle => by rw [Plant.noneToIssue, ctl]; exact idle
  generalize e.unworkable link .tagged = g at run all left ended next generation tags'
  refine ⟨_, run, (Ev.settle_net_tags g).trans tags', (Ev.settle_net_generation g).trans generation,
    (Ev.settle_net_nodes g).trans (all.nodes (by decide)), (Ev.settle_net_links g).trans (all.links (by decide)),
    fun k => (Ev.settle_position g k).trans (all.positions (by decide) k),
    (Ev.settle_net_pipes g).trans (all.pipes (by decide)), (Ev.settle_mon g).trans (all.mon (by decide)),
    (Ev.settle_reg g).trans (all.reg (by decide)), ?_, left rfl, fun c oid o hc own ho => ?_⟩
  · exact (Ev.settle_led_weights g).trans (congrArg (fun x => x.2.2.2.2) (all.settings (by decide)))
  · rw [control?] at hc
    rw [order?] at ho
    dsimp only
    refine ⟨?_, fun i reopen none hi serial restoring => ?_⟩
    · have first := ended hc own ho
      rw [now] at first
      exact State.taken_first (s := s) (f := f) (r := (g, ⟨.ok, be 2 id⟩)) first
    · rw [iso?] at hi
      have second := next hc own ho (idle none) reopen hi serial restoring
      rw [now] at second
      exact State.taken_begins (s := s) (f := f) (r := (g, ⟨.ok, be 2 id⟩)) second

/-! ## VALVE_REPORT CANNOT_OPERATE and FOUND (R151, R152) -/

/-- The link STUCK and the generation bumped (R151). -/
def Ev.jammed (e : Ev) (link : Nat) : Ev := (e.modLink link Link.stick).bump

theorem Ev.jammed_within (e : Ev) (link : Nat) : Ev.Within [.links, .bump] e (e.jammed link) :=
  .last (Ev.bump_within _) (.of (e.modLink_within link Link.stick))

theorem Ev.jammed_link? (e : Ev) (link k : Nat) :
    (e.jammed link).link? k = if k = link then (e.link? k).map Link.stick else e.link? k :=
  (congrArg (tget · k) (Ev.bump_net_links _)).trans (e.modLink_link? link k Link.stick)

theorem Link.stick_operability? (l : Link) : l.stick.operability? ≠ some .operable := by
  cases body : l.body <;> simp [Link.stick, Link.operability?, body]

theorem Ev.jammed_dead (e : Ev) (link : Nat) : (e.jammed link).workable link = false := by
  have stuck : ((e.jammed link).link? link).bind Link.operability? ≠ some .operable := by
    rw [e.jammed_link? link link, if_pos rfl]
    cases e.link? link with
    | none => exact nofun
    | some l => exact l.stick_operability?
  simp [Ev.workable, stuck]

theorem Ev.reportCannotOperate_of_outstanding {e : Ev} {id : Nat} {o : Order} (h : o.state = .issued ∨ o.state = .accepted) :
    ∃ body, e.reportCannotOperate id o
      = ((e.jammed o.link).unworkable o.link .cannotOperate, ⟨.ok, be 2 id ++ [3] ++ body⟩) := by
  obtain issued | accepted := h
  · simp only [Ev.reportCannotOperate, issued]
    exact ⟨_, congrArg (Prod.mk _) (by simp only [orderReply, List.append_assoc]; rfl)⟩
  · simp only [Ev.reportCannotOperate, accepted]
    exact ⟨_, congrArg (Prod.mk _) (by simp only [orderReply, List.append_assoc]; rfl)⟩

/-- FOUND, of a valve or regulator there is. -/
theorem exec_valveReportFound {s : State} {f : Frame} {l : Link} {c : ControlRt} {pos : Position} (h : s.handles f 0x16)
    (hp : f.payload.length = 4) (hf : field f.payload 0 1 = 3) (hr : s.allows f .operate) (ha : s.plant.net.state = .active)
    (hid : field f.payload 1 2 ≤ 6143) (hl : tget s.plant.net.links (field f.payload 1 2) = some l) (kind : l.kind ≠ .pipe)
    (hc : (s.ev.reportedPosition (field f.payload 1 2) pos).control? (field f.payload 1 2) = some c)
    (hpos : positionOf (field f.payload 3 1) = some pos) :
    exec .valveReportFound s
      = .next (s.taken f (s.ev.reportedPosition (field f.payload 1 2) pos, ⟨.ok, be 1 c.position.code⟩)) := by
  refine congrArg Host.Outcome.next ((State.answerEv_taken h (selects_own _ (by omega) hf) _).trans (congrArg (s.taken f) ?_))
  refine (Ev.valveReport_taken (State.grants hr) hf (by omega) hp (by simp [Ev.active, ha]) _).trans ?_
  have value : coded positionOf f.payload 3 = some pos := (coded_eq positionOf (by omega) rfl).trans hpos
  simp only [Ev.reportFound, State.req_payload, value, Ev.link?, hl, if_neg kind, hc]
  rw [if_neg (Nat.not_lt.2 hid)]
  rfl

/-- Settles O46: a stuck link is unworkable as a tagged one is; a position found is a reported position change. -/
theorem cannotOperateAndFound : Obligations.CannotOperateAndFound := by
  unfold Obligations.CannotOperateAndFound
  refine ⟨fun s f o h hp hf wf hr ha ho outstanding => ?cannot, fun s f l c pos h hp wf hf hr ha hid hl kind hc hpos => ?found⟩
  case cannot =>
    intro id
    obtain ⟨body, reported⟩ := Ev.reportCannotOperate_of_outstanding (e := s.ev) (id := id) outstanding
    have run : exec .valveReportCannotOperate s
        = .next (s.taken f ((s.ev.jammed o.link).unworkable o.link .cannotOperate, ⟨.ok, be 2 id ++ [3] ++ body⟩)) :=
      (congrArg Host.Outcome.next (exec_orderReport h hr ha (by omega) hf hp ho)).trans
        (congrArg (fun r => Host.Outcome.next (s.taken f r)) reported)
    have before := s.ev.jammed_within o.link
    have dead := s.ev.jammed_dead o.link
    have links := s.ev.jammed_link? o.link
    have bumped : (s.ev.jammed o.link).bumped = true := Ev.bump_bumped _
    have ctl : (s.ev.jammed o.link).p.ctl = s.plant.ctl := Ev.bump_ctl _
    have keyed : (s.ev.jammed o.link).p.keyed := Ev.bump_keyed _ wf
    have quiet : (s.ev.jammed o.link).out = [] := Ev.bump_out _
    generalize s.ev.jammed o.link = e at run before dead links bumped ctl keyed quiet
    have after := e.unworkable_within o.link .cannotOperate
    have all : Ev.Within (.links :: .bump :: Part.replanning) s.ev (e.unworkable o.link .cannotOperate) := .last after (.of before)
    have controls := before.controls (by decide)
    have now : e.now = s.link.partTime := before.now
    have left {t : State} (same : t.plant = (e.unworkable o.link .cannotOperate).settle.p) :
        s.LeftUnworkable t o.link .cannotOperate := Ev.unworkable_left keyed ctl controls now dead same
    have order : e.order? id = some o := (congrArg (fun c : IsolationController => tget c.orders id) ctl).trans ho
    have iso? (k : Nat) : tget s.plant.ctl.isos k = e.iso? k := congrArg (fun c => tget c.isos k) ctl.symm
    have control? (k : Nat) : tget s.plant.net.controls k = e.control? k := congrArg (tget · k) controls.symm
    have ended := fun {c} hc own => Ev.unworkable_ended (c := c) (link := o.link) quiet hc own order .cannotOperate
    have next := fun {c} hc own => Ev.unworkable_restoreBlocked (c := c) (link := o.link) quiet hc own order .cannotOperate
    have generation := all.bumped_generation rfl (after.stays_bumped bumped)
    have links := fun k => (congrArg (tget · k) (after.links (by decide))).trans (links k)
    have idle : s.plant.noneToIssue → e.p.noneToIssue := fun idle => by rw [Plant.noneToIssue, ctl]; exact idle
    clear_value id
    generalize e.unworkable o.link .cannotOperate = g at run all left ended next generation links
    refine ⟨_, run, left rfl, fun c hc own => ?_, fun k => ?_, (Ev.settle_net_generation g).trans generation,
      fun k => (Ev.settle_position g k).trans (all.positions (by decide) k),
      (Ev.settle_net_pipes g).trans (all.pipes (by decide)), (Ev.settle_net_nodes g).trans (all.nodes (by decide)),
      (Ev.settle_mon g).trans (all.mon (by decide))⟩
    · rw [control?] at hc
      dsimp only
      refine ⟨?_, fun i reopen none hi serial restoring => ?_⟩
      · have first := ended hc own
        rw [now] at first
        obtain ⟨more, link⟩ := State.taken_first (s := s) (f := f) (r := (g, ⟨.ok, be 2 id ++ [3] ++ body⟩)) first
        exact ⟨more, body, link⟩
      · rw [iso?] at hi
        have second := next hc own (idle none) reopen hi serial restoring
        rw [now] at second
        obtain ⟨more, link⟩ := State.taken_begins (s := s) (f := f) (r := (g, ⟨.ok, be 2 id ++ [3] ++ body⟩)) second
        exact ⟨more, body, link⟩
    · exact (congrArg (tget · k) (Ev.settle_net_links g)).trans (links k)
  case found =>
    intro link
    have there : s.ev.control? link = some c := hc
    refine ⟨fun same => ?_, fun ne => ?_⟩
    · have unmoved := Ev.reportedPosition_same there pos same
      have run := exec_valveReportFound h hp hf hr ha hid hl kind ((congrArg (Ev.control? · link) unmoved).trans there) hpos
      rw [unmoved, same] at run
      exact run
    · have after := Ev.reportedPosition_after there ne
      have all := s.ev.reportedPosition_within link pos
      have position (k : Nat) := ((after.positions (by decide) k).trans (s.ev.moved_position link pos k))
      have bumped := after.stays_bumped (s.ev.moved_bumped link pos)
      have own := position link
      rw [if_pos rfl, there, Option.map_some] at own
      obtain ⟨d, hd, _⟩ := Option.map_eq_some_iff.1 own
      have run : exec .valveReportFound s
          = .next (s.taken f (s.ev.reportedPosition link pos, ⟨.ok, be 1 d.position.code⟩)) :=
        exec_valveReportFound h hp hf hr ha hid hl kind hd hpos
      clear_value link
      generalize s.ev.reportedPosition link pos = g at run all position bumped own
      refine ⟨_, run, (Ev.settle_position g link).trans own, fun k ne => ?_,
        (Ev.settle_net_generation g).trans (all.bumped_generation rfl bumped),
        (Ev.settle_net_links g).trans (all.links (by decide)), (Ev.settle_mon g).trans (all.mon (by decide))⟩
      exact (Ev.settle_position g k).trans ((position k).trans (if_neg ne))

end Sys2Proof.Machine
end

section
/-! The order table (R139, R140): ids are free, records of outstanding orders stay, and what an issued order is. -/

namespace Sys2Proof.Machine

-- One theorem after another: theorems checked side by side each hold a thread and its stack.
set_option Elab.async false

/-! ## Serial values (R84, R139) -/

/-- The serial value some steps on. -/
theorem nextSerial_iterate (n k : Nat) (few : k ≤ 65534) :
    nextSerial^[k] n = if 65535 < n ∨ n + k ≤ 65535 then n + k else n + k - 65535 := by
  induction k with
  | zero => simp
  | succ k ih =>
    rw [Function.iterate_succ_apply', ih (by omega), nextSerial]
    split <;> split <;> split <;> omega

/-- An id is free when the table holds fewer records than values may be passed over. -/
theorem offerId_free {α : Type} {t : Table α} {fuel : Nat} (few : fuel ≤ 65534) (room : t.length < fuel) (n : Nat) :
    tget t (offerId (fun k => thas t k) fuel n) = none := by
  have all (fuel : Nat) : ∀ n, thas t (offerId (fun k => thas t k) fuel n) = true →
      ∀ k < fuel, thas t (nextSerial^[k] n) = true := by
    induction fuel with
    | zero => exact fun _ _ _ h => absurd h (Nat.not_lt_zero _)
    | succ fuel ih =>
      intro n used k hk
      unfold offerId at used
      split at used
      · next first =>
        cases k with
        | zero => exact first
        | succ k =>
          rw [Function.iterate_succ_apply]
          exact ih _ used k (by omega)
      · next first => exact absurd used first
  by_contra taken
  have used := all fuel n (by cases h : thas t _ with | true => rfl | false => exact absurd (thas_eq_false_iff.1 h) taken)
  have sub : ((List.range fuel).map fun k => nextSerial^[k] n) ⊆ tkeys t := by
    intro x hx
    obtain ⟨k, hk, rfl⟩ := List.mem_map.1 hx
    exact tget_isSome_iff.1 (used k (List.mem_range.1 hk))
  have nodup : ((List.range fuel).map fun k => nextSerial^[k] n).Nodup := by
    refine List.Nodup.map_on (fun a ha b hb same => ?_) List.nodup_range
    rw [List.mem_range] at ha hb
    rw [nextSerial_iterate n a (by omega), nextSerial_iterate n b (by omega)] at same
    split at same <;> split at same <;> omega
  have length := (nodup.subperm sub).length_le
  rw [List.length_map, List.length_range, tkeys, List.length_map] at length
  omega

/-! ## Room for a record (R139) -/

theorem IsolationController.makeRoom_tget {c : IsolationController} {id : Nat} {o : Order}
    (h : tget c.makeRoom id = some o) : tget c.orders id = some o := by
  unfold IsolationController.makeRoom at h
  split at h
  · exact h
  · split at h
    · rw [tget_terase] at h
      split at h
      · cases h
      · exact h
    · exact h

/-- No outstanding order is discarded. -/
theorem IsolationController.makeRoom_outstanding {c : IsolationController} (wf : tableWf c.orders) {id : Nat} {o : Order}
    (h : tget c.orders id = some o) (out : o.outstanding = true) : tget c.makeRoom id = some o := by
  unfold IsolationController.makeRoom
  split
  · exact h
  · split
    · next k found =>
      obtain ⟨time, mem⟩ := oldestKey_mem found
      obtain ⟨x, hx, pick⟩ := List.mem_filterMap.1 mem
      have ne : id ≠ k := by
        rintro rfl
        split at pick
        · cases pick
        · next finished =>
          obtain rfl : x.1 = id := congrArg Prod.fst (Option.some.inj pick)
          obtain rfl := Option.some.inj ((tget_of_mem wf hx).symm.trans h)
          exact finished out
      rw [tget_terase, if_neg ne]
      exact h
    · exact h

/-- Fewer than 256 records are left while fewer than 128 orders are outstanding. -/
theorem IsolationController.makeRoom_length {c : IsolationController} (few : c.orders.length ≤ Config.orderRecords)
    (free : tcount c.orders Order.outstanding < Config.outstandingOrders) : c.makeRoom.length < Config.orderRecords := by
  unfold IsolationController.makeRoom
  split
  · assumption
  · split
    · next k found =>
      refine Nat.lt_of_lt_of_le (List.length_filter_lt_length_iff_exists.2 ?_) few
      obtain ⟨v, mem⟩ : ∃ v, (k, v) ∈ c.orders := by
        obtain ⟨x, hx, rfl⟩ := List.mem_map.1 (oldestKey_filterMap_mem found fun x y h => by
          split at h
          · cases h
          · rw [← Option.some.inj h])
        exact ⟨x.2, hx⟩
      exact ⟨(k, v), mem, by simp⟩
    · next full _ found =>
      have all : ∀ x ∈ c.orders, x.2.outstanding = true := by
        intro x hx
        by_contra finished
        generalize hl : c.orders.filterMap _ = l at found
        cases l with
        | nil =>
          have := List.filterMap_eq_nil_iff.1 hl x hx
          simp [finished] at this
        | cons y l => cases found
      have count : tcount c.orders Order.outstanding = c.orders.length := by
        simpa [tcount] using all
      rw [count] at free
      exact absurd (Nat.lt_of_lt_of_le free (by decide)) full

theorem tset_length {α : Type} (t : Table α) (n : Nat) (v : α) : (tset t n v).length ≤ t.length + 1 := by
  induction t with
  | nil => exact Nat.le_refl 1
  | cons x t ih =>
    unfold tset
    split
    · exact Nat.le_refl _
    · split
      · exact Nat.le_succ _
      · exact Nat.succ_le_succ ih

/-! ## An order issued (R139, R140) -/

/-- The order table holds no more records than it has places. -/
def Ev.roomy (e : Ev) : Prop := e.p.ctl.orders.length ≤ Config.orderRecords

/-- The id the next order takes (R139). -/
def Ev.newOrderId (e : Ev) : Nat := offerId (fun n => thas e.p.ctl.makeRoom n) (Config.orderRecords + 1) e.p.ctl.orderSerial

/-- An order as it is issued (R139, R145). -/
def Order.fresh (r : IsoRef) (link : Nat) (action : OrderAction) (now accept : Nat) : Order :=
  { iso := r, link := link, action := action, issued := now, expiry := now + accept }

section Issued
variable {e : Ev} (r : IsoRef) (link : Nat) (action : OrderAction)

theorem Ev.issueNow_order? (id : Nat) : (e.issueNow r link action).order? id
    = if id = e.newOrderId then some (Order.fresh r link action e.now e.p.ctl.acceptTime) else tget e.p.ctl.makeRoom id :=
  tget_tset _ _ _ _

theorem Ev.issueNow_control? (l : Nat) : (e.issueNow r link action).control? l
    = if l = link then (e.control? l).map fun c => { c with order := some e.newOrderId } else e.control? l := by
  unfold Ev.issueNow
  exact Ev.modControl_control? _ link l _

theorem Ev.issueNow_roomy (roomy : e.roomy) (free : e.outstandingCount < Config.outstandingOrders) :
    (e.issueNow r link action).roomy :=
  (tset_length _ _ _).trans (IsolationController.makeRoom_length roomy free)

theorem Ev.newOrderId_free (roomy : e.roomy) (free : e.outstandingCount < Config.outstandingOrders) :
    tget e.p.ctl.makeRoom e.newOrderId = none :=
  offerId_free (by decide) (Nat.lt_succ_of_lt (IsolationController.makeRoom_length roomy free)) _

end Issued

/-- The link's outstanding order is this one. -/
def Ev.ordered (e : Ev) (link : Nat) (o : Order) : Prop :=
  ∃ id, (e.control? link).bind (·.order) = some id ∧ e.order? id = some o

theorem Ev.issueNow_ordered {e : Ev} {link : Nat} {c : ControlRt} (hc : e.control? link = some c) (r : IsoRef)
    (action : OrderAction) :
    (e.issueNow r link action).ordered link (Order.fresh r link action e.now e.p.ctl.acceptTime) := by
  refine ⟨e.newOrderId, ?_, (Ev.issueNow_order? r link action _).trans (if_pos rfl)⟩
  rw [Ev.issueNow_control?, if_pos rfl, hc]
  rfl

/-- An order of another link leaves the outstanding ones (R139). -/
theorem Ev.ordered.issueNow {e : Ev} {link : Nat} {o : Order} (h : e.ordered link o) (out : o.outstanding = true)
    (wf : e.p.keyed) (roomy : e.roomy) (free : e.outstandingCount < Config.outstandingOrders) (r : IsoRef) {other : Nat}
    (ne : other ≠ link) (action : OrderAction) : (e.issueNow r other action).ordered link o := by
  obtain ⟨id, own, order⟩ := h
  obtain ⟨_, _, _, orders, _⟩ := wf
  have stays := IsolationController.makeRoom_outstanding orders order out
  refine ⟨id, ?_, ?_⟩
  · rw [Ev.issueNow_control?, if_neg (Ne.symm ne)]
    exact own
  · rw [Ev.issueNow_order?, if_neg]
    · exact stays
    · rintro rfl
      cases (Ev.newOrderId_free roomy free).symm.trans stays

/-- The arbiter serves no entry for a link with an order (R142). -/
theorem Ev.settle_ordered {e : Ev} {link : Nat} {o : Order} (h : e.ordered link o) (out : o.outstanding = true)
    (wf : e.p.keyed) (roomy : e.roomy) : e.settle.ordered link o := by
  have served := Ev.serve_preserves (P := fun e => e.p.keyed ∧ e.roomy ∧ e.ordered link o) (fun e slot i x rest h free _ _ => by
    obtain ⟨wf, roomy, h⟩ := h
    have wf' := e.modIso_keyed slot (fun i => { i with toIssue := rest }) wf
    refine ⟨⟨wf', roomy, h⟩, fun servable => ?_⟩
    have ne : x.link ≠ link := by
      rintro rfl
      obtain ⟨id, own, order⟩ := h
      have some : (e.orderOf? x.link).isNone = false := by simp [Ev.orderOf?, own, order]
      unfold Ev.servable at servable
      split at servable <;> simp [some] at servable
    exact ⟨Ev.issueNow_keyed _ _ _ _ wf', Ev.issueNow_roomy (e := e.modIso slot _) _ _ _ roomy free,
      Ev.ordered.issueNow (e := e.modIso slot _) h out wf' roomy free _ ne _⟩)
    ({ e with bumped := false } : Ev).entryCount (e := { e with bumped := false }) ⟨wf, roomy, h⟩
  obtain ⟨_, _, id, own, order⟩ := served
  have after := e.settle_after_arbitrate
  refine ⟨id, ?_, (congrArg (tget · id) (after.orders (by decide)).1).trans order⟩
  exact (congrArg (fun t => (tget t link).bind ControlRt.order) (after.controls (by decide))).trans own

/-! ## Orders issued one after another (R140, R141) -/

/-- An isolation that issues OPEN orders alone, and a valve or regulator one of them may be for. -/
structure Ev.Reopening (r : IsoRef) (link now accept : Nat) (e : Ev) : Prop where
  keyed : e.p.keyed
  roomy : e.roomy
  there : ∃ i, e.iso? r.slot = some i ∧ i.serial = r.serial ∧ ∀ x ∈ i.toIssue, x.action = .reopen
  control : ∃ c, e.control? link = some c
  now : e.now = now
  accept : e.p.ctl.acceptTime = accept

/-- Its OPEN order is issued, or waits while 128 are outstanding. -/
def Ev.reopens (e : Ev) (r : IsoRef) (link now accept : Nat) : Prop :=
  e.ordered link (Order.fresh r link .reopen now accept)
    ∨ (Config.outstandingOrders ≤ e.outstandingCount ∧ ∃ i, e.iso? r.slot = some i ∧ ⟨link, .reopen⟩ ∈ i.toIssue)

theorem mem_insertIssue {closure : List Nat} {x y : Issue} {l : List Issue} :
    y ∈ insertIssue closure x l ↔ y ∈ l ∨ (y = x ∧ ∀ z ∈ l, z.link ≠ x.link) := by
  unfold insertIssue
  split
  · next known =>
    obtain ⟨z, hz, same⟩ := List.any_eq_true.1 known
    refine ⟨.inl, fun h => h.elim (fun h => h) fun ⟨_, new⟩ => absurd (of_decide_eq_true same) (new z hz)⟩
  · next new =>
    have new : ∀ z ∈ l, z.link ≠ x.link := by simpa using new
    dsimp only
    generalize hb : (l.takeWhile fun y => closure.idxOf y.link < closure.idxOf x.link) = before
    have first : before <+: l := hb ▸ List.takeWhile_prefix _
    obtain ⟨rest, eq⟩ := first
    have parts : before ++ l.drop before.length = l := by rw [← eq, List.drop_left]
    rw [List.mem_append, List.mem_cons]
    constructor
    · rintro (mem | rfl | mem)
      · exact .inl (parts ▸ List.mem_append_left _ mem)
      · exact .inr ⟨rfl, new⟩
      · exact .inl (List.mem_of_mem_drop mem)
    · rintro (mem | ⟨rfl, _⟩)
      · rw [← parts, List.mem_append] at mem
        exact mem.imp_right .inr
      · exact .inr (.inl rfl)

section Reopening
variable {e : Ev} {r : IsoRef} {link now accept : Nat}

theorem Ev.Reopening.issue (h : e.Reopening r link now accept) (l : Nat) :
    (e.issue r.slot l .reopen).1.Reopening r link now accept
      ∧ (l = link ∨ e.reopens r link now accept → (e.issue r.slot l .reopen).1.reopens r link now accept) := by
  obtain ⟨i, hi, serial, opens⟩ := h.there
  obtain ⟨c, hc⟩ := h.control
  have keyed := e.issue_keyed r.slot l .reopen h.keyed
  have named : (⟨r.slot, i.serial⟩ : IsoRef) = r := by rw [serial]
  by_cases free : e.outstandingCount < Config.outstandingOrders
  · have issued : (e.issue r.slot l .reopen).1 = e.issueNow r l .reopen := by
      simp only [Ev.issue, hi, if_pos free, named]
    rw [issued] at keyed ⊢
    refine ⟨⟨keyed, Ev.issueNow_roomy _ _ _ h.roomy free, ⟨i, hi, serial, opens⟩, ?_, h.now, h.accept⟩,
      fun due => .inl ?_⟩
    · rw [Ev.issueNow_control?]
      split
      · exact ⟨_, by rw [hc]; rfl⟩
      · exact ⟨c, hc⟩
    · by_cases same : l = link
      · subst same
        rw [← h.now, ← h.accept]
        exact Ev.issueNow_ordered hc r .reopen
      · obtain rfl | ordered | ⟨full, _⟩ := due
        · exact absurd rfl same
        · exact ordered.issueNow rfl h.keyed h.roomy free r same .reopen
        · exact absurd free (Nat.not_lt.2 full)
  · have queued : (e.issue r.slot l .reopen).1
        = e.modIso r.slot fun i => { i with toIssue := insertIssue i.closure ⟨l, .reopen⟩ i.toIssue } := by
      simp only [Ev.issue, hi, if_neg free]
    have there := Ev.modIso_iso hi fun i => { i with toIssue := insertIssue i.closure ⟨l, .reopen⟩ i.toIssue }
    rw [queued] at keyed ⊢
    refine ⟨⟨keyed, h.roomy, ⟨_, there, serial, fun x hx => ?_⟩, h.control, h.now, h.accept⟩, fun due => ?_⟩
    · obtain old | ⟨rfl, _⟩ := mem_insertIssue.1 hx
      · exact opens x old
      · rfl
    · obtain rfl | ordered | ⟨full, j, hj, mem⟩ := due
      · refine .inr ⟨Nat.not_lt.1 free, _, there, mem_insertIssue.2 ?_⟩
        by_cases known : ∃ z ∈ i.toIssue, z.link = l
        · obtain ⟨z, hz, same⟩ := known
          refine .inl ?_
          rw [← same, ← opens z hz]
          exact hz
        · exact .inr ⟨rfl, fun z hz same => known ⟨z, hz, same⟩⟩
      · exact .inl ordered
      · obtain rfl := Option.some.inj (hj.symm.trans hi)
        exact .inr ⟨full, _, there, mem_insertIssue.2 (.inl mem)⟩

/-- Each link of the list has its OPEN order issued, or waits. -/
theorem Ev.Reopening.issueAll (ls : List Nat) : ∀ {e : Ev}, e.Reopening r link now accept →
    (Ev.issueAll r.slot .reopen ls e).1.Reopening r link now accept
      ∧ (link ∈ ls ∨ e.reopens r link now accept → (Ev.issueAll r.slot .reopen ls e).1.reopens r link now accept) := by
  induction ls with
  | nil => exact fun h => ⟨h, fun due => due.resolve_left List.not_mem_nil⟩
  | cons l ls ih =>
    intro e h
    obtain ⟨next, kept⟩ := h.issue l
    obtain ⟨rest, all⟩ := ih next
    have due (mine : link ∈ l :: ls ∨ e.reopens r link now accept) :
        link ∈ ls ∨ (e.issue r.slot l .reopen).1.reopens r link now accept := by
      obtain mem | before := mine
      · obtain rfl | mem := List.mem_cons.1 mem
        · exact .inr (kept (.inl rfl))
        · exact .inl mem
      · exact .inr (kept (.inr before))
    unfold Ev.issueAll
    dsimp only
    split
    · exact ⟨rest, fun mine => all (due mine)⟩
    · exact ⟨rest, fun mine => all (due mine)⟩

/-- With 128 orders outstanding the arbiter serves nothing (R142). -/
theorem Ev.arbitrate_full (full : Config.outstandingOrders ≤ e.outstandingCount) : e.arbitrate = e := by
  unfold Ev.arbitrate
  cases e.entryCount with
  | zero => rfl
  | succ n => exact if_neg (Nat.not_lt.2 full)

/-- To the end of the event the order stays issued, or waits still (R142). -/
theorem Ev.reopens.settle (h : e.reopens r link now accept) (wf : e.p.keyed) (roomy : e.roomy) :
    e.settle.ordered link (Order.fresh r link .reopen now accept)
      ∨ ∃ i, e.settle.iso? r.slot = some i ∧ ⟨link, .reopen⟩ ∈ i.toIssue := by
  obtain ordered | ⟨full, i, hi, mem⟩ := h
  · exact .inl (Ev.settle_ordered ordered rfl wf roomy)
  · have quiet := Ev.arbitrate_full (e := { e with bumped := false }) full
    have after := e.settle_after_arbitrate.iso_same r.slot
    rw [quiet] at after
    exact .inr ⟨i, after.trans hi, mem⟩

end Reopening

end Sys2Proof.Machine
end

section
/-! RESTORE (R156 to R161): O47. -/

namespace Sys2Proof.Machine

-- One theorem after another: theorems checked side by side each hold a thread and its stack.
set_option Elab.async false

/-! ## Holds given up (R5, R123) -/

theorem Ev.releaseHolds_holders (e : Ev) (slot : Nat) (links : List Nat) (k : Nat) :
    ((e.releaseHolds slot links).control? k).map (·.holders)
      = (e.control? k).map fun c => if k ∈ links then c.holders.filter (· ≠ slot) else c.holders := by
  have each : ∀ e : Ev, ((e.each links fun l e => e.modControl l fun c =>
      { c with holders := c.holders.filter (· ≠ slot) }).control? k).map (·.holders)
        = (e.control? k).map fun c => if k ∈ links then c.holders.filter (· ≠ slot) else c.holders := by
    induction links with
    | nil => intro e; simp [Ev.each]
    | cons l ls ih =>
      intro e
      refine (ih _).trans ?_
      rw [Ev.modControl_control?]
      by_cases same : k = l
      · subst same
        rw [if_pos rfl, Option.map_map]
        refine congrArg (Option.map · _) (funext fun c => ?_)
        by_cases mem : k ∈ ls <;> simp [mem]
      · rw [if_neg same]
        simp [same]
  exact each e

theorem Ev.holders_eq (e : Ev) (l : Nat) : e.holders l = ((e.control? l).map (·.holders)).getD [] := by
  unfold Ev.holders
  cases e.control? l <;> rfl

theorem Ev.releaseHolds_holdersOf (e : Ev) (slot : Nat) (links : List Nat) (l : Nat) :
    (e.releaseHolds slot links).holders l = if l ∈ links then (e.holders l).filter (· ≠ slot) else e.holders l := by
  rw [Ev.holders_eq, Ev.releaseHolds_holders, Ev.holders_eq]
  cases e.control? l with
  | none => simp
  | some c => rfl

/-- Of a link that stays CLOSED no holder goes; of another, the slot that is sent back may (R124). -/
theorem Ev.sendBack_holdersOf (e : Ev) (slot link : Nat) (i : Isolation) (l : Nat) :
    (e.sendBack slot link i).holders l = e.holders l
      ∨ (l = link ∨ e.isClosed l = false) ∧ (e.sendBack slot link i).holders l = (e.holders l).filter (· ≠ slot) := by
  have after : Ev.Within [.isos, .orders, .controls, .trace, .ask]
      (e.releaseHolds slot (i.holds.filter fun l => !(e.keptHolds link i).contains l)) (e.sendBack slot link i) := by
    rw [Ev.sendBack_eq]
    refine .last (Ev.askRecompute_within _) (.last (Ev.askTrace_within _ _)
      (.last (.each (A := [.orders, .controls]) (fun id e => e.finishOrder_within id _ _) _ _) ?_))
    exact .last (Ev.setIso_within _ _ _ _ _ _) (.of (Ev.modIso_within _ _ (fun _ => rfl) fun _ => rfl))
  rw [after.holdersOf l, Ev.releaseHolds_holdersOf]
  split
  · next mem =>
    refine .inr ⟨?_, rfl⟩
    obtain ⟨held, gone⟩ := List.mem_filter.1 mem
    have gone : l ∉ e.keptHolds link i := by simpa using gone
    by_cases same : l = link
    · exact .inl same
    · refine .inr ?_
      by_contra closed
      exact gone (List.mem_filter.2 ⟨held, by simpa [same] using closed⟩)
  · exact .inl rfl

/-! ## The withdrawal of CLOSE orders, of an isolation that holds nothing (R144, R158) -/

/-- The isolation of a slot, which holds nothing, as it is. -/
structure Ev.Freed (slot : Nat) (i : Isolation) (e : Ev) : Prop where
  keyed : e.p.keyed
  there : e.iso? slot = some i
  bare : i.holds = []

section Freed
variable {e : Ev} {slot : Nat} {i : Isolation}

theorem Ev.Freed.not_holder (h : e.Freed slot i) {l k : Nat} (mem : k ∈ e.closingHolders l) : k ≠ slot := by
  rintro rfl
  obtain ⟨_, _, isos, _⟩ := h.keyed
  obtain ⟨j, hj, test⟩ := (mem_tkeysWhere (p := fun _ i => i.state = .closing && i.holds.contains l) isos).1 mem
  obtain rfl := Option.some.inj (hj.symm.trans h.there)
  simp [h.bare] at test

theorem Ev.Freed.step {f : Ev} (h : e.Freed slot i) (keyed : e.KeepsKeyed f) (same : f.iso? slot = e.iso? slot) :
    f.Freed slot i := ⟨keyed h.keyed, same.trans h.there, h.bare⟩

/-- Other holders may return to planning or get new CLOSE orders: the isolation that gave up its holds stays as it is. -/
theorem Ev.Freed.withdrawCloses {Q : Ev → Prop} (h : e.Freed slot i)
    (back : ∀ (f : Ev) (k l : Nat) (j : Isolation), f.Freed slot i → Q f → f.isClosed l = false → Q (f.sendBack k l j))
    (again : ∀ (f : Ev) (k l : Nat), f.Freed slot i → Q f → f.isClosed l = false → f.workable l = true →
      Q (f.issue k l .close).1) (r : IsoRef) (released : List Nat)
    (withdrawn : ∀ ids ⊆ e.ordersOf r .close, Q (e.each ids fun id e => e.finishOrder id .withdrawn .released)) :
    (e.withdrawCloses r released).Freed slot i ∧ Q (e.withdrawCloses r released) := by
  refine Ev.withdrawCloses_preserves (P := fun f => f.Freed slot i ∧ Q f) (may := (· ≠ slot)) (fun f k l h mem open_ works => ?_)
    (fun f l k h mem => h.1.not_holder mem) (fun f k l j h hj _ open_ ne => ?_) e r released fun ids sub => ?_
  · exact ⟨h.1.step (f.issue_keyed k l .close)
      (f.issue_isosBut k l .close slot (by simpa using (h.1.not_holder mem).symm)), again f k l h.1 h.2 open_ works⟩
  · exact ⟨h.1.step (f.sendBack_keyed k l j) (f.sendBack_isosBut k l j slot (by simpa using Ne.symm ne)),
      back f k l j h.1 h.2 open_⟩
  · exact ⟨h.step (.each (fun id e => e.finishOrder_keyed id _ _) e ids)
      ((Ev.Within.each (A := [.orders, .controls]) (fun id e => e.finishOrder_within id _ _) e ids).iso_same slot),
      withdrawn ids sub⟩

/-- The slot is on no holder list it has left. -/
theorem Ev.Freed.withdrawCloses_left (h : e.Freed slot i) (r : IsoRef) (released : List Nat) {l : Nat}
    (left : slot ∉ e.holders l) : slot ∉ (e.withdrawCloses r released).holders l := by
  refine (h.withdrawCloses (Q := fun f => slot ∉ f.holders l) (fun f k m j _ left _ => ?_) (fun f k m _ left _ _ => ?_) r
    released fun ids _ => ?_).2
  · obtain same | ⟨_, fewer⟩ := f.sendBack_holdersOf k m j l
    · rw [same]
      exact left
    · rw [fewer]
      exact fun mem => left (List.mem_of_mem_filter mem)
  · rw [(f.issue_within k m .close).holdersOf l]
    exact left
  · rw [(Ev.Within.each (A := [.orders, .controls]) (fun id e => e.finishOrder_within id _ _) e ids).holdersOf l]
    exact left

omit slot i in
theorem Ev.finishOrder_roomy (roomy : e.roomy) (id : Nat) (st : OrderState) (cause : FinishCause) :
    (e.finishOrder id st cause).roomy := by
  unfold Ev.finishOrder
  split
  · exact roomy
  · exact (List.length_map _).trans_le roomy

theorem Ev.Within.roomy {A : List Part} {f : Ev} (w : Ev.Within A e f) (roomy : e.roomy)
    (out : Part.orders ∉ A := by decide) : f.roomy := by
  rw [Ev.roomy, (w.orders out).1]
  exact roomy

theorem Ev.sendBack_roomy (roomy : e.roomy) (k l : Nat) (j : Isolation) : (e.sendBack k l j).roomy := by
  have withdrawn := Ev.each_preserves (P := fun e => e.roomy) (ks := e.ordersOf ⟨k, j.serial⟩ .close)
    (fun id _ f h => Ev.finishOrder_roomy h id .withdrawn .released) _ ((e.replanned_within k l j).roomy roomy)
  rw [Ev.sendBack_eq]
  exact (Ev.askTrace_within _ k).roomy withdrawn

theorem Ev.issue_roomy (roomy : e.roomy) (k l : Nat) (action : OrderAction) : (e.issue k l action).1.roomy := by
  unfold Ev.issue
  split
  · exact roomy
  · split
    · exact Ev.issueNow_roomy _ _ _ roomy ‹_›
    · exact roomy

/-- A CLOSED link that nobody holds and no order is out for stays so, and the order table keeps its bound. -/
theorem Ev.Freed.withdrawCloses_idle (h : e.Freed slot i) (r : IsoRef) (released : List Nat) {l : Nat}
    (closed : e.isClosed l = true) (bare : e.holders l = []) (none : e.orderless l) (roomy : e.roomy) :
    let f := e.withdrawCloses r released
    f.holders l = [] ∧ f.orderless l ∧ f.roomy := by
  refine (h.withdrawCloses (Q := fun f => f.isClosed l = true ∧ f.holders l = [] ∧ f.orderless l ∧ f.roomy)
    (fun f k m j _ idle _ => ?_) (fun f k m _ idle open_ _ => ?_) r released fun ids _ => ?_).2.2
  · obtain ⟨closed, bare, none, roomy⟩ := idle
    refine ⟨((f.sendBack_within k m j).isClosed l).trans closed, ?_, Ev.sendBack_orderless none k m j,
      Ev.sendBack_roomy roomy k m j⟩
    obtain same | ⟨_, fewer⟩ := f.sendBack_holdersOf k m j l
    · exact same.trans bare
    · rw [fewer, bare]
      rfl
  · obtain ⟨closed, bare, none, roomy⟩ := idle
    have within_ := f.issue_within k m .close
    refine ⟨(within_.isClosed l).trans closed, (within_.holdersOf l).trans bare, ?_, Ev.issue_roomy roomy k m .close⟩
    have ne : m ≠ l := fun same => by rw [same, closed] at open_; cases open_
    exact Ev.issue_orderless none k ne .close
  · have within_ := Ev.Within.each (A := [.orders, .controls])
      (fun id e => e.finishOrder_within id .withdrawn .released) e ids
    exact ⟨(within_.isClosed l).trans closed, (within_.holdersOf l).trans bare,
      Ev.each_preserves (P := fun e => e.orderless l) (fun id _ _ h => Ev.finishOrder_orderless h id _ _) e none,
      Ev.each_preserves (P := fun e => e.roomy) (fun id _ _ h => Ev.finishOrder_roomy h id _ _) e roomy⟩

/-- With no other isolation in CLOSING nothing but the orders is withdrawn (R144). -/
theorem Ev.Freed.withdrawCloses_alone (h : e.Freed slot i)
    (alone : ∀ k j, e.iso? k = some j → j.state = .closing → k = slot) (r : IsoRef) (released : List Nat) (l : Nat) :
    ((e.withdrawCloses r released).control? l).map (·.holders) = (e.control? l).map (·.holders) := by
  have only (f : Ev) (h : f.Freed slot i) (alone : ∀ k j, f.iso? k = some j → j.state = .closing → k = slot) (l k : Nat)
      (mem : k ∈ f.closingHolders l) : False := by
    obtain ⟨_, _, isos, _⟩ := h.keyed
    obtain ⟨j, hj, _⟩ := (mem_tkeysWhere (p := fun _ i => i.state = .closing && i.holds.contains l) isos).1 mem
    exact h.not_holder mem (alone k j hj (Ev.closingHolders_closing h.keyed mem hj))
  refine (Ev.withdrawCloses_preserves (P := fun f => (f.Freed slot i
      ∧ ∀ k j, f.iso? k = some j → j.state = .closing → k = slot)
      ∧ (f.control? l).map (·.holders) = (e.control? l).map (·.holders)) (may := fun _ => False)
    (fun f k m h mem _ _ => (only f h.1.1 h.1.2 m k mem).elim) (fun f m k h mem => only f h.1.1 h.1.2 m k mem)
    (fun _ _ _ _ _ _ _ _ no => no.elim) e r released fun ids _ => ?_).2
  have within_ := Ev.Within.each (A := [.orders, .controls]) (fun id e => e.finishOrder_within id .withdrawn .released) e ids
  refine ⟨⟨h.step (.each (fun id e => e.finishOrder_keyed id _ _) e ids) (within_.iso_same slot), fun k j hj => ?_⟩,
    within_.holders (by decide) l⟩
  rw [within_.iso_same k] at hj
  exact alone k j hj

/-! ## OPEN orders of a link that others hold (R158) -/

/-- The OPEN orders for the link are those of an earlier event. -/
def Ev.oldOpenings (e₀ : Ev) (l : Nat) (e : Ev) : Prop :=
  ∀ id o, e.order? id = some o → o.link = l → o.action = .reopen → e₀.order? id = some o

/-- The link is held by others while it is CLOSED. -/
def Ev.heldShut (slot l : Nat) (e : Ev) : Prop := e.isClosed l = true → ∃ h ∈ e.holders l, h ≠ slot

section HeldShut
variable {e₀ f : Ev} {l : Nat}

theorem Ev.Within.oldOpenings {A : List Part} (w : Ev.Within A e f) (h : e₀.oldOpenings l e)
    (orders : Part.orders ∉ A := by decide) : e₀.oldOpenings l f :=
  fun id o ho => h id o ((congrArg (tget · id) (w.orders orders).1).symm.trans ho)

theorem Ev.Within.heldShut {A : List Part} (w : Ev.Within A e f) (h : e.heldShut slot l)
    (positions : Part.positions ∉ A := by decide) (holders : Part.holders ∉ A := by decide) : f.heldShut slot l := by
  intro closed
  rw [w.holdersOf l holders]
  exact h ((w.isClosed l positions).symm.trans closed)

/-- The finishing of an order leaves the action of every order. -/
theorem Ev.finishOrder_order? (e : Ev) (id : Nat) (st : OrderState) (cause : FinishCause) (k : Nat) :
    (e.finishOrder id st cause).order? k = if k = id then (e.order? k).map fun o =>
      { o with state := st, finishTime := some e.now, cause := some cause } else e.order? k := by
  cases hx : e.order? id with
  | none =>
    simp only [Ev.finishOrder, hx]
    split
    · next same => rw [same, hx]; rfl
    · rfl
  | some x =>
    rw [Ev.finishOrder_eq hx]
    exact e.modOrder_order? id k _

theorem Ev.finishOrders_oldOpenings (h : e₀.oldOpenings l e) {ids : List Nat}
    (close : ∀ id ∈ ids, ∀ o, e.order? id = some o → o.action = .close) (st : OrderState) (cause : FinishCause) :
    e₀.oldOpenings l (e.each ids fun id e => e.finishOrder id st cause) := by
  refine (Ev.each_preserves (P := fun f => e₀.oldOpenings l f ∧ ∀ id ∈ ids, ∀ o, f.order? id = some o → o.action = .close)
    (fun id hid f h => ⟨fun k o ho link reopen => ?_, fun k hk o ho => ?_⟩) e ⟨h, close⟩).1
  · rw [Ev.finishOrder_order?] at ho
    split at ho
    · next same =>
      obtain ⟨x, hx, rfl⟩ := Option.map_eq_some_iff.1 ho
      cases (h.2 k (same ▸ hid) x hx).symm.trans reopen
    · exact h.1 k o ho link reopen
  · rw [Ev.finishOrder_order?] at ho
    split at ho
    · obtain ⟨x, hx, rfl⟩ := Option.map_eq_some_iff.1 ho
      exact h.2 k hk x hx
    · exact h.2 k hk o ho

theorem Ev.ordersOf_action (wf : e.p.keyed) {r : IsoRef} {a : OrderAction} {id : Nat} (mem : id ∈ e.ordersOf r a) {o : Order}
    (ho : e.order? id = some o) : o.action = a := by
  obtain ⟨_, _, _, orders, _⟩ := wf
  obtain ⟨x, hx, test⟩ := (mem_tkeysWhere (p := fun _ o => o.outstanding && o.iso = r && o.action = a) orders).1 mem
  obtain rfl := Option.some.inj (hx.symm.trans ho)
  simp only [Bool.and_eq_true, decide_eq_true_eq] at test
  exact test.2

theorem Ev.sendBack_oldOpenings (h : e₀.oldOpenings l e) (wf : e.p.keyed) (k m : Nat) (j : Isolation) :
    e₀.oldOpenings l (e.sendBack k m j) := by
  have before := e.replanned_within k m j
  rw [Ev.sendBack_eq]
  refine (Ev.askTrace_within _ k).oldOpenings (Ev.finishOrders_oldOpenings (before.oldOpenings h) (fun id mem o ho => ?_) _ _)
  exact Ev.ordersOf_action wf mem ((congrArg (tget · id) (before.orders (by decide)).1).symm.trans ho)

theorem Ev.sendBack_heldShut (h : e.heldShut slot l) {m : Nat} (open_ : e.isClosed m = false) (k : Nat) (j : Isolation) :
    (e.sendBack k m j).heldShut slot l := by
  intro closed
  replace closed := ((e.sendBack_within k m j).isClosed l).symm.trans closed
  obtain same | ⟨rfl | opened, _⟩ := e.sendBack_holdersOf k m j l
  · rw [same]
    exact h closed
  · cases closed.symm.trans open_
  · cases closed.symm.trans opened

theorem Ev.issueNow_oldOpenings (h : e₀.oldOpenings l e) (r : IsoRef) {m : Nat} {action : OrderAction}
    (other : m ≠ l ∨ action = .close) : e₀.oldOpenings l (e.issueNow r m action) := by
  intro id o ho link reopen
  rw [Ev.issueNow_order?] at ho
  split at ho
  · obtain rfl := Option.some.inj ho
    obtain ne | close := other
    · exact absurd link ne
    · cases close.symm.trans reopen
  · exact h id o (IsolationController.makeRoom_tget ho) link reopen

theorem Ev.issue_oldOpenings (h : e₀.oldOpenings l e) (k : Nat) {m : Nat} {action : OrderAction}
    (other : m ≠ l ∨ action = .close) : e₀.oldOpenings l (e.issue k m action).1 := by
  unfold Ev.issue
  split
  · exact h
  · split
    · exact Ev.issueNow_oldOpenings h _ other
    · exact h

theorem Ev.issueAll_oldOpenings (k : Nat) (action : OrderAction) {ls : List Nat} (out : l ∉ ls) :
    ∀ {e : Ev}, e₀.oldOpenings l e → e₀.oldOpenings l (Ev.issueAll k action ls e).1 := by
  induction ls with
  | nil => exact fun h => h
  | cons m ls ih =>
    intro e h
    obtain ⟨ne, out⟩ := not_or.1 (mt List.mem_cons.2 out)
    have both := ih out (Ev.issue_oldOpenings h k (action := action) (.inl (Ne.symm ne)))
    unfold Ev.issueAll
    dsimp only
    split <;> exact both

theorem Ev.Freed.withdrawCloses_heldShut (h : e.Freed slot i) (r : IsoRef) (released : List Nat)
    (held : e.heldShut slot l) (old : e₀.oldOpenings l e) :
    (e.withdrawCloses r released).heldShut slot l ∧ e₀.oldOpenings l (e.withdrawCloses r released) := by
  refine (h.withdrawCloses (Q := fun f => f.heldShut slot l ∧ e₀.oldOpenings l f)
    (fun f k m j freed both open_ => ?_) (fun f k m _ both _ _ => ?_) r released fun ids sub => ?_).2
  · exact ⟨Ev.sendBack_heldShut both.1 open_ k j, Ev.sendBack_oldOpenings both.2 freed.keyed k m j⟩
  · exact ⟨(f.issue_within k m .close).heldShut both.1, Ev.issue_oldOpenings both.2 k (.inr rfl)⟩
  · exact ⟨(Ev.Within.each (A := [.orders, .controls]) (fun id e => e.finishOrder_within id _ _) e ids).heldShut held,
      Ev.finishOrders_oldOpenings old (fun id mem o ho => Ev.ordersOf_action h.keyed (sub mem) ho) _ _⟩

/-- The arbiter issues no OPEN order for a link that others hold (R142). -/
theorem Ev.settle_oldOpenings (held : e.heldShut slot l) (old : e₀.oldOpenings l e) : e₀.oldOpenings l e.settle := by
  have served := Ev.serve_preserves (P := fun e => e.heldShut slot l ∧ e₀.oldOpenings l e) (fun e k i x rest h _ _ _ => by
    obtain ⟨held, old⟩ := h
    refine ⟨⟨held, old⟩, fun servable => ⟨(Ev.issueNow_within _ _ _ _).heldShut (e := e.modIso k _) held,
      Ev.issueNow_oldOpenings (e := e.modIso k _) old _ ?_⟩⟩
    cases action : x.action with
    | close => exact .inr rfl
    | reopen =>
      refine .inl ?_
      rintro rfl
      simp only [Ev.servable, action, Bool.and_eq_true] at servable
      obtain ⟨⟨⟨⟨_, bare⟩, closed⟩, _⟩, _⟩ := servable
      obtain ⟨h, mem, _⟩ := held closed
      rw [List.isEmpty_iff.1 bare] at mem
      cases mem)
    ({ e with bumped := false } : Ev).entryCount (e := { e with bumped := false }) ⟨held, old⟩
  exact e.settle_after_arbitrate.oldOpenings served.2

end HeldShut

end Freed

/-! ## The restoration step (R158) -/

/-- The holds given up, and the CLOSE entries with them (R158, steps 1 and 2). -/
def Ev.unbound (e : Ev) (slot : Nat) (i : Isolation) : Ev :=
  (e.modIso slot fun i => { i with toIssue := i.toIssue.filter fun x => x.action ≠ .close }).releaseHolds slot i.holds

/-- In RESTORING with its ramp, before the orders (R158, steps 3 to 5). -/
def Ev.restoring (e : Ev) (slot : Nat) (i : Isolation) (r : Ramp) : Ev :=
  ((((e.unbound slot i).withdrawCloses ⟨slot, i.serial⟩ i.holds).bump.modIso slot fun i => { i with ramp := some r }).setIso
    slot .restoring .restore).askRecompute

/-- The ramp clock started, or its start timer set (R160, R161). -/
def Ev.clocked (e : Ev) (slot : Nat) (i : Isolation) (r : Ramp) : Ev :=
  if i.closure.any e.isOpen then e.clockStart slot
  else e.modIso slot fun j => { j with ramp := some { r with startTimer := some (e.now + e.p.ctl.verifyTime) } }

theorem Ev.restoreStep_eq (e : Ev) (slot : Nat) (i : Isolation) (r : Ramp) : (e.restoreStep slot i r).1
    = (Ev.issueAll slot .reopen (i.closure.filter (e.restoring slot i r).orderable) (e.restoring slot i r)).1.clocked slot i r := by
  unfold Ev.restoreStep Ev.clocked
  dsimp only
  split
  · next h => exact (if_pos h).symm
  · next h => exact (if_neg h).symm

theorem Ev.unbound_within (e : Ev) (slot : Nat) (i : Isolation) :
    Ev.Within [.isos, .controls, .holders] e (e.unbound slot i) :=
  .last (Ev.releaseHolds_within _ _ _) (.of (e.modIso_within slot (fun _ => rfl) fun _ => rfl))

theorem Ev.restoring_after (e : Ev) (slot : Nat) (i : Isolation) (r : Ramp) :
    Ev.Within [.isos, .bump, .ask] ((e.unbound slot i).withdrawCloses ⟨slot, i.serial⟩ i.holds) (e.restoring slot i r) :=
  .last (Ev.askRecompute_within _) (.last (Ev.setIso_within _ _ _ _ _ _)
    (.last (Ev.modIso_within _ _ (fun _ => rfl) fun _ => rfl) (.of (Ev.bump_within _))))

theorem Ev.restoring_keyed (e : Ev) (slot : Nat) (i : Isolation) (r : Ramp) :
    ((e.unbound slot i).withdrawCloses ⟨slot, i.serial⟩ i.holds).KeepsKeyed (e.restoring slot i r) := by
  unfold Ev.restoring
  generalize (e.unbound slot i).withdrawCloses ⟨slot, i.serial⟩ i.holds = g
  have moved : g.KeepsKeyed ((g.bump.modIso slot fun i => { i with ramp := some r }).setIso slot .restoring .restore) :=
    .last (Ev.setIso_keyed _ _ _ _ _ _) (.last (Ev.modIso_keyed _ _ _) g.bump_keyed)
  exact fun wf => moved wf

theorem Ev.clocked_within (e : Ev) (slot : Nat) (i : Isolation) (r : Ramp) : Ev.Within [.isos] e (e.clocked slot i r) :=
  .ite (Ev.clockStart_within _ _) (e.modIso_within slot (fun _ => rfl) fun _ => rfl)

theorem Ev.clocked_keyed (e : Ev) (slot : Nat) (i : Isolation) (r : Ramp) : e.KeepsKeyed (e.clocked slot i r) := by
  refine .ite ?_ (e.modIso_keyed slot _)
  unfold Ev.clockStart
  split
  · exact .refl e
  · exact e.modIso_keyed slot _

section Restore
variable {e : Ev} {slot : Nat} {i : Isolation} (h : e.iso? slot = some i)

include h

theorem Ev.unbound_iso : ∃ l, (e.unbound slot i).iso? slot = some { i with holds := [], toIssue := l }
    ∧ ∀ x ∈ l, x.action = .reopen := by
  have there := Ev.releaseHolds_iso (Ev.modIso_iso h fun i =>
    { i with toIssue := i.toIssue.filter fun x => x.action ≠ .close }) i.holds
  have bare : (i.holds.filter fun l => !i.holds.contains l) = [] := List.filter_eq_nil_iff.2 fun l hl => by simp [hl]
  dsimp only at there
  rw [bare] at there
  refine ⟨_, there, fun x hx => ?_⟩
  have left := List.mem_of_mem_filter hx
  cases action : x.action with
  | reopen => rfl
  | close => simp [action] at left

theorem Ev.unbound_freed (wf : e.p.keyed) : ∃ l, (e.unbound slot i).Freed slot { i with holds := [], toIssue := l }
    ∧ ∀ x ∈ l, x.action = .reopen := by
  obtain ⟨l, there, opens⟩ := Ev.unbound_iso h
  exact ⟨l, ⟨Ev.releaseHolds_keyed _ _ _ (e.modIso_keyed _ _ wf), there, rfl⟩, opens⟩

omit h in
theorem Isolation.moveTo_toIssue_subset (i : Isolation) (new : IsoState) (now : Nat) :
    (i.moveTo new now).toIssue ⊆ i.toIssue := by
  unfold Isolation.moveTo
  dsimp only
  split_ifs <;> simp

/-- The isolation in RESTORING: no holds, its ramp, and OPEN entries alone. -/
theorem Ev.restoring_iso (wf : e.p.keyed) (r : Ramp) : ∃ j, (e.restoring slot i r).iso? slot = some j
    ∧ j.state = .restoring ∧ j.holds = [] ∧ j.ramp = some r ∧ j.serial = i.serial ∧ ∀ x ∈ j.toIssue, x.action = .reopen := by
  obtain ⟨l, freed, opens⟩ := Ev.unbound_freed h wf
  obtain ⟨freed, _⟩ := freed.withdrawCloses (Q := fun _ => True) (fun _ _ _ _ _ _ _ => trivial)
    (fun _ _ _ _ _ _ _ => trivial) ⟨slot, i.serial⟩ i.holds fun _ _ => trivial
  unfold Ev.restoring
  generalize (e.unbound slot i).withdrawCloses ⟨slot, i.serial⟩ i.holds = g at freed
  have bumped := (g.bump_within.iso_same slot).trans freed.there
  have there := Ev.setIso_iso (Ev.modIso_iso bumped fun i => { i with ramp := some r }) .restoring .restore .nothing 0
  refine ⟨_, there, rfl, ?_⟩
  have entries := fun x hx => opens x (Isolation.moveTo_toIssue_subset { i with holds := [], toIssue := l, ramp := some r }
    .restoring g.bump.now hx)
  refine ⟨?_, ?_, ?_, fun x hx => entries x hx⟩
  all_goals rw [Isolation.moveTo_eq]

end Restore

/-! ## The ramp (R157, R160, R161) -/

/-- A ramp of the same parameters, not stalled and not complete. -/
structure Ramp.Begins (r r' : Ramp) : Prop where
  increment : r'.increment = r.increment
  interval : r'.interval = r.interval
  target : r'.target = r.target
  band : r'.band = r.band
  stall : r'.stall = r.stall
  complete : r'.complete = r.complete

theorem Ev.clocked_iso {e : Ev} {slot : Nat} {j : Isolation} (h : e.iso? slot = some j) {r : Ramp} (ramp : j.ramp = some r)
    (i : Isolation) : ∃ r', (e.clocked slot i r).iso? slot = some { j with ramp := some r' } ∧ r.Begins r'
      ∧ ((∃ l ∈ i.closure, e.isOpen l = true) → r'.t0 = some e.now ∧ r'.startTimer = none)
      ∧ ((∀ l ∈ i.closure, e.isOpen l = false) → r'.t0 = r.t0 ∧ r'.startTimer = some (e.now + e.p.ctl.verifyTime)) := by
  unfold Ev.clocked
  split
  · next opened =>
    refine ⟨{ r with t0 := some e.now, startTimer := none, openGen := e.p.net.generation, stations := e.rampStations j },
      ?_, ⟨rfl, rfl, rfl, rfl, rfl, rfl⟩, fun _ => ⟨rfl, rfl⟩, fun none => ?_⟩
    · simp only [Ev.clockStart, h]
      refine (Ev.modIso_iso h _).trans ?_
      rw [ramp]
      rfl
    · obtain ⟨l, hl, open_⟩ := List.any_eq_true.1 opened
      cases open_.symm.trans (none l hl)
  · next shut =>
    refine ⟨{ r with startTimer := some (e.now + e.p.ctl.verifyTime) }, Ev.modIso_iso h _, ⟨rfl, rfl, rfl, rfl, rfl, rfl⟩,
      fun opened => ?_, fun _ => ⟨rfl, rfl⟩⟩
    exact absurd (List.any_eq_true.2 opened) shut

/-! ## What becomes of a member (R158, R159) -/

section Member
variable {e : Ev} {slot : Nat} {i : Isolation} (h : e.iso? slot = some i) (wf : e.p.keyed) (r : Ramp) {l : Nat}

omit h wf in
theorem Ev.unbound_holders (e : Ev) (slot : Nat) (i : Isolation) (l : Nat) : ((e.unbound slot i).control? l).map (·.holders)
    = (e.control? l).map fun c => if l ∈ i.holds then c.holders.filter (· ≠ slot) else c.holders :=
  Ev.releaseHolds_holders (e.modIso slot _) slot i.holds l

omit h wf in
theorem Ev.unbound_holdersOf (e : Ev) (slot : Nat) (i : Isolation) (l : Nat) : (e.unbound slot i).holders l
    = if l ∈ i.holds then (e.holders l).filter (· ≠ slot) else e.holders l :=
  Ev.releaseHolds_holdersOf (e.modIso slot _) slot i.holds l

omit h wf in
theorem Ev.restored_after (e : Ev) (slot : Nat) (i : Isolation) (r : Ramp) :
    Ev.Within [.isos, .orders, .controls, .bump, .ask] ((e.unbound slot i).withdrawCloses ⟨slot, i.serial⟩ i.holds)
      (e.restoreStep slot i r).1 := by
  rw [Ev.restoreStep_eq]
  exact .last (Ev.clocked_within _ _ _ _) (.last (Ev.issueAll_within _ _ _ _) (.of (e.restoring_after slot i r)))

include h wf

/-- The isolation is off the holder list of every link it held. -/
theorem Ev.restored_left (held : l ∈ i.holds) : slot ∉ (e.restoreStep slot i r).1.holders l := by
  obtain ⟨_, freed, _⟩ := Ev.unbound_freed h wf
  rw [(e.restored_after slot i r).holdersOf l]
  refine freed.withdrawCloses_left _ _ ?_
  rw [e.unbound_holdersOf slot i l, if_pos held]
  simp

/-- While no other isolation is in CLOSING no other holder goes. -/
theorem Ev.restored_holders (alone : ∀ k x, e.iso? k = some x → x.state = .closing → k = slot) (l : Nat) :
    ((e.restoreStep slot i r).1.control? l).map (·.holders)
      = (e.control? l).map fun c => if l ∈ i.holds then c.holders.filter (· ≠ slot) else c.holders := by
  obtain ⟨_, freed, _⟩ := Ev.unbound_freed h wf
  refine ((e.restored_after slot i r).holders (by decide) l).trans
    ((freed.withdrawCloses_alone (fun k x hx closing => ?_) _ _ l).trans (e.unbound_holders slot i l))
  by_contra other
  have but : Ev.IsosBut [slot] e (e.unbound slot i) := .last (Ev.releaseHolds_isosBut _ _ _) (e.modIso_isosBut slot _)
  exact other (alone k x ((but k (by simpa using other)).symm.trans hx) closing)

/-- A member that nobody else holds and that can be ordered has its OPEN order issued, or waits. -/
theorem Ev.restored_reopens (roomy : e.roomy) {c : ControlRt} (hc : e.control? l = some c) (member : l ∈ i.closure)
    (works : e.workable l = true) (closed : c.position = .closed) (idle : c.order = none) (held : l ∈ i.holds)
    (mine : ∀ k ∈ c.holders, k = slot) :
    (e.restoreStep slot i r).1.reopens ⟨slot, i.serial⟩ l e.now e.p.ctl.acceptTime ∧ (e.restoreStep slot i r).1.roomy
      ∧ (e.restoreStep slot i r).1.p.keyed := by
  obtain ⟨_, freed, _⟩ := Ev.unbound_freed h wf
  have first := e.unbound_within slot i
  have bare : (e.unbound slot i).holders l = [] := by
    rw [e.unbound_holdersOf slot i l, if_pos held, List.filter_eq_nil_iff]
    intro k hk
    have own : k ∈ c.holders := by simpa [Ev.holders, hc] using hk
    simp [mine k own]
  have free : (e.unbound slot i).orderless l :=
    Ev.releaseHolds_orderless (e := e.modIso slot _) (show (e.control? l).bind _ = _ by rw [hc]; exact idle) slot i.holds
  have shut : e.isClosed l = true := by simp [Ev.isClosed, hc, closed]
  obtain ⟨bare, free, roomy⟩ := freed.withdrawCloses_idle ⟨slot, i.serial⟩ i.holds ((first.isClosed l).trans shut) bare free
    (first.roomy roomy)
  obtain ⟨freed, _⟩ := freed.withdrawCloses (Q := fun _ => True) (fun _ _ _ _ _ _ _ => trivial)
    (fun _ _ _ _ _ _ _ => trivial) ⟨slot, i.serial⟩ i.holds fun _ _ => trivial
  have next := e.restoring_after slot i r
  have all : Ev.Within [.isos, .orders, .controls, .holders, .trace, .ask, .bump] e (e.restoring slot i r) :=
    .last next (.last (Ev.withdrawCloses_within _ _ _) (.of first))
  obtain ⟨j, hj, _, _, ramp, serial, opens⟩ := Ev.restoring_iso h wf r
  have keyed := e.restoring_keyed slot i r freed.keyed
  have orderable : (e.restoring slot i r).orderable l = true := by
    have unordered : (e.restoring slot i r).orderOf? l = none := by
      have free : ((e.restoring slot i r).control? l).bind (·.order) = none := next.orderless free
      simp only [Ev.orderOf?, free]
    rw [Ev.orderable, (next.holdersOf l).trans bare, (all.isClosed l).trans shut, (all.workable l).trans works, unordered]
    rfl
  have control : ∃ d, (e.restoring slot i r).control? l = some d := by
    have same := all.positions (by decide) l
    rw [hc, Option.map_some] at same
    obtain ⟨d, hd, _⟩ := Option.map_eq_some_iff.1 same
    exact ⟨d, hd⟩
  have accept : (e.restoring slot i r).p.ctl.acceptTime = e.p.ctl.acceptTime :=
    congrArg (fun x => x.2.2.2.1.2.1) (all.settings (by decide))
  have start : (e.restoring slot i r).Reopening ⟨slot, i.serial⟩ l e.now e.p.ctl.acceptTime :=
    ⟨keyed, next.roomy roomy, ⟨j, hj, serial, opens⟩, control, all.now, accept⟩
  obtain ⟨issued, reopens⟩ := start.issueAll (i.closure.filter (e.restoring slot i r).orderable)
  have reopens := reopens (.inl (List.mem_filter.2 ⟨member, orderable⟩))
  obtain ⟨entries, listed⟩ := Ev.issueAll_iso slot .reopen (i.closure.filter (e.restoring slot i r).orderable) hj
  rw [Ev.restoreStep_eq]
  generalize (Ev.issueAll slot .reopen (i.closure.filter (e.restoring slot i r).orderable) (e.restoring slot i r)).1 = g
    at issued reopens listed
  have last := g.clocked_within slot i r
  obtain ⟨r', there, _⟩ := Ev.clocked_iso listed ramp i
  have keyed' := g.clocked_keyed slot i r issued.keyed
  generalize g.clocked slot i r = f at last there keyed'
  have orders := (last.orders (by decide)).1
  refine ⟨?_, last.roomy issued.roomy, keyed'⟩
  obtain ⟨id, own, order⟩ | ⟨full, x, hx, mem⟩ := reopens
  · refine .inl ⟨id, ?_, (congrArg (tget · id) orders).trans order⟩
    exact (congrArg (fun t => (tget t l).bind ControlRt.order) (last.controls (by decide))).trans own
  · obtain rfl := Option.some.inj (hx.symm.trans listed)
    refine .inr ⟨?_, _, there, mem⟩
    rw [Ev.outstandingCount, orders]
    exact full

/-- A member that another isolation holds gets no OPEN order. -/
theorem Ev.restored_heldShut {c : ControlRt} (hc : e.control? l = some c) (other : ∃ k ∈ c.holders, k ≠ slot) :
    (e.restoreStep slot i r).1.heldShut slot l ∧ e.oldOpenings l (e.restoreStep slot i r).1 := by
  obtain ⟨_, freed, _⟩ := Ev.unbound_freed h wf
  obtain ⟨k, hk, ne⟩ := other
  have hk : k ∈ e.holders l := by simpa [Ev.holders, hc] using hk
  have held : (e.unbound slot i).heldShut slot l := by
    intro _
    rw [e.unbound_holdersOf slot i l]
    refine ⟨k, ?_, ne⟩
    split
    · exact List.mem_filter.2 ⟨hk, by simpa using ne⟩
    · exact hk
  obtain ⟨held, old⟩ := freed.withdrawCloses_heldShut ⟨slot, i.serial⟩ i.holds held
    ((e.unbound_within slot i).oldOpenings (e₀ := e) (fun _ _ ho _ _ => ho))
  have next := e.restoring_after slot i r
  have shut := next.heldShut held
  refine ⟨(e.restored_after slot i r).heldShut held, ?_⟩
  rw [Ev.restoreStep_eq]
  refine (Ev.clocked_within _ slot i r).oldOpenings (Ev.issueAll_oldOpenings slot .reopen (fun mem => ?_) (next.oldOpenings old))
  obtain ⟨_, orderable⟩ := List.mem_filter.1 mem
  simp only [Ev.orderable, Bool.and_eq_true] at orderable
  obtain ⟨⟨⟨bare, closed⟩, _⟩, _⟩ := orderable
  obtain ⟨k, hk, _⟩ := shut closed
  rw [List.isEmpty_iff.1 bare] at hk
  cases hk

end Member

/-! ## RESTORE (R156) -/

theorem Ev.restoreStep_keyed {e : Ev} {slot : Nat} {i : Isolation} (h : e.iso? slot = some i) (wf : e.p.keyed) (r : Ramp) :
    (e.restoreStep slot i r).1.p.keyed := by
  obtain ⟨_, freed, _⟩ := Ev.unbound_freed h wf
  obtain ⟨freed, _⟩ := freed.withdrawCloses (Q := fun _ => True) (fun _ _ _ _ _ _ _ => trivial)
    (fun _ _ _ _ _ _ _ => trivial) ⟨slot, i.serial⟩ i.holds fun _ _ => trivial
  rw [Ev.restoreStep_eq]
  exact Ev.clocked_keyed _ slot i r (Ev.issueAll_keyed _ _ _ _ (e.restoring_keyed slot i r freed.keyed))

theorem Ev.restoreStep_iso {e : Ev} {slot : Nat} {i : Isolation} (h : e.iso? slot = some i) (wf : e.p.keyed) (r : Ramp) :
    ∃ j r', (e.restoreStep slot i r).1.iso? slot = some j ∧ j.state = .restoring ∧ j.holds = [] ∧ j.ramp = some r'
      ∧ r.Begins r'
      ∧ ((∃ l ∈ i.closure, e.isOpen l = true) → r'.t0 = some e.now ∧ r'.startTimer = none)
      ∧ ((∀ l ∈ i.closure, e.isOpen l = false) → r'.t0 = r.t0 ∧ r'.startTimer = some (e.now + e.p.ctl.verifyTime)) := by
  obtain ⟨j, hj, state, holds, ramp, _⟩ := Ev.restoring_iso h wf r
  obtain ⟨l, listed⟩ := Ev.issueAll_iso slot .reopen (i.closure.filter (e.restoring slot i r).orderable) hj
  have before : Ev.Within (.bump :: Part.replanning) e (e.restoring slot i r) :=
    .last (e.restoring_after slot i r) (.last (Ev.withdrawCloses_within _ _ _) (.of (e.unbound_within slot i)))
  have all : Ev.Within (.bump :: Part.replanning) e
      (Ev.issueAll slot .reopen (i.closure.filter (e.restoring slot i r).orderable) (e.restoring slot i r)).1 :=
    .last (Ev.issueAll_within _ _ _ _) before
  rw [Ev.restoreStep_eq]
  generalize (Ev.issueAll slot .reopen (i.closure.filter (e.restoring slot i r).orderable) (e.restoring slot i r)).1 = g
    at listed all
  obtain ⟨r', there, begins, opened, shut⟩ := Ev.clocked_iso listed ramp i
  have verify : g.p.ctl.verifyTime = e.p.ctl.verifyTime := congrArg (fun x => x.2.2.2.1.1) (all.settings (by decide))
  simp only [fun l => all.isOpen l, all.now, verify] at opened shut
  exact ⟨_, r', there, state, holds, rfl, begins, opened, shut⟩

theorem Ev.restoreStep_bumped (e : Ev) (slot : Nat) (i : Isolation) (r : Ramp) : (e.restoreStep slot i r).1.bumped = true := by
  have marked : (e.restoring slot i r).bumped = true := by
    unfold Ev.restoring
    generalize (e.unbound slot i).withdrawCloses ⟨slot, i.serial⟩ i.holds = g
    exact (Ev.setIso_within _ slot .restoring .restore .nothing 0).stays_bumped g.bump_bumped
  rw [Ev.restoreStep_eq]
  exact (Ev.clocked_within _ slot i r).stays_bumped ((Ev.issueAll_within _ _ _ _).stays_bumped marked)

theorem Ev.restoreStep_frame (e : Ev) (slot : Nat) (i : Isolation) (r : Ramp) :
    Ev.Within (.bump :: Part.replanning) e (e.restoreStep slot i r).1 :=
  .last (e.restored_after slot i r) (.last (Ev.withdrawCloses_within _ _ _) (.of (e.unbound_within slot i)))

theorem Ev.restoreNamed_of_fit {e : Ev} {p : List Byte} {slot : Nat} {i : Isolation} (shuts : i.state.shuts = true)
    (range : (rampParams p).inRange = true) (work : e.workInSection i = none) (held : e.heldByOthers slot i = none) :
    ∃ c, e.restoreNamed p slot i
      = ((e.restoreStep slot i ((rampParams p).resolve (e.rampTier i) e.p.ctl.target)).1, c) := by
  unfold Ev.restoreNamed
  rw [shuts, range, work, held]
  exact ⟨_, rfl⟩

/-- Settles O47: holds given up, others' CLOSE orders seen to, the free members ordered open, and the clock. -/
theorem restoreStartsRamp : Obligations.RestoreStartsRamp := by
  unfold Obligations.RestoreStartsRamp
  intro s f i h wf hp hr hs hi hser state r slot e tier range work held
  have run := exec_restore h hp
  rw [State.onNamed_found (by simpa using hr) hs hi hser] at run
  have shuts : i.state.shuts = true := by obtain state | state | state := state <;> rw [state] <;> rfl
  obtain ⟨c, taken⟩ := Ev.restoreNamed_of_fit shuts range work held
  have run : exec .restore s = .next (s.taken f ((e.restoreStep slot i (r.resolve tier e.p.ctl.target)).1, c)) :=
    run.trans (congrArg (fun x => Host.Outcome.next (s.taken f x)) taken)
  have there : e.iso? slot = some i := hi
  have keyed : e.p.keyed := wf
  have now : e.now = s.link.partTime := rfl
  have plant : e.p = s.plant := rfl
  have fresh : e.bumped = false := rfl
  clear_value slot e tier r
  obtain ⟨j, r', hj, restoring, bare, ramp, begins, opened, shut⟩ :=
    Ev.restoreStep_iso there keyed (r.resolve tier e.p.ctl.target)
  have keyed' := Ev.restoreStep_keyed there keyed (r.resolve tier e.p.ctl.target)
  have frame := e.restoreStep_frame slot i (r.resolve tier e.p.ctl.target)
  have bumped := e.restoreStep_bumped slot i (r.resolve tier e.p.ctl.target)
  have left := fun {l} => Ev.restored_left (l := l) there keyed (r.resolve tier e.p.ctl.target)
  have alone := Ev.restored_holders there keyed (r.resolve tier e.p.ctl.target)
  have reopens := fun {l} roomy {c} => Ev.restored_reopens (l := l) there keyed (r.resolve tier e.p.ctl.target) roomy (c := c)
  have heldShut := fun {l c} => Ev.restored_heldShut (l := l) (c := c) there keyed (r.resolve tier e.p.ctl.target)
  generalize (e.restoreStep slot i (r.resolve tier e.p.ctl.target)).1 = g at run hj keyed' frame bumped left alone reopens heldShut
  obtain ⟨entries, _, settled⟩ := Ev.settle_iso (Plant.keyed_isos keyed') hj
  rw [now] at opened
  rw [plant, now] at shut
  simp only [plant, now] at reopens
  have generation := frame.bumped_generation fresh bumped
  rw [plant] at generation
  have control? (l : Nat) : e.control? l = tget s.plant.net.controls l := by rw [Ev.control?, plant]
  have held (l : Nat) : (tget g.settle.p.net.controls l).map (·.holders) = (g.control? l).map (·.holders) :=
    g.settle_within.holders (by decide) l
  refine ⟨_, _, r', run, settled, restoring, bare, ramp, begins.increment.trans (by cases tier <;> rfl), begins.interval,
    begins.target.trans (by rw [← plant]; rfl), begins.band, begins.stall, begins.complete, opened, shut,
    fun l hl d hd mem => ?_, fun only l => ?_,
    fun few l k d member hk works untagged hd closed idle mine own => ?_, fun l d _ hd other id o ho link reopen => ?_,
    (Ev.settle_net_generation g).trans generation, ?_, ?_, ?_⟩
  · have same : g.holders l = d.holders := by
      have same := held l
      rw [show tget g.settle.p.net.controls l = some d from hd] at same
      rw [Ev.holders_eq, ← same]
      rfl
    exact left hl (same ▸ mem)
  · have only : ∀ k x, e.iso? k = some x → x.state = .closing → k = slot := fun k x hx => only k x (plant ▸ hx)
    exact (held l).trans ((alone only l).trans (by rw [control?]))
  · have works : e.workable l = true := by
      have free : e.tagged l .doNotOperate = false := by
        rw [← Bool.not_eq_true, Ev.tagged_iff, plant]
        exact fun ⟨x, hx, both⟩ => untagged x hx both
      have link : e.link? l = some k := by rw [Ev.link?, plant]; exact hk
      simp [Ev.workable, link, works, free]
    have roomy : e.roomy := by rw [Ev.roomy, plant]; exact few
    obtain ⟨waits, roomy, _⟩ := reopens roomy ((control? l).trans hd) member works closed idle mine own
    obtain ⟨id, number, order⟩ | ⟨x, hx, mem⟩ := waits.settle keyed' roomy
    · exact .inl ⟨id, _, number, order, rfl, rfl, rfl, rfl, rfl, rfl⟩
    · obtain rfl := Option.some.inj (hx.symm.trans settled)
      exact .inr mem
  · obtain ⟨shut, old⟩ := heldShut ((control? l).trans hd) other
    have before := Ev.settle_oldOpenings shut old id o ho link reopen
    rw [Ev.order?, plant] at before
    exact before
  · exact (Ev.settle_net_links g).trans ((frame.links (by decide)).trans (by rw [plant]))
  · exact (Ev.settle_net_pipes g).trans ((frame.pipes (by decide)).trans (by rw [plant]))
  · exact (Ev.settle_mon g).trans ((frame.mon (by decide)).trans (by rw [plant]))

end Sys2Proof.Machine
end

section
/-! Incidents that the Station Monitor raises (R76, R77, R97), and what an isolation later does to incidents (R104, R105):
what O27 says of the register. -/

namespace Sys2Proof.Machine

-- One theorem after another: theorems checked side by side each hold a thread and its stack.
set_option Elab.async false

/-! ## A request for an incident (R97) -/

/-- An incident as the Station Monitor opens it, of grade 1 for a tier (R97). -/
structure Incident.Raised (tier : Tier) (now response : Nat) (i : Incident) : Prop where
  grade : i.grade = 1
  tier : i.tier = some tier
  pipe : i.pipe = none
  opened : i.opened = now
  deadline : i.deadline = now + response
  calls : i.calls = 0
  refs : i.refs = []

/-- No uncleared incident of the kind asked is there (R97). -/
def Ev.lacks (e : Ev) (kind : IncidentKind) (station : Option Nat) (tier : Tier) : Prop :=
  ∀ k i, tget e.p.reg.table k = some i → i.uncleared = true → i.kind = kind →
    ¬(if kind = .tierLow then i.tier = some tier else i.station.isSome = true ∧ i.station = station)

theorem Ev.lacks_of_not_already {e : Ev} {kind : IncidentKind} {station : Option Nat} {tier : Tier}
    (h : e.p.reg.already kind station tier = false) : e.lacks kind station tier := by
  intro k i hi uncleared same there
  have none := List.any_eq_false.1 h (k, i) (mem_of_tget hi)
  refine none ?_
  simp only [uncleared, same, decide_true, Bool.true_and]
  split at there
  · next low => simp [low, there]
  · next low => simpa [low] using there

theorem Ev.not_already_of_lacks {e : Ev} (wf : tableWf e.p.reg.table) {kind : IncidentKind} {station : Option Nat} {tier : Tier}
    (h : e.lacks kind station tier) : e.p.reg.already kind station tier = false := by
  refine List.any_eq_false.2 fun x hx there => ?_
  simp only [Bool.and_eq_true, decide_eq_true_eq] at there
  obtain ⟨⟨uncleared, same⟩, there⟩ := there
  refine h x.1 x.2 (tget_of_mem wf hx) uncleared same ?_
  split at there
  · next low => simpa [low] using there
  · next low => simpa [low] using there

/-- What requests for incidents leave of the register: the records as they were, and new ones of kinds that may be asked. -/
structure Ev.Raises (n : Nat) (may : IncidentKind → Option Nat → Prop) (tier : Tier) (e f : Ev) : Prop where
  old : ∀ k i, tget e.p.reg.table k = some i → tget f.p.reg.table k = some i
  fresh : ∀ k i, tget f.p.reg.table k = some i → tget e.p.reg.table k = none →
    i.Raised tier e.now e.p.reg.response1 ∧ may i.kind i.station ∧ e.lacks i.kind i.station tier
  few : f.p.reg.table.length ≤ e.p.reg.table.length + n
  wf : tableWf e.p.reg.table → tableWf f.p.reg.table
  now : f.now = e.now
  response : f.p.reg.response1 = e.p.reg.response1

/-- A new incident of a kind is there. -/
def Ev.finds (e : Ev) (kind : IncidentKind) (station : Option Nat) (tier : Tier) (f : Ev) : Prop :=
  ∃ k i, tget e.p.reg.table k = none ∧ tget f.p.reg.table k = some i ∧ i.kind = kind ∧ i.station = station
    ∧ i.Raised tier e.now e.p.reg.response1

section Raises
variable {n m : Nat} {may may' : IncidentKind → Option Nat → Prop} {tier : Tier} {e f g : Ev}

/-- What does not touch the register raises nothing. -/
theorem Ev.Raises.same (reg : f.p.reg = e.p.reg) (now : f.now = e.now) : Ev.Raises 0 may tier e f where
  old k i hi := by rw [reg]; exact hi
  fresh k i hi free := by
    rw [reg, free] at hi
    cases hi
  few := by rw [reg]; exact Nat.le_refl _
  wf h := by rw [reg]; exact h
  now := now
  response := by rw [reg]

theorem Ev.Within.raises {A : List Part} (w : Ev.Within A e f) (reg : Part.reg ∉ A := by decide) :
    Ev.Raises 0 may tier e f := .same (w.reg reg) w.now

theorem Ev.Raises.lacks (h : Ev.Raises n may tier e f) {kind : IncidentKind} {station : Option Nat} {t : Tier}
    (none : f.lacks kind station t) : e.lacks kind station t := fun k i hi => none k i (h.old k i hi)

theorem Ev.Raises.trans (h : Ev.Raises n may tier e f) (k : Ev.Raises m may tier f g) : Ev.Raises (n + m) may tier e g where
  old j i hi := k.old j i (h.old j i hi)
  fresh j i hi free := by
    cases hf : tget f.p.reg.table j with
    | none =>
      obtain ⟨raised, asked, none⟩ := k.fresh j i hi hf
      rw [h.now, h.response] at raised
      exact ⟨raised, asked, h.lacks none⟩
    | some x =>
      obtain rfl := Option.some.inj ((k.old j x hf).symm.trans hi)
      exact h.fresh j x hf free
  few := k.few.trans (by have := h.few; omega)
  wf w := k.wf (h.wf w)
  now := k.now.trans h.now
  response := k.response.trans h.response

theorem Ev.Raises.mono (h : Ev.Raises n may tier e f) (sub : ∀ kind station, may kind station → may' kind station)
    (more : n ≤ m) : Ev.Raises m may' tier e f where
  old := h.old
  fresh k i hi free := by
    obtain ⟨raised, asked, none⟩ := h.fresh k i hi free
    exact ⟨raised, sub _ _ asked, none⟩
  few := h.few.trans (by omega)
  wf := h.wf
  now := h.now
  response := h.response

/-- Where an incident is lacking and none of its kind may be asked, it is lacking still. -/
theorem Ev.Raises.lacks_after (h : Ev.Raises n may tier e f) {kind : IncidentKind} {station : Option Nat} {t : Tier}
    (none : e.lacks kind station t) (not : ∀ x, ¬ may kind x) : f.lacks kind station t := by
  intro k i hi uncleared same there
  cases he : tget e.p.reg.table k with
  | none =>
    obtain ⟨_, asked, _⟩ := h.fresh k i hi he
    exact not _ (same ▸ asked)
  | some x =>
    obtain rfl := Option.some.inj ((h.old k x he).symm.trans hi)
    exact none k x he uncleared same there

theorem Ev.finds.later {kind : IncidentKind} {station : Option Nat} (h : e.finds kind station tier f)
    (k : Ev.Raises n may tier f g) : e.finds kind station tier g := by
  obtain ⟨slot, i, free, hi, rest⟩ := h
  exact ⟨slot, i, free, k.old slot i hi, rest⟩

theorem Ev.finds.earlier {kind : IncidentKind} {station : Option Nat} (h : Ev.Raises n may tier e f)
    (k : f.finds kind station tier g) : e.finds kind station tier g := by
  obtain ⟨slot, i, free, hi, same, at_, raised⟩ := k
  refine ⟨slot, i, ?_, hi, same, at_, by rw [← h.now, ← h.response]; exact raised⟩
  cases he : tget e.p.reg.table slot with
  | none => rfl
  | some x => cases free.symm.trans (h.old slot x he)

end Raises

/-- A table with fewer records than keys has a free key. -/
theorem exists_free {α : Type} {t : Table α} {bound : Nat} (few : t.length < bound) : ∃ k < bound, tget t k = none := by
  by_contra full
  have sub : List.range bound ⊆ tkeys t := by
    intro k hk
    by_contra out
    refine full ⟨k, List.mem_range.1 hk, ?_⟩
    cases h : tget t k with
    | none => rfl
    | some v => exact absurd (tget_isSome_iff.1 (by rw [h]; rfl)) out
  have length := (List.nodup_range.subperm sub).length_le
  rw [List.length_range, tkeys, List.length_map] at length
  omega

section Ask
variable {e : Ev} (room : e.p.reg.table.length < Config.incidentSlots) (kind : IncidentKind) (station : Option Nat)
  (tier : Tier)

include room

/-- An incident asked for and lacking takes the lowest free slot (R84, R97). -/
theorem Ev.askIncident_of_lacking (lacking : e.p.reg.already kind station tier = false) :
    ∃ k id, tget e.p.reg.table k = none ∧ (e.askIncident kind station tier).p.reg.table = tset e.p.reg.table k
        { newIncident kind 1 (e.now + e.p.reg.response1) e.now with id := id, station := station, tier := some tier }
      ∧ (e.askIncident kind station tier).p.reg.response1 = e.p.reg.response1 := by
  obtain ⟨k, hk, free⟩ := exists_free room
  obtain ⟨slot, low⟩ := exists_lowestFree (Nat.zero_le k) hk free
  obtain ⟨_, _, free⟩ := lowestFree_some low
  have found : e.p.reg.freeSlot = some slot := by simp only [IncidentRegister.freeSlot, low]
  refine ⟨slot, e.p.reg.newId slot, ?_, ?_, ?_⟩
  · exact thas_eq_false_iff.1 (by simpa [thas] using free)
  all_goals simp [Ev.askIncident, lacking, Ev.openIncident, found, Ev.noteIncidentNew, Ev.note]

theorem Ev.askIncident_raises : Ev.Raises 1 (fun k s => k = kind ∧ s = station) tier e (e.askIncident kind station tier) := by
  cases asked : e.p.reg.already kind station tier with
  | true =>
    have same : e.askIncident kind station tier = e := if_pos asked
    rw [same]
    exact (Ev.Raises.same rfl rfl).mono (fun _ _ h => h) (Nat.zero_le 1)
  | false =>
    obtain ⟨slot, id, free, table, response⟩ := Ev.askIncident_of_lacking room kind station tier asked
    refine ⟨fun k i hi => ?_, fun k i hi none => ?_, ?_, fun wf => ?_, (Ev.askIncident_within _ _ _ _).now, response⟩
    · rw [table, tget_tset_other]
      · exact hi
      · rintro rfl
        cases free.symm.trans hi
    · rw [table, tget_tset] at hi
      split at hi
      · obtain rfl := Option.some.inj hi
        exact ⟨⟨rfl, rfl, rfl, rfl, rfl, rfl, rfl⟩, ⟨rfl, rfl⟩, Ev.lacks_of_not_already asked⟩
      · cases none.symm.trans hi
    · rw [table]
      exact tset_length _ _ _
    · rw [table]
      exact tableWf_tset wf _ _

theorem Ev.askIncident_finds (wf : tableWf e.p.reg.table) (none : e.lacks kind station tier) :
    e.finds kind station tier (e.askIncident kind station tier) := by
  obtain ⟨slot, id, free, table, _⟩ :=
    Ev.askIncident_of_lacking room kind station tier (Ev.not_already_of_lacks wf none)
  exact ⟨slot, _, free, by rw [table, tget_tset_same], rfl, rfl, ⟨rfl, rfl, rfl, rfl, rfl, rfl, rfl⟩⟩

end Ask

/-! ## The tier-low test (R74, R77) -/

section TierCheck
variable {e : Ev} (t : Tier)

theorem Ev.tierCheck_tierLow : (e.tierCheck t).p.mon.tierLow.at t
    = tierLowOf (e.p.mon.tierLow.at t) (e.p.mon.lowCount t) e.p.mon.threshold := by
  rw [Ev.tierCheck_mon]
  exact (PerTier.at_put _ _ _ _).trans (if_pos rfl)

/-- The condition becomes set: an incident is asked for. -/
theorem Ev.tierCheck_of_set (before : e.p.mon.tierLow.at t = false) (after : (e.tierCheck t).p.mon.tierLow.at t = true) :
    ∃ f : Ev, f.p.reg = e.p.reg ∧ f.now = e.now ∧ e.tierCheck t = f.askIncident .tierLow none t := by
  rw [Ev.tierCheck_tierLow] at after
  unfold Ev.tierCheck
  dsimp only
  rw [after, before, if_neg (by decide), if_pos rfl]
  refine ⟨_, ?_, ?_, rfl⟩
  · rfl
  · rfl

/-- Otherwise the register stays. -/
theorem Ev.tierCheck_of_unset (h : e.p.mon.tierLow.at t = true ∨ (e.tierCheck t).p.mon.tierLow.at t = false) :
    (e.tierCheck t).p.reg = e.p.reg := by
  rw [Ev.tierCheck_tierLow] at h
  unfold Ev.tierCheck
  dsimp only
  split
  · rfl
  · next changed =>
    split
    · next set_ => exact absurd (h.elim (fun before => set_.trans before.symm) fun after => absurd set_ (by simp [after])) changed
    · rfl

theorem Ev.tierCheck_raises (room : e.p.reg.table.length < Config.incidentSlots) :
    Ev.Raises 1 (fun k s => k = .tierLow ∧ s = none) t e (e.tierCheck t) := by
  by_cases set_ : e.p.mon.tierLow.at t = false ∧ (e.tierCheck t).p.mon.tierLow.at t = true
  · obtain ⟨f, reg, now, asks⟩ := Ev.tierCheck_of_set t set_.1 set_.2
    rw [asks]
    have first : Ev.Raises 0 (fun k s => k = .tierLow ∧ s = none) t e f := .same reg now
    exact (first.trans (Ev.askIncident_raises (reg ▸ room) _ _ _)).mono (fun _ _ h => h) (by omega)
  · refine (Ev.Raises.same (Ev.tierCheck_of_unset t ?_) (Ev.tierCheck_within _ _).now).mono (fun _ _ h => h) (by omega)
    cases hb : e.p.mon.tierLow.at t with
    | true => exact .inl rfl
    | false => exact .inr (by simpa [hb] using set_)

theorem Ev.tierCheck_finds (room : e.p.reg.table.length < Config.incidentSlots) (wf : tableWf e.p.reg.table)
    (none : e.lacks .tierLow none t) (before : e.p.mon.tierLow.at t = false)
    (after : (e.tierCheck t).p.mon.tierLow.at t = true) : e.finds .tierLow .none t (e.tierCheck t) := by
  obtain ⟨f, reg, now, asks⟩ := Ev.tierCheck_of_set t before after
  have first : Ev.Raises 0 (fun _ _ => False) t e f := .same reg now
  rw [asks]
  exact .earlier first (Ev.askIncident_finds (reg ▸ room) _ _ _ (reg ▸ wf) (first.lacks_after none fun _ h => h))

end TierCheck

/-! ## What an isolation does to incidents (R104, R105) -/

/-- What of an incident no isolation changes. -/
def Incident.core (i : Incident) : IncidentKind × Option Nat × Option Tier × Nat × Option Nat × Nat × Nat × Nat × List Nat :=
  (i.kind, i.station, i.tier, i.grade, i.pipe, i.opened, i.deadline, i.calls, i.refs)

/-- Every incident keeps it. -/
def Ev.keepsCores (e f : Ev) : Prop := ∀ k, (tget f.p.reg.table k).map Incident.core = (tget e.p.reg.table k).map Incident.core

section Cores
variable {e f g : Ev}

theorem Ev.keepsCores.refl (e : Ev) : e.keepsCores e := fun _ => rfl

theorem Ev.keepsCores.last (k : f.keepsCores g) (h : e.keepsCores f) : e.keepsCores g := fun j => (k j).trans (h j)

theorem Ev.keepsCores.ite {p : Prop} [Decidable p] (h : e.keepsCores f) (k : e.keepsCores g) :
    e.keepsCores (if p then f else g) := by
  split
  · exact h
  · exact k

theorem Ev.keepsCores.each {h : Nat → Ev → Ev} (step : ∀ k (e : Ev), e.keepsCores (h k e)) (e : Ev) (ks : List Nat) :
    e.keepsCores (e.each ks h) := by
  induction ks generalizing e with
  | nil => exact .refl e
  | cons k ks ih => exact .last (ih (h k e)) (step k e)

theorem Ev.Within.keepsCores {A : List Part} (w : Ev.Within A e f) (out : Part.reg ∉ A := by decide) : e.keepsCores f :=
  fun k => by rw [w.reg out]

theorem Ev.modIncident_keepsCores (e : Ev) (slot : Nat) {f : Incident → Incident} (hf : ∀ i, (f i).core = i.core) :
    e.keepsCores (e.modIncident slot f) := fun k => tget_tmod_map _ _ hf k

theorem Ev.madeSafe_keepsCores (e : Ev) (incident : Option Nat) (r : IsoRef) : e.keepsCores (e.madeSafe incident r) := by
  unfold Ev.madeSafe
  split
  · exact .refl e
  · exact .ite (e.modIncident_keepsCores _ fun _ => rfl) (.refl e)

theorem Ev.unlinkIncident_keepsCores (e : Ev) (incident : Option Nat) (r : IsoRef) :
    e.keepsCores (e.unlinkIncident incident r) := by
  unfold Ev.unlinkIncident
  split
  · exact .refl e
  · refine e.modIncident_keepsCores _ fun i => ?_
    split <;> rfl

theorem Ev.enterEffective_keepsCores (e : Ev) (slot : Nat) (cause : IsoCause) :
    e.keepsCores (e.enterEffective slot cause) := by
  unfold Ev.enterEffective
  split
  · exact .refl e
  · exact .last (Ev.askRecompute_within _).keepsCores (.last (Ev.madeSafe_keepsCores _ _ _)
      (.last (Ev.modIso_within _ slot (fun _ => rfl) fun _ => rfl).keepsCores (e.setIso_within _ _ _ _ _).keepsCores))

theorem Ev.decayCheck_keepsCores (e : Ev) (slot : Nat) : e.keepsCores (e.decayCheck slot) := by
  unfold Ev.decayCheck
  split
  · exact .refl e
  · exact .ite (.last (Ev.enterEffective_keepsCores _ _ _) (e.modIso_within slot (fun _ => rfl) fun _ => rfl).keepsCores)
      (.refl e)

theorem Ev.endIso_keepsCores (e : Ev) (slot : Nat) (new : IsoState) (cause : IsoCause) (other : Other) (left : Nat) :
    e.keepsCores (e.endIso slot new cause other left) := by
  unfold Ev.endIso
  split
  · exact .refl e
  · exact .last (.each (fun k e => (e.waitOver_within k).keepsCores) _ _)
      (.last (Ev.modIso_within _ slot (fun _ => rfl) fun _ => rfl).keepsCores
        (.last (Ev.unlinkIncident_keepsCores _ _ _) (e.setIso_within _ _ _ _ _).keepsCores))

theorem Ev.endOf_keepsCores (e : Ev) (slot : Nat) (cause : IsoCause) : e.keepsCores (e.endOf slot cause) := by
  cases hi : e.iso? slot with
  | none =>
    simp only [Ev.endOf, hi]
    exact .refl e
  | some i =>
    rw [Ev.endOf_eq hi]
    exact .last (Ev.endIso_keepsCores _ _ _ _ _ _) (.last (Ev.disowned_within _ _ _).keepsCores
      (Ev.woundUp_within _ _ _).keepsCores)

theorem Ev.completionCheck_keepsCores (e : Ev) (slot : Nat) : e.keepsCores (e.completionCheck slot) := by
  have ending (e : Ev) : e.keepsCores (e.endingCheck slot) := by
    unfold Ev.endingCheck
    split
    · exact .refl e
    · exact .ite (Ev.endOf_keepsCores _ _ _) (.refl e)
  unfold Ev.completionCheck
  split
  · exact .refl e
  · split
    · exact .refl e
    · exact .ite (.last (ending _) (.last (Ev.askRecompute_within _).keepsCores
        (.last (Ev.setIso_within _ _ _ _ _ _).keepsCores (e.modIso_within slot (fun _ => rfl) fun _ => rfl).keepsCores)))
        (.refl e)

theorem Ev.rampSample_keepsCores (e : Ev) (slot station : Nat) (s : Int) (t : Nat) :
    e.keepsCores (e.rampSample slot station s t) := by
  unfold Ev.rampSample
  split
  · exact .refl e
  · split
    · exact .refl e
    · refine .ite (e.completionCheck_keepsCores slot) ?_
      dsimp only
      split
      · exact .last (Ev.completionCheck_keepsCores _ _) (e.modIso_within slot (fun _ => rfl) fun _ => rfl).keepsCores
      · exact .last (Ev.completionCheck_keepsCores _ _) (.last (Ev.stall_within _ _ _ _ _ _).keepsCores
          (e.modIso_within slot (fun _ => rfl) fun _ => rfl).keepsCores)

theorem Ev.isolationTest_keepsCores (e : Ev) (slot station time : Nat) : e.keepsCores (e.isolationTest slot station time) := by
  unfold Ev.isolationTest
  split
  · split
    · exact e.decayCheck_keepsCores slot
    · exact (e.passingWatch_within _ _ _).keepsCores
    · exact e.rampSample_keepsCores _ _ _ _
    all_goals exact .refl e
  · exact .refl e

end Cores

end Sys2Proof.Machine
end

section
/-! An accepted sample (R63 to R70, R75 to R77): O27. -/

namespace Sys2Proof.Machine

-- One theorem after another: theorems checked side by side each hold a thread and its stack.
set_option Elab.async false

@[simp] theorem Ev.askIncident_mon (e : Ev) (kind : IncidentKind) (station : Option Nat) (tier : Tier) :
    (e.askIncident kind station tier).p.mon = e.p.mon := (e.askIncident_within _ _ _).mon (by decide)

/-! ## The stages at the stations (R66 to R70) -/

/-- The station of one id has a new record; other stations and the counters stay. -/
structure Ev.Rewrites (id : Nat) (x : Station) (e f : Ev) : Prop where
  own : f.station? id = some x
  others : ∀ k, k ≠ id → f.station? k = e.station? k
  counters : f.p.mon.counters = e.p.mon.counters

section Stages
variable {e f g : Ev} {id : Nat} {x y : Station}

theorem Ev.Rewrites.last (k : Ev.Rewrites id y f g) (h : Ev.Rewrites id x e f) : Ev.Rewrites id y e g where
  own := k.own
  others j ne := (k.others j ne).trans (h.others j ne)
  counters := k.counters.trans h.counters

/-- What leaves stations and counters as they are. -/
theorem Ev.Rewrites.quiet (h : Ev.Rewrites id x e f) (stations : g.p.mon.stations = f.p.mon.stations)
    (counters : g.p.mon.counters = f.p.mon.counters) : Ev.Rewrites id x e g where
  own := (congrArg (tget · id) stations).trans h.own
  others j ne := (congrArg (tget · j) stations).trans (h.others j ne)
  counters := counters.trans h.counters

theorem Ev.modRt_rewrites (h : e.station? id = some x) (u : StationRt → StationRt) :
    Ev.Rewrites id { x with rt := u x.rt } e (e.modRt id u) where
  own := Ev.modRt_station h u
  others j ne := (Ev.modRt_station? e id j u).trans (if_neg ne)
  counters := rfl

/-- The census after a new band (R66, R74). -/
def Ev.bandCensus (e : Ev) (id : Nat) (s : Station) : Ev :=
  if bandOf s.cfg s.rt.band s.rt.value = s.rt.band then e
  else
    ((e.modRt id fun r => { r with band := bandOf s.cfg s.rt.band s.rt.value }).note .bandChange id
      (be 1 s.rt.band.code ++ be 1 (bandOf s.cfg s.rt.band s.rt.value).code ++ bePu s.rt.value
        ++ beFlag (e.suppressed s.cfg))).tierCheck s.cfg.tier

/-- The incident of an entry to LOW_LOW or HIGH_HIGH (R76). -/
def Ev.bandIncident (e : Ev) (id : Nat) (s : Station) (quiet : Bool) : Ev :=
  if bandOf s.cfg s.rt.band s.rt.value = s.rt.band then e
  else if bandOf s.cfg s.rt.band s.rt.value = .lowLow then
    (if quiet then e else e.askIncident .pressureLoss (some id) s.cfg.tier)
  else if bandOf s.cfg s.rt.band s.rt.value = .highHigh then e.askIncident .overPressure (some id) s.cfg.tier
  else e

theorem Ev.bandStage_eq (e : Ev) (id : Nat) (s : Station) :
    e.bandStage id s = (e.bandCensus id s).bandIncident id s (e.suppressed s.cfg) := by
  unfold Ev.bandStage Ev.bandCensus Ev.bandIncident
  by_cases same : bandOf s.cfg s.rt.band s.rt.value = s.rt.band
  · simp only [same, if_true]
  · simp only [same, if_false]

theorem Ev.bandIncident_mon (e : Ev) (id : Nat) (s : Station) (quiet : Bool) : (e.bandIncident id s quiet).p.mon = e.p.mon := by
  unfold Ev.bandIncident
  split_ifs <;> simp

theorem Ev.bandCensus_rewrites (h : e.station? id = some x) :
    Ev.Rewrites id { x with rt := { x.rt with band := bandOf x.cfg x.rt.band x.rt.value } } e (e.bandCensus id x) := by
  unfold Ev.bandCensus
  split
  · next same =>
    rw [same]
    exact ⟨h, fun _ _ => rfl, rfl⟩
  · exact (Ev.modRt_rewrites h fun r => { r with band := bandOf x.cfg x.rt.band x.rt.value }).quiet
      (Ev.tierCheck_stations _ _) (Ev.tierCheck_counters _ _)

/-- The trend of a station written, with its notice (R68, R69). -/
def Ev.trendNoted (e : Ev) (id : Nat) (s : Station) (time : Nat) : Ev :=
  let r := s.rt.trend s.cfg.alarm time
  let f := e.modRt id fun x => { x with ring := r.ring, rate := r.rate, falling := r.falling }
  if r.falling && !s.rt.falling then f.note .falling id (beInt 4 r.rate ++ beFlag (f.suppressed s.cfg)) else f

/-- FALLING becomes set. -/
def Station.falls (s : Station) (time : Nat) : Bool := (s.rt.trend s.cfg.alarm time).falling && !s.rt.falling

theorem Ev.trendStage_eq (e : Ev) (id : Nat) (s : Station) (time : Nat) : e.trendStage id s time
    = if s.falls time && !e.suppressed s.cfg then (e.trendNoted id s time).askIncident .pressureFall (some id) s.cfg.tier
      else e.trendNoted id s time := by
  have same : (e.modRt id fun x => { x with
      ring := (s.rt.trend s.cfg.alarm time).ring, rate := (s.rt.trend s.cfg.alarm time).rate
      falling := (s.rt.trend s.cfg.alarm time).falling }).suppressed s.cfg = e.suppressed s.cfg := rfl
  unfold Ev.trendStage Ev.trendNoted Station.falls
  dsimp only
  rw [same]
  cases (s.rt.trend s.cfg.alarm time).falling && !s.rt.falling <;> cases e.suppressed s.cfg <;> rfl

theorem Ev.trendNoted_rewrites (h : e.station? id = some y) (s : Station) (time : Nat) :
    Ev.Rewrites id { y with rt := { y.rt with
      ring := (s.rt.trend s.cfg.alarm time).ring, rate := (s.rt.trend s.cfg.alarm time).rate
      falling := (s.rt.trend s.cfg.alarm time).falling } } e (e.trendNoted id s time) := by
  have written := Ev.modRt_rewrites h fun x => { x with
    ring := (s.rt.trend s.cfg.alarm time).ring, rate := (s.rt.trend s.cfg.alarm time).rate
    falling := (s.rt.trend s.cfg.alarm time).falling }
  unfold Ev.trendNoted
  dsimp only
  split
  · exact written.quiet rfl rfl
  · exact written

/-- The census after the freshness stage (R70, R74). -/
def Ev.freshCensus (e : Ev) (id : Nat) (s : Station) (suspect : Bool) (time : Nat) : Ev :=
  ((e.modRt id fun r => { r with freshness := if suspect then .suspect else .fresh, lastTime := some time }).count fun c =>
    { c with accepted := c.accepted + 1 }).tierCheck s.cfg.tier

theorem Ev.freshStage_eq (e : Ev) (id : Nat) (s : Station) (suspect : Bool) (time : Nat) : e.freshStage id s suspect time
    = (e.freshCensus id s suspect time).each ((e.freshCensus id s suspect time).sectionsOf s.cfg.node) fun slot e =>
      e.isolationTest slot id time := rfl

theorem Ev.freshTests_mon (e : Ev) (id time : Nat) (slots : List Nat) :
    (e.each slots fun slot e => e.isolationTest slot id time).p.mon = e.p.mon :=
  (Ev.Within.each (fun slot e => e.isolationTest_within slot id time) e slots).mon (by decide)

/-- The converted sample written, a clamp counted (R63 to R65). -/
def Ev.converted (e : Ev) (id : Nat) (s : Station) (raw : Nat) : Ev :=
  (if clampPu (scaleRaw s.cfg raw) = scaleRaw s.cfg raw then e else e.count fun c => { c with clamps := c.clamps + 1 }).modRt id
    fun _ => s.rt.convert s.cfg raw

/-- The station with a sample converted. -/
def Station.converted (s : Station) (raw : Nat) : Station := { s with rt := s.rt.convert s.cfg raw }

theorem Ev.pipeline_eq (e : Ev) (id : Nat) (s : Station) (raw : Nat) (suspect : Bool) (time : Nat) :
    e.pipeline id s raw suspect time = (((e.converted id s raw).bandStage id (s.converted raw)).trendStage id (s.converted raw)
      time).freshStage id (s.converted raw) suspect time := rfl

/-- A station that has carried a sample through every stage (R63 to R70). -/
def Station.sampled (s : Station) (raw : Nat) (suspect : Bool) (time : Nat) : Station :=
  { s with rt := { s.rt.convert s.cfg raw with
    band := bandOf s.cfg (s.converted raw).rt.band (s.converted raw).rt.value
    ring := ((s.converted raw).rt.trend s.cfg.alarm time).ring, rate := ((s.converted raw).rt.trend s.cfg.alarm time).rate
    falling := ((s.converted raw).rt.trend s.cfg.alarm time).falling
    freshness := if suspect then .suspect else .fresh, lastTime := some time } }

theorem Ev.bandStage_rewrites (h : e.station? id = some x) :
    Ev.Rewrites id { x with rt := { x.rt with band := bandOf x.cfg x.rt.band x.rt.value } } e (e.bandStage id x) := by
  have same := Ev.bandIncident_mon (e.bandCensus id x) id x (e.suppressed x.cfg)
  rw [Ev.bandStage_eq]
  exact (Ev.bandCensus_rewrites h).quiet (by rw [same]) (by rw [same])

theorem Ev.trendStage_rewrites (h : e.station? id = some y) (s : Station) (time : Nat) :
    Ev.Rewrites id { y with rt := { y.rt with
      ring := (s.rt.trend s.cfg.alarm time).ring, rate := (s.rt.trend s.cfg.alarm time).rate
      falling := (s.rt.trend s.cfg.alarm time).falling } } e (e.trendStage id s time) := by
  have noted := Ev.trendNoted_rewrites h s time
  rw [Ev.trendStage_eq]
  split
  · exact noted.quiet (by rw [Ev.askIncident_mon]) (by rw [Ev.askIncident_mon])
  · exact noted

theorem Ev.freshStage_mon (h : e.station? id = some y) (s : Station) (suspect : Bool) (time : Nat) :
    (e.freshStage id s suspect time).station? id = some { y with rt := { y.rt with
        freshness := if suspect then .suspect else .fresh, lastTime := some time } }
      ∧ (∀ k, k ≠ id → (e.freshStage id s suspect time).station? k = e.station? k)
      ∧ (e.freshStage id s suspect time).p.mon.counters
        = { e.p.mon.counters with accepted := e.p.mon.counters.accepted + 1 } := by
  have written := Ev.modRt_rewrites h fun r =>
    { r with freshness := if suspect then .suspect else .fresh, lastTime := some time }
  have tested := Ev.freshTests_mon (e.freshCensus id s suspect time) id time
    ((e.freshCensus id s suspect time).sectionsOf s.cfg.node)
  have stations (k : Nat) : (e.freshStage id s suspect time).station? k = (e.modRt id fun r =>
      { r with freshness := if suspect then .suspect else .fresh, lastTime := some time }).station? k := by
    rw [Ev.freshStage_eq, Ev.station?, tested]
    exact congrArg (tget · k) (Ev.tierCheck_stations _ _)
  refine ⟨(stations id).trans written.own, fun k ne => (stations k).trans (written.others k ne), ?_⟩
  rw [Ev.freshStage_eq, tested]
  exact Ev.tierCheck_counters _ _

/-- What an accepted sample leaves of the stations and the counters. -/
theorem Ev.pipeline_mon (h : e.station? id = some x) (raw : Nat) (suspect : Bool) (time : Nat) :
    (e.pipeline id x raw suspect time).station? id = some (x.sampled raw suspect time)
      ∧ (∀ k, k ≠ id → (e.pipeline id x raw suspect time).station? k = e.station? k)
      ∧ (e.pipeline id x raw suspect time).p.mon.counters = { e.p.mon.counters with
        accepted := e.p.mon.counters.accepted + 1
        clamps := e.p.mon.counters.clamps + if clampPu (scaleRaw x.cfg raw) = scaleRaw x.cfg raw then 0 else 1 } := by
  have counted : ∃ f : Ev, e.converted id x raw = f.modRt id (fun _ => x.rt.convert x.cfg raw)
      ∧ f.p.mon.stations = e.p.mon.stations ∧ f.p.mon.counters = { e.p.mon.counters with
        clamps := e.p.mon.counters.clamps + if clampPu (scaleRaw x.cfg raw) = scaleRaw x.cfg raw then 0 else 1 } := by
    unfold Ev.converted
    split
    · exact ⟨e, rfl, rfl, by simp⟩
    · exact ⟨_, rfl, rfl, rfl⟩
  obtain ⟨f, eq, stations, counters⟩ := counted
  have station? (k : Nat) : f.station? k = e.station? k := congrArg (tget · k) stations
  have converted : Ev.Rewrites id (x.converted raw) f (e.converted id x raw) :=
    eq ▸ Ev.modRt_rewrites ((station? id).trans h) fun _ => x.rt.convert x.cfg raw
  have banded := (Ev.bandStage_rewrites converted.own).last converted
  have trended := (Ev.trendStage_rewrites banded.own (x.converted raw) time).last banded
  obtain ⟨own, others, counters'⟩ := Ev.freshStage_mon trended.own (x.converted raw) suspect time
  rw [Ev.pipeline_eq]
  refine ⟨own, fun k ne => (others k ne).trans ((trended.others k ne).trans (station? k)), counters'.trans ?_⟩
  rw [trended.counters, counters]

end Stages

/-! ## The incidents of a sample (R76, R77, R97) -/

/-- The band of a station with a new value enters another one. -/
def Station.enters (s : Station) (b : Band) : Prop := bandOf s.cfg s.rt.band s.rt.value = b ∧ s.rt.band ≠ b

/-- The kinds of incidents that a station with a new value asks for (R76). -/
def Station.alarms (s : Station) (time : Nat) (quiet : Bool) (kind : IncidentKind) : Prop :=
  (kind = .pressureLoss ∧ s.enters .lowLow ∧ quiet = false)
    ∨ (kind = .pressureFall ∧ s.falls time = true ∧ quiet = false) ∨ (kind = .overPressure ∧ s.enters .highHigh)

section Incidents
variable {e f : Ev} (id : Nat) (s : Station) (time : Nat) (quiet : Bool)

theorem Ev.Within.suppressed {A : List Part} (w : Ev.Within A e f) (c : StationRec) (isos : Part.isos ∉ A := by decide)
    (nodes : Part.nodes ∉ A := by decide) (net : Part.net ∉ A := by decide) : f.suppressed c = e.suppressed c := by
  obtain ⟨state, _⟩ := w.net net
  rw [Ev.suppressed, Ev.suppressed, Ev.active, Ev.active, w.isos isos, w.nodes nodes, state]

theorem Ev.bandCensus_frame (e : Ev) : Ev.Within [.mon, .reg] e (e.bandCensus id s) := by
  unfold Ev.bandCensus
  split
  · exact .refl _ e
  · exact .last (Ev.tierCheck_within _ _) (.last (Ev.note_within _ _ _ _) (.of (e.modRt_within id fun _ h => h)))

theorem Ev.bandIncident_frame (e : Ev) : Ev.Within [.reg] e (e.bandIncident id s quiet) := by
  unfold Ev.bandIncident
  split_ifs
  · exact .refl _ e
  · exact .refl _ e
  · exact e.askIncident_within _ _ _
  · exact e.askIncident_within _ _ _
  · exact .refl _ e

/-- The incident of a new band. -/
theorem Ev.bandIncident_raises (room : e.p.reg.table.length < Config.incidentSlots) :
    Ev.Raises 1 (fun kind st => st = some id ∧ s.alarms time quiet kind ∧ kind ≠ .pressureFall) s.cfg.tier e (e.bandIncident id s quiet) := by
  have idle : Ev.Raises 1 (fun kind st => st = some id ∧ s.alarms time quiet kind ∧ kind ≠ .pressureFall) s.cfg.tier e e :=
    (Ev.Raises.same rfl rfl).mono (fun _ _ h => h) (Nat.zero_le 1)
  unfold Ev.bandIncident
  split
  · exact idle
  · next changed =>
    split
    · next low =>
      split
      · exact idle
      · next heard =>
        refine (Ev.askIncident_raises room _ _ _).mono
          (fun kind st asked => ⟨asked.2, .inl ⟨asked.1, ⟨low, ?_⟩, by simpa using heard⟩, by simp [asked.1]⟩) (Nat.le_refl 1)
        exact fun same => changed (low.trans same.symm)
    · split
      · next high =>
        refine (Ev.askIncident_raises room _ _ _).mono
          (fun kind st asked => ⟨asked.2, .inr (.inr ⟨asked.1, high, ?_⟩), by simp [asked.1]⟩) (Nat.le_refl 1)
        exact fun same => changed (high.trans same.symm)
      · exact idle

theorem Ev.bandIncident_finds (room : e.p.reg.table.length < Config.incidentSlots) (wf : tableWf e.p.reg.table)
    {kind : IncidentKind} (alarms : s.alarms time quiet kind) (band : kind ≠ .pressureFall)
    (none : e.lacks kind (some id) s.cfg.tier) : e.finds kind (some id) s.cfg.tier (e.bandIncident id s quiet) := by
  obtain ⟨rfl, ⟨low, entered⟩, heard⟩ | ⟨fall, _⟩ | ⟨rfl, high, entered⟩ := alarms
  · have asks : e.bandIncident id s quiet = e.askIncident .pressureLoss (some id) s.cfg.tier := by
      simp only [Ev.bandIncident, low, if_neg (Ne.symm entered), heard, if_true]
      rfl
    rw [asks]
    exact Ev.askIncident_finds room _ _ _ wf none
  · exact absurd fall band
  · have asks : e.bandIncident id s quiet = e.askIncident .overPressure (some id) s.cfg.tier := by
      simp only [Ev.bandIncident, high, if_neg (Ne.symm entered), if_true]
      rfl
    rw [asks]
    exact Ev.askIncident_finds room _ _ _ wf none

theorem Ev.trendNoted_reg (e : Ev) : (e.trendNoted id s time).p.reg = e.p.reg ∧ (e.trendNoted id s time).now = e.now := by
  unfold Ev.trendNoted
  dsimp only
  split <;> exact ⟨rfl, rfl⟩

theorem Ev.trendStage_raises (room : e.p.reg.table.length < Config.incidentSlots) (same : e.suppressed s.cfg = quiet) :
    Ev.Raises 1 (fun kind st => st = some id ∧ s.alarms time quiet kind) s.cfg.tier e (e.trendStage id s time) := by
  have noted := e.trendNoted_reg id s time
  rw [Ev.trendStage_eq]
  split
  · next falls =>
    simp only [Bool.and_eq_true, Bool.not_eq_true'] at falls
    have first : Ev.Raises 0 (fun kind st => st = some id ∧ s.alarms time quiet kind) s.cfg.tier e (e.trendNoted id s time) :=
      .same noted.1 noted.2
    have asked := Ev.askIncident_raises (e := e.trendNoted id s time) (by rw [noted.1]; exact room) .pressureFall (some id)
      s.cfg.tier
    exact (first.trans (asked.mono (fun kind st asked => ⟨asked.2, .inr (.inl ⟨asked.1, falls.1, same ▸ falls.2⟩)⟩)
      (Nat.le_refl 1))).mono (fun _ _ h => h) (by omega)
  · exact (Ev.Raises.same noted.1 noted.2).mono (fun _ _ h => h) (Nat.zero_le 1)

theorem Ev.trendStage_finds (room : e.p.reg.table.length < Config.incidentSlots) (wf : tableWf e.p.reg.table)
    (same : e.suppressed s.cfg = quiet) (alarms : s.alarms time quiet .pressureFall)
    (none : e.lacks .pressureFall (some id) s.cfg.tier) :
    e.finds .pressureFall (some id) s.cfg.tier (e.trendStage id s time) := by
  obtain ⟨reg, now⟩ := e.trendNoted_reg id s time
  obtain ⟨falls, heard⟩ : s.falls time = true ∧ quiet = false := by simpa [Station.alarms] using alarms
  have first : Ev.Raises 0 (fun _ _ => False) s.cfg.tier e (e.trendNoted id s time) := .same reg now
  rw [Ev.trendStage_eq, if_pos (by rw [falls, same, heard]; rfl)]
  exact .earlier first (Ev.askIncident_finds (by rw [reg]; exact room) _ _ _ (first.wf wf) (first.lacks_after none fun _ h => h))

end Incidents

/-! ## The register after a sample -/

section Register
variable {e : Ev} {id : Nat} {x : Station} (room : e.p.reg.table.length ≤ 253) (wf : tableWf e.p.reg.table) (raw time : Nat)
  (suspect : Bool)

/-- The condition of the tier after the band stage: unset, the register stays. -/
theorem Ev.bandCensus_of_unset (s : Station) (h : e.p.mon.tierLow.at s.cfg.tier = true
    ∨ (e.bandCensus id s).p.mon.tierLow.at s.cfg.tier = false) : (e.bandCensus id s).p.reg = e.p.reg := by
  unfold Ev.bandCensus at h ⊢
  split
  · rfl
  · next changed =>
    rw [if_neg changed] at h
    exact Ev.tierCheck_of_unset _ h

theorem Ev.bandCensus_raises (s : Station) (room : e.p.reg.table.length < Config.incidentSlots) :
    Ev.Raises 1 (fun k st => k = .tierLow ∧ st = none) s.cfg.tier e (e.bandCensus id s) := by
  unfold Ev.bandCensus
  split
  · exact (Ev.Raises.same rfl rfl).mono (fun _ _ h => h) (Nat.zero_le 1)
  · have noted (f : Ev) (reg : f.p.reg = e.p.reg) (now : f.now = e.now) :
        Ev.Raises 1 (fun k st => k = .tierLow ∧ st = none) s.cfg.tier e (f.tierCheck s.cfg.tier) :=
      ((Ev.Raises.same reg now).trans (Ev.tierCheck_raises _ (by rw [reg]; exact room))).mono (fun _ _ h => h) (by omega)
    exact noted _ rfl rfl

theorem Ev.bandCensus_finds (s : Station) (room : e.p.reg.table.length < Config.incidentSlots) (wf : tableWf e.p.reg.table)
    (none : e.lacks .tierLow none s.cfg.tier) (before : e.p.mon.tierLow.at s.cfg.tier = false)
    (after : (e.bandCensus id s).p.mon.tierLow.at s.cfg.tier = true) :
    e.finds .tierLow .none s.cfg.tier (e.bandCensus id s) := by
  unfold Ev.bandCensus at after ⊢
  split
  · next same =>
    rw [if_pos same, before] at after
    cases after
  · next changed =>
    rw [if_neg changed] at after
    have noted (f : Ev) (reg : f.p.reg = e.p.reg) (now : f.now = e.now) (mon : f.p.mon.tierLow = e.p.mon.tierLow)
        (after : (f.tierCheck s.cfg.tier).p.mon.tierLow.at s.cfg.tier = true) :
        e.finds .tierLow .none s.cfg.tier (f.tierCheck s.cfg.tier) := by
      have first : Ev.Raises 0 (fun _ _ => False) s.cfg.tier e f := .same reg now
      exact .earlier first (Ev.tierCheck_finds _ (by rw [reg]; exact room) (first.wf wf)
        (first.lacks_after none fun _ h => h) (by rw [mon]; exact before) after)
    exact noted _ rfl rfl rfl after

/-- The census of the freshness stage, the register as the condition goes. -/
theorem Ev.freshCensus_asks (C : Ev) (s : Station) : ∃ f : Ev, f.p.reg = C.p.reg ∧ f.now = C.now
    ∧ f.p.mon.tierLow = C.p.mon.tierLow ∧ C.freshCensus id s suspect time = f.tierCheck s.cfg.tier := by
  refine ⟨_, ?_, ?_, ?_, rfl⟩
  · rfl
  · rfl
  · rfl

theorem Ev.trendStage_tierLow (B : Ev) (s : Station) : (B.trendStage id s time).p.mon.tierLow = B.p.mon.tierLow := by
  have noted : (B.trendNoted id s time).p.mon.tierLow = B.p.mon.tierLow := by
    unfold Ev.trendNoted
    dsimp only
    split <;> rfl
  rw [Ev.trendStage_eq]
  split
  · rw [Ev.askIncident_mon]
    exact noted
  · exact noted

/-- The two tier-low tests of a sample ask for one incident between them (R77). -/
theorem Ev.census_raises {may : IncidentKind → Option Nat → Prop} (room : e.p.reg.table.length ≤ 253) (s : Station) {C : Ev}
    (tierLow : C.p.mon.tierLow = (e.bandCensus id s).p.mon.tierLow)
    (stages : Ev.Raises 2 may s.cfg.tier (e.bandCensus id s) C) : ∃ n m, n + m ≤ 1
      ∧ Ev.Raises n (fun k st => k = .tierLow ∧ st = none) s.cfg.tier e (e.bandCensus id s)
      ∧ Ev.Raises m (fun k st => k = .tierLow ∧ st = none) s.cfg.tier C (C.freshCensus id s suspect time) := by
  obtain ⟨f, reg, now, held, asks⟩ := Ev.freshCensus_asks (id := id) time suspect C s
  have first : Ev.Raises 0 (fun k st => k = .tierLow ∧ st = none) s.cfg.tier C f := .same reg now
  by_cases unset : e.p.mon.tierLow.at s.cfg.tier = true ∨ (e.bandCensus id s).p.mon.tierLow.at s.cfg.tier = false
  · have same := Ev.bandCensus_of_unset s unset
    have small : C.p.reg.table.length < Config.incidentSlots := by
      have few := stages.few
      rw [same] at few
      exact Nat.lt_of_le_of_lt (few.trans (Nat.add_le_add_right room 2)) (by decide)
    refine ⟨0, 1, Nat.le_refl 1, .same same (Ev.bandCensus_frame id s e).now, ?_⟩
    rw [asks]
    exact (first.trans (Ev.tierCheck_raises _ (by rw [reg]; exact small))).mono (fun _ _ h => h) (by omega)
  · refine ⟨1, 0, Nat.le_refl 1, Ev.bandCensus_raises s (Nat.lt_of_le_of_lt room (by decide)), ?_⟩
    have held : f.p.mon.tierLow.at s.cfg.tier = true := by
      rw [held, tierLow]
      simpa using (not_or.1 unset).2
    rw [asks]
    exact first.trans (.same (Ev.tierCheck_of_unset _ (.inl held)) (Ev.tierCheck_within _ _).now)

/-- The incidents a sample opens: those its station asks for, and that of its tier. -/
theorem Ev.stages_incidents (room : e.p.reg.table.length ≤ 253) (wf : tableWf e.p.reg.table) (s : Station) : ∃ D : Ev,
    Ev.Raises 3 (fun kind st => (kind = .tierLow ∧ st = none)
      ∨ (st = some id ∧ s.alarms time (e.suppressed s.cfg) kind)) s.cfg.tier e D
    ∧ (∀ kind, s.alarms time (e.suppressed s.cfg) kind → e.lacks kind (some id) s.cfg.tier →
      e.finds kind (some id) s.cfg.tier D)
    ∧ (e.p.mon.tierLow.at s.cfg.tier = false → D.p.mon.tierLow.at s.cfg.tier = true → e.lacks .tierLow none s.cfg.tier →
      e.finds .tierLow none s.cfg.tier D)
    ∧ D.keepsCores (((e.bandStage id s).trendStage id s time).freshStage id s suspect time)
    ∧ (((e.bandStage id s).trendStage id s time).freshStage id s suspect time).p.mon = D.p.mon := by
  rw [Ev.bandStage_eq, Ev.freshStage_eq]
  have census := Ev.bandCensus_raises (id := id) (e := e) s (Nat.lt_of_le_of_lt room (by decide))
  have few := census.few.trans (Nat.add_le_add_right room 1)
  have frame := Ev.bandCensus_frame id s e
  have set_ := Ev.bandCensus_finds (id := id) (e := e) s (Nat.lt_of_le_of_lt room (by decide)) wf
  have unset := Ev.bandCensus_of_unset (id := id) (e := e) s
  have both := fun {may C} => Ev.census_raises (id := id) time suspect (may := may) room (e := e) s (C := C)
  generalize e.bandCensus id s = A at census few frame set_ unset both
  have alarm := Ev.bandIncident_raises id s time (e.suppressed s.cfg) (Nat.lt_of_le_of_lt few (by decide))
  have alarmed := fun wf {kind} => Ev.bandIncident_finds id s time (e.suppressed s.cfg)
    (Nat.lt_of_le_of_lt few (by decide)) wf (kind := kind)
  have sameA := A.bandIncident_mon id s (e.suppressed s.cfg)
  have frame := (A.bandIncident_frame id s (e.suppressed s.cfg)).last frame
  generalize A.bandIncident id s (e.suppressed s.cfg) = B at alarm alarmed sameA frame
  have few := alarm.few.trans (Nat.add_le_add_right few 1)
  have fall := Ev.trendStage_raises id s time (e.suppressed s.cfg) (Nat.lt_of_le_of_lt few (by decide)) (frame.suppressed s.cfg)
  have fallen := fun wf => Ev.trendStage_finds id s time (e.suppressed s.cfg) (Nat.lt_of_le_of_lt few (by decide)) wf
    (frame.suppressed s.cfg)
  have sameB := Ev.trendStage_tierLow (id := id) time B s
  generalize B.trendStage id s time = C at fall fallen sameB
  have stages : Ev.Raises 2 (fun kind st => st = some id ∧ s.alarms time (e.suppressed s.cfg) kind) s.cfg.tier A C :=
    (alarm.mono (fun _ _ h => ⟨h.1, h.2.1⟩) (Nat.le_refl 1)).trans fall
  have tierLow : C.p.mon.tierLow = A.p.mon.tierLow := by rw [sameB, sameA]
  obtain ⟨n, m, sum, rA, rD⟩ := both tierLow stages
  have other (kind : IncidentKind) (alarms : s.alarms time (e.suppressed s.cfg) kind) : kind ≠ .tierLow := by
    obtain ⟨rfl, _⟩ | ⟨rfl, _⟩ | ⟨rfl, _⟩ := alarms <;> decide
  refine ⟨C.freshCensus id s suspect time, ?_, fun kind alarms none => ?_, fun before after none => ?_,
    .each (fun slot e => e.isolationTest_keepsCores slot id time) _ _, Ev.freshTests_mon _ _ _ _⟩
  · exact (((rA.mono (fun _ _ h => .inl h) (Nat.le_refl n)).trans (stages.mono (fun _ _ h => .inr h) (Nat.le_refl 2))).trans
      (rD.mono (fun _ _ h => .inl h) (Nat.le_refl m))).mono (fun _ _ h => h) (by omega)
  · have lackA := rA.lacks_after none fun _ asked => other kind alarms asked.1
    by_cases falls : kind = .pressureFall
    · subst falls
      have lackB := alarm.lacks_after lackA fun _ asked => asked.2.2 rfl
      exact (Ev.finds.earlier rA (.earlier alarm (fallen (alarm.wf (rA.wf wf)) alarms lackB))).later rD
    · exact (Ev.finds.earlier rA ((alarmed (rA.wf wf) alarms falls lackA).later fall)).later rD
  · cases held : A.p.mon.tierLow.at s.cfg.tier with
    | true => exact ((set_ none before held).later stages).later rD
    | false =>
      have first : Ev.Raises 0 (fun _ _ => False) s.cfg.tier e A := .same (unset (.inr held)) census.now
      have lackC := stages.lacks_after (first.lacks_after none fun _ h => h) fun _ asked => other _ asked.2 rfl
      obtain ⟨f, reg, now, heldC, asks⟩ := Ev.freshCensus_asks (id := id) time suspect C s
      have same : Ev.Raises 0 (fun _ _ => False) s.cfg.tier C f := .same reg now
      have small : f.p.reg.table.length < Config.incidentSlots := by
        rw [reg]
        exact Nat.lt_of_le_of_lt (stages.few.trans (Nat.add_le_add_right (first.few.trans room) 2)) (by decide)
      rw [asks] at after ⊢
      have found := Ev.tierCheck_finds _ small (same.wf (stages.wf (first.wf wf))) (same.lacks_after lackC fun _ h => h)
        (by rw [heldC, tierLow]; exact held) after
      exact .earlier first (.earlier stages (.earlier same found))

end Register

/-! ## TELEMETRY with an accepted sample (R59) -/

theorem StationRt.convert_eq (r : StationRt) (c : StationRec) (raw : Nat) : r.convert c raw = { r with
    lastRaw := raw, lastConverted := clampPu (scaleRaw c raw)
    s16 := if r.freshness = .fresh ∨ r.freshness = .suspect then smooth c.k r.s16 (clampPu (scaleRaw c raw))
      else 16 * clampPu (scaleRaw c raw)
    ring := if r.freshness = .fresh ∨ r.freshness = .suspect then r.ring else []
    rate := if r.freshness = .fresh ∨ r.freshness = .suspect then r.rate else 0
    falling := if r.freshness = .fresh ∨ r.freshness = .suspect then r.falling else false } := by
  by_cases live : r.freshness = .fresh ∨ r.freshness = .suspect
  · simp only [StationRt.convert, StationRt.nonStale, if_pos live]
    exact if_pos (by simpa using live)
  · simp only [StationRt.convert, StationRt.nonStale, if_neg live]
    exact if_neg (by simpa using live)

/-- A report of one sample over an OK path, in order and not faulty, with the deadline it sets (R60, R70). -/
def Ev.telemetered (e : Ev) (id : Nat) (x : Station) (raw time : Nat) : Ev :=
  ((e.reported id).pipeline id { x with rt := { x.rt with accepted := x.rt.accepted + 1 } } raw false time).modRt id fun r =>
    { r with deadline := some (e.now + x.cfg.interval * x.cfg.multiple) }

theorem Ev.takeReport_of_accepted {e : Ev} {id raw age : Nat} {x : Station} (hx : e.station? id = some x)
    (screened : rawFaulty raw = false) (order : ∀ t0, x.rt.lastTime = some t0 → t0 < e.now - age) :
    e.takeReport id x .ok [(raw, age)]
      = (e.telemetered id x raw (e.now - age), ⟨.ok, be 2 1 ++ be 2 0 ++ be 1 1⟩) := by
  have station := Ev.reported_station hx
  have sampled := (Ev.sample_inOrder (suspect := false) (raw := raw) station order).trans (if_neg (by simp [screened]))
  have now : ((e.reported id).pipeline id { x with rt := { x.rt with accepted := x.rt.accepted + 1 } } raw false
      (e.now - age)).now = e.now := (Ev.pipeline_within station raw false (e.now - age)).now
  have report : (e.reported id).report id x .ok [(raw, age)] = (e.telemetered id x raw (e.now - age), 1, 0) := by
    refine (Ev.usedPath_of_accepted sampled x).trans ?_
    rw [show ((e.reported id).now - age) = e.now - age from rfl, now]
    rfl
  have own := (Ev.pipeline_mon station raw false (e.now - age)).1
  exact Ev.takeReport_eq report (congrArg (Option.map fun y => y.rt.freshness) (Ev.modRt_station own _))

theorem Ev.suppressed_iff (e : Ev) (c : StationRec) : e.suppressed c = true ↔ ∃ n, c.node = some n
    ∧ ((e.p.net.state = .active ∧ ∃ y, tget e.p.net.nodes n = some y ∧ y.fed = false)
      ∨ ∃ y ∈ e.p.ctl.isos, n ∈ y.2.nodes ∧ (y.2.state = .verifying ∨ y.2.state = .effective
        ∨ y.2.state = .restoring ∨ y.2.state = .relighting)) := by
  have shuts (st : IsoState) : st.suppresses = true
      ↔ st = .verifying ∨ st = .effective ∨ st = .restoring ∨ st = .relighting := by cases st <;> simp [IsoState.suppresses]
  unfold Ev.suppressed
  cases c.node with
  | none => simp
  | some n => simp [Ev.active, shuts, Option.any_eq_true, and_comm]

/-- The station when a report on it was counted (R59). -/
def Station.counted (x : Station) : Station := { x with rt := { x.rt with accepted := x.rt.accepted + 1 } }

/-- The incidents of a report with one accepted sample. -/
theorem Ev.telemetered_incidents {e : Ev} {id : Nat} (x : Station) (room : e.p.reg.table.length ≤ 253)
    (wf : tableWf e.p.reg.table) (raw time : Nat) : ∃ D : Ev,
    Ev.Raises 3 (fun kind st => (kind = .tierLow ∧ st = none)
      ∨ (st = some id ∧ (x.counted.converted raw).alarms time (e.suppressed x.cfg) kind)) x.cfg.tier e D
    ∧ (∀ kind, (x.counted.converted raw).alarms time (e.suppressed x.cfg) kind → e.lacks kind (some id) x.cfg.tier →
      e.finds kind (some id) x.cfg.tier D)
    ∧ (e.p.mon.tierLow.at x.cfg.tier = false → D.p.mon.tierLow.at x.cfg.tier = true → e.lacks .tierLow none x.cfg.tier →
      e.finds .tierLow none x.cfg.tier D)
    ∧ D.keepsCores (e.telemetered id x raw time)
    ∧ (e.telemetered id x raw time).p.mon.tierLow = D.p.mon.tierLow := by
  have start : ∃ c : Ev, (e.reported id).converted id x.counted raw = c ∧ c.p.reg = e.p.reg ∧ c.now = e.now
      ∧ c.p.mon.tierLow = e.p.mon.tierLow ∧ c.suppressed x.cfg = e.suppressed x.cfg := by
    unfold Ev.converted
    split <;> exact ⟨_, rfl, rfl, rfl, rfl, rfl⟩
  obtain ⟨c, converted, reg, now, tierLow, quiet⟩ := start
  have first : Ev.Raises 0 (fun _ _ => False) x.cfg.tier e c := .same reg now
  obtain ⟨D, raises, finds, set_, cores, mon⟩ := Ev.stages_incidents (id := id) (e := c) time false (by rw [reg]; exact room)
    (first.wf wf) (x.counted.converted raw)
  have quiet : c.suppressed (x.counted.converted raw).cfg = e.suppressed x.cfg := quiet
  rw [quiet] at raises finds
  have eq : e.telemetered id x raw time = Ev.modRt _ id fun r =>
      { r with deadline := some (e.now + x.cfg.interval * x.cfg.multiple) } :=
    congrArg (fun f : Ev => Ev.modRt f id fun r => { r with deadline := some (e.now + x.cfg.interval * x.cfg.multiple) })
      ((Ev.pipeline_eq (e.reported id) id x.counted raw false time).trans (by rw [converted]))
  refine ⟨D, ?_, fun kind alarms none => ?_, fun before after none => ?_, ?_, ?_⟩
  · exact (Ev.Raises.trans (.same reg now) raises).mono (fun _ _ h => h) (by omega)
  · exact .earlier first (finds kind alarms (first.lacks_after none fun _ h => h))
  · exact .earlier first (set_ (by rw [tierLow]; exact before) after (first.lacks_after none fun _ h => h))
  · rw [eq]
    exact cores
  · rw [eq]
    have low := congrArg StationMonitor.tierLow mon
    exact low

/-- What a report with one accepted sample leaves of the stations and the counters. -/
theorem Ev.telemetered_mon {e : Ev} {id : Nat} {x : Station} (hx : e.station? id = some x) (raw time : Nat) :
    (e.telemetered id x raw time).station? id = some { x with rt := { (x.counted.sampled raw false time).rt with
        deadline := some (e.now + x.cfg.interval * x.cfg.multiple) } }
      ∧ (∀ k, k ≠ id → (e.telemetered id x raw time).station? k = e.station? k)
      ∧ (e.telemetered id x raw time).p.mon.counters = { e.p.mon.counters with
        reports := e.p.mon.counters.reports + 1, accepted := e.p.mon.counters.accepted + 1
        clamps := e.p.mon.counters.clamps + if clampPu (scaleRaw x.cfg raw) = scaleRaw x.cfg raw then 0 else 1 } := by
  obtain ⟨own, others, counters⟩ := Ev.pipeline_mon (Ev.reported_station hx) raw false time
  refine ⟨Ev.modRt_station own _, fun k ne => ?_, counters⟩
  exact (Ev.modRt_station? _ _ _ _).trans ((if_neg ne).trans ((others k ne).trans
    ((Ev.modRt_station? _ _ _ _).trans (if_neg ne))))

theorem Incident.Raised.of_core {tier : Tier} {now response : Nat} {i j : Incident} (h : i.Raised tier now response)
    (same : j.core = i.core) : j.Raised tier now response := by
  obtain ⟨grade, tier, pipe, opened, deadline, calls, refs⟩ := h
  simp only [Incident.core, Prod.mk.injEq] at same
  obtain ⟨_, _, tier', grade', pipe', opened', deadline', calls', refs'⟩ := same
  exact ⟨grade'.trans grade, tier'.trans tier, pipe'.trans pipe, opened'.trans opened, deadline'.trans deadline,
    calls'.trans calls, refs'.trans refs⟩

section Kept
variable {e f g : Ev} {kind : IncidentKind} {station : Option Nat} {tier : Tier}

theorem Ev.keepsCores.before (h : f.keepsCores g) {k : Nat} {i : Incident} (hi : tget g.p.reg.table k = some i) :
    ∃ j, tget f.p.reg.table k = some j ∧ j.kind = i.kind ∧ j.station = i.station := by
  have same := h k
  rw [hi] at same
  obtain ⟨j, hj, core⟩ := Option.map_eq_some_iff.1 same.symm
  simp only [Incident.core, Prod.mk.injEq] at core
  exact ⟨j, hj, core.1, core.2.1⟩

theorem Ev.finds.kept (h : e.finds kind station tier f) (k : f.keepsCores g) : e.finds kind station tier g := by
  obtain ⟨slot, i, free, hi, rfl, rfl, raised⟩ := h
  have same := k slot
  rw [hi] at same
  obtain ⟨j, hj, core⟩ := Option.map_eq_some_iff.1 same
  refine ⟨slot, j, free, hj, ?_, ?_, raised.of_core core⟩
  all_goals simp only [Incident.core, Prod.mk.injEq] at core
  · exact core.1
  · exact core.2.1

/-- A record of a kind is new only where one was asked for and lacking. -/
theorem Ev.Raises.found {n : Nat} {may : IncidentKind → Option Nat → Prop} (h : Ev.Raises n may tier e f) (k : f.keepsCores g)
    {slot : Nat} {i : Incident} (hi : tget g.p.reg.table slot = some i) :
    (∃ j, tget e.p.reg.table slot = some j ∧ j.kind = i.kind ∧ j.station = i.station)
      ∨ (may i.kind i.station ∧ e.lacks i.kind i.station tier) := by
  obtain ⟨j, hj, kind, station⟩ := k.before hi
  cases he : tget e.p.reg.table slot with
  | none =>
    obtain ⟨_, asked, none⟩ := h.fresh slot j hj he
    rw [kind, station] at asked none
    exact .inr ⟨asked, none⟩
  | some x =>
    obtain rfl := Option.some.inj ((h.old slot x he).symm.trans hj)
    exact .inl ⟨x, rfl, kind, station⟩

end Kept

/-- Settles O27: stage by stage at the station, and the incidents of its stages in the register. -/
theorem telemetrySampleAccepted : Obligations.TelemetrySampleAccepted := by
  unfold Obligations.TelemetrySampleAccepted
  intro s f x h hl path hn hx id raw time low high order p live s16 value ring rate
  have screened : rawFaulty raw = false := by simp [rawFaulty]; omega
  obtain ⟨c, taken⟩ : ∃ c, s.ev.takeReport id x .ok [(raw, field f.payload 6 2)] = (s.ev.telemetered id x raw time, c) :=
    ⟨_, Ev.takeReport_of_accepted hx screened order⟩
  have run : exec .telemetry s = .next (s.taken f (s.ev.telemetered id x raw time, c)) := by
    rw [exec_telemetry_taken (path := .ok) h (by omega) (by rw [path]; rfl) (by omega) (by omega) hx, samplesOf_one hn]
    exact congrArg (fun r => Host.Outcome.next (s.taken f r)) taken
  have frame : Ev.Within Part.reports s.ev (s.ev.telemetered id x raw time) := by
    have whole := s.ev.takeReport_within id x .ok [(raw, field f.payload 6 2)]
    rw [taken] at whole
    exact whole
  obtain ⟨own, others, counters⟩ := Ev.telemetered_mon (e := s.ev) hx raw time
  have incidents := fun room wf => Ev.telemetered_incidents (e := s.ev) (id := id) x room wf raw time
  have alarms (quiet : Bool) (kind : IncidentKind) : (x.counted.converted raw).alarms time quiet kind ↔
      (kind = .pressureLoss ∧ (bandOf x.cfg x.rt.band value = .lowLow ∧ x.rt.band ≠ .lowLow) ∧ quiet = false)
      ∨ (kind = .pressureFall ∧ (fallingOf x.cfg.alarm rate (if live then x.rt.falling else false) = true
        ∧ ¬(live ∧ x.rt.falling = true)) ∧ quiet = false)
      ∨ (kind = .overPressure ∧ bandOf x.cfg x.rt.band value = .highHigh ∧ x.rt.band ≠ .highHigh) := by
    have enters (b : Band) : (x.counted.converted raw).enters b ↔ bandOf x.cfg x.rt.band value = b ∧ x.rt.band ≠ b := by
      simp only [Station.enters, Station.converted, StationRt.convert_eq]
      rfl
    have falls : (x.counted.converted raw).falls time = true
        ↔ fallingOf x.cfg.alarm rate (if live then x.rt.falling else false) = true ∧ ¬(live ∧ x.rt.falling = true) := by
      have eq : (x.counted.converted raw).falls time = (fallingOf x.cfg.alarm rate (if live then x.rt.falling else false)
          && !(if live then x.rt.falling else false)) := by
        simp only [Station.falls, Station.converted, StationRt.convert_eq, StationRt.trend]
        rfl
      rw [eq]
      by_cases fresh : live <;> simp [fresh]
    simp only [Station.alarms, enters, falls]
  have rt : (x.counted.sampled raw false time).rt = { x.rt with
          freshness := .fresh, lastRaw := raw, lastConverted := p, s16 := s16, band := bandOf x.cfg x.rt.band value
          ring := ring, rate := rate
          falling := fallingOf x.cfg.alarm rate (if live then x.rt.falling else false)
          accepted := x.rt.accepted + 1, lastTime := some time } := by
    simp only [Station.sampled, Station.counted, Station.converted, StationRt.convert_eq, StationRt.trend]
    rfl
  rw [rt] at own
  generalize s.ev.telemetered id x raw time = e at run frame own others counters incidents
  have all : Ev.Within Part.reports s.ev e.settle := .last (Ev.settle_within _) frame
  refine ⟨_, run, ?_, fun k ne => ?_, ?_, all.nodes (by decide), all.links (by decide), fun keyed room => ?_⟩
  · rw [State.taken_plant, Ev.settle_mon]
    exact own
  · rw [State.taken_plant, Ev.settle_mon]
    exact others k ne
  · rw [State.taken_plant, Ev.settle_mon]
    exact counters
  obtain ⟨_, _, _, _, wf, _⟩ := keyed
  obtain ⟨D, raises, finds, set_, cores, held⟩ := incidents room wf
  intro entered fell quiet wanted there isNew
  have asks (kind : IncidentKind) : (x.counted.converted raw).alarms time (s.ev.suppressed x.cfg) kind ↔ wanted kind := by
    have heard : s.ev.suppressed x.cfg = false ↔ ¬ quiet := by
      rw [← Bool.not_eq_true]
      exact not_congr (s.ev.suppressed_iff x.cfg)
    rw [alarms, heard]
  simp only [asks] at raises finds
  have opened {kind : IncidentKind} {st : Option Nat} (found : s.ev.finds kind st x.cfg.tier e) :
      ∃ k i, tget e.p.reg.table k = some i ∧ i.kind = kind ∧ i.station = st ∧ isNew i k := by
    obtain ⟨k, i, free, hi, kind, st, ⟨grade, tier, pipe, opened, deadline, calls, refs⟩⟩ := found
    exact ⟨k, i, hi, kind, st, free, grade, tier, pipe, opened, deadline, calls, refs⟩
  have table : (s.taken f (e, c)).plant.reg.table = e.p.reg.table := by rw [State.taken_plant, Ev.settle_reg]
  have tierLow : (s.taken f (e, c)).plant.mon.tierLow = D.p.mon.tierLow := by rw [State.taken_plant, Ev.settle_mon, held]
  have isOf {kind : IncidentKind} (among : kind ∈ [IncidentKind.pressureLoss, .pressureFall, .overPressure]) :
      kind ≠ .tierLow := by
    rintro rfl
    exact absurd among (by decide)
  have lacks {kind : IncidentKind} (among : kind ∈ [IncidentKind.pressureLoss, .pressureFall, .overPressure]) :
      s.ev.lacks kind (some id) x.cfg.tier ↔ ¬ there kind := by
    constructor
    · rintro none ⟨k, i, hi, uncleared, same, st⟩
      exact none k i hi (by simpa [Incident.uncleared] using uncleared) same (by simp [isOf among, st])
    · intro lacking k i hi uncleared same at_
      rw [if_neg (isOf among)] at at_
      exact lacking ⟨k, i, hi, by simpa [Incident.uncleared] using uncleared, same, at_.2⟩
  rw [table, tierLow]
  refine ⟨fun kind among => ⟨fun asked lacking => ?_, fun unasked k i hi same st => ?_⟩, fun before after lacking => ?_⟩
  · exact opened ((finds kind asked ((lacks among).2 lacking)).kept cores)
  · obtain ⟨j, hj, kind', st'⟩ | ⟨asked, none⟩ := raises.found cores hi
    · exact ⟨j, hj, kind'.trans same, st'.trans st⟩
    · rw [same, st] at asked none
      have asked : wanted kind := (asked.resolve_left fun tier => isOf among tier.1).2
      exact absurd unasked (not_or.2 ⟨not_not.2 asked, (lacks among).1 none⟩)
  · refine opened ((set_ before after fun k i hi uncleared same there => ?_).kept cores)
    exact lacking k i hi (by simpa [Incident.uncleared] using uncleared) same (by simpa using there)

end Sys2Proof.Machine
end

section
/-! The checks that a completed recompute brings (R168, R171, R195): what of the isolations, the pipes and the generation
they change. -/

namespace Sys2Proof.Machine

-- One theorem after another: theorems checked side by side each hold a thread and its stack.
set_option Elab.async false

/-! ## The states the checks pass through -/

/-- An isolation on its way back to gas: in RESTORING or RELIGHTING. -/
def IsoState.returning (s : IsoState) : Bool := s = .restoring || s = .relighting

theorem IsoState.not_returning_ended (s : IsoState) : (s.returning && decide (s = .ended)) = false := by
  cases s <;> rfl

/-- The states an isolation can be in after checks: its own, a later one of its restoration, or PLANNING when it waited. -/
def IsoState.follows (s t : IsoState) : Prop :=
  t = s ∨ (s = .restoring ∧ t = .relighting) ∨ (s.returning = true ∧ t = .ended) ∨ (s = .waiting ∧ t = .planning)

theorem IsoState.follows.trans {s t u : IsoState} (h : s.follows t) (k : t.follows u) : s.follows u := by
  obtain rfl | ⟨rfl, rfl⟩ | ⟨running, rfl⟩ | ⟨rfl, rfl⟩ := h
  · exact k
  · obtain rfl | ⟨h, _⟩ | ⟨_, rfl⟩ | ⟨h, _⟩ := k
    · exact .inr (.inl ⟨rfl, rfl⟩)
    · cases h
    · exact .inr (.inr (.inl ⟨rfl, rfl⟩))
    · cases h
  · obtain rfl | ⟨h, _⟩ | ⟨h, _⟩ | ⟨h, _⟩ := k
    · exact .inr (.inr (.inl ⟨running, rfl⟩))
    all_goals cases h
  · obtain rfl | ⟨h, _⟩ | ⟨h, _⟩ | ⟨h, _⟩ := k
    · exact .inr (.inr (.inr ⟨rfl, rfl⟩))
    all_goals cases h

/-- It ends in the first of two steps or in the second. -/
theorem IsoState.follows.ended {s t u : IsoState} (h : s.follows t) (k : t.follows u) :
    (s.returning && decide (u = .ended)) = (s.returning && decide (t = .ended) || t.returning && decide (u = .ended)) := by
  obtain rfl | ⟨rfl, rfl⟩ | ⟨returning, rfl⟩ | ⟨rfl, rfl⟩ := h
  · cases t <;> rfl
  · rfl
  · obtain rfl | ⟨h, _⟩ | ⟨h, _⟩ | ⟨h, _⟩ := k
    · simp [returning]
    all_goals cases h
  · rfl

/-- An isolation on its way back has ended. -/
def Ev.endsIn (e f : Ev) (c : Nat) : Bool :=
  (e.iso? c).any (fun i => i.state.returning) && (f.iso? c).any (fun j => j.state = .ended)

theorem Ev.endsIn_iff {e f : Ev} {c : Nat} : e.endsIn f c = true ↔
    ∃ i j, e.iso? c = some i ∧ i.state.returning = true ∧ f.iso? c = some j ∧ j.state = .ended := by
  simp only [Ev.endsIn, Bool.and_eq_true, Option.any_eq_true, decide_eq_true_eq]
  constructor
  · rintro ⟨⟨i, hi, running⟩, j, hj, ended⟩
    exact ⟨i, j, hi, running, hj, ended⟩
  · rintro ⟨i, j, hi, running, hj, ended⟩
    exact ⟨⟨i, hi, running⟩, j, hj, ended⟩

/-- A pipe whose claim has been released, and whose record may have closed (R3, R178). -/
def PipeRt.unclaimed (p : PipeRt) (gone : Bool) (owner : Option Nat) : PipeRt :=
  { p with claim := if gone then none else p.claim, supply := if gone then p.supply.released else p.supply, owner := owner }

/-- What the checks make of the state of the blocks. -/
structure Ev.Checks (e f : Ev) : Prop where
  within : Ev.Within Part.operating e f
  keyed : f.p.keyed
  states : ∀ c i, e.iso? c = some i → ∃ j, f.iso? c = some j ∧ i.state.follows j.state
  pipes : ∀ k p, e.pipe? k = some p → ∃ o, f.pipe? k = some (p.unclaimed (p.claim.any (e.endsIn f)) o)
  absent : ∀ k, e.pipe? k = none → f.pipe? k = none
  calm : (∀ c, e.endsIn f c = false) → Ev.Within [.isos, .ask] e f
  bumps : ∀ c, e.endsIn f c = true → f.bumped = true

section Checks
variable {e f g : Ev}

/-- What changes states alone and ends nothing. -/
theorem Ev.Within.checks (w : Ev.Within [.isos, .ask] e f) (keyed : f.p.keyed)
    (states : ∀ c i, e.iso? c = some i → ∃ j, f.iso? c = some j ∧ i.state.follows j.state
      ∧ (j.state = .ended → i.state = .ended)) : e.Checks f := by
  have none (c : Nat) : e.endsIn f c = false := by
    by_contra ends
    obtain ⟨i, j, hi, running, hj, ended⟩ := Ev.endsIn_iff.1 (by simpa using ends)
    obtain ⟨j', hj', _, before⟩ := states c i hi
    obtain rfl := Option.some.inj (hj.symm.trans hj')
    rw [before ended] at running
    cases running
  refine ⟨.of w, keyed, fun c i hi => ?_, fun k p hp => ⟨p.owner, ?_⟩, fun k none => ?_, fun _ => w, fun c ends => ?_⟩
  · obtain ⟨j, hj, follows, _⟩ := states c i hi
    exact ⟨j, hj, follows⟩
  · have still : p.claim.any (e.endsIn f) = false := by cases p.claim <;> simp [none]
    rw [still]
    exact (congrArg (tget · k) (w.pipes (by decide))).trans hp
  · exact (congrArg (tget · k) (w.pipes (by decide))).trans none
  · cases (none c).symm.trans ends

theorem Ev.Checks.refl (keyed : e.p.keyed) : e.Checks e :=
  Ev.Within.checks (.refl _ e) keyed fun _ i hi => ⟨i, hi, .inl rfl, id⟩

theorem Ev.Checks.ends_trans (h : e.Checks f) (k : f.Checks g) (c : Nat) :
    e.endsIn g c = (e.endsIn f c || f.endsIn g c) := by
  cases hi : e.iso? c with
  | none =>
    have absent : f.iso? c = none := by simpa [hi] using h.within.fixed (by decide) c
    simp only [Ev.endsIn, hi, absent]
    rfl
  | some i =>
    obtain ⟨j, hj, first⟩ := h.states c i hi
    obtain ⟨l, hl, second⟩ := k.states c j hj
    simp only [Ev.endsIn, hi, hj, hl]
    exact first.ended second

theorem Ev.Checks.trans (h : e.Checks f) (k : f.Checks g) : e.Checks g := by
  have ends := h.ends_trans k
  refine ⟨h.within.trans k.within, k.keyed, fun c i hi => ?_, fun j p hp => ?_, fun j none => k.absent j (h.absent j none),
    fun calm => ?_, fun c he => ?_⟩
  · obtain ⟨j, hj, first⟩ := h.states c i hi
    obtain ⟨l, hl, second⟩ := k.states c j hj
    exact ⟨l, hl, first.trans second⟩
  · obtain ⟨o, first⟩ := h.pipes j p hp
    obtain ⟨o', second⟩ := k.pipes j _ first
    refine ⟨o', second.trans (congrArg some ?_)⟩
    cases claim : p.claim with
    | none => simp [PipeRt.unclaimed, claim]
    | some c => cases first : e.endsIn f c <;> simp [PipeRt.unclaimed, claim, ends, first]
  · have both (c : Nat) : e.endsIn f c = false ∧ f.endsIn g c = false := by
      simpa [ends] using calm c
    exact (h.calm fun c => (both c).1).trans (k.calm fun c => (both c).2)
  · rw [ends, Bool.or_eq_true] at he
    obtain first | second := he
    · exact k.within.stays_bumped (h.bumps c first)
    · exact k.bumps c second

end Checks

/-! ## The end of an isolation among the others -/

section EndOf
variable {e : Ev} {slot : Nat} {i : Isolation}

/-- The isolations that wait on one that ended go back to PLANNING; every other stays. -/
theorem Ev.wake_states (r : IsoRef) {c : Nat} {j : Isolation} (wf : tableWf e.p.ctl.isos) (h : e.iso? c = some j) :
    ∃ j', (e.wake r).iso? c = some j' ∧ (j' = j ∨ (j.state = .waiting ∧ j'.state = .planning)) := by
  by_cases waiting : j.state = .waiting
  · have step (k : Nat) (f : Ev) (hf : ∃ j', f.iso? c = some j' ∧ (j' = j ∨ (j.state = .waiting ∧ j'.state = .planning))) :
        ∃ j', (f.waitOver k).iso? c = some j' ∧ (j' = j ∨ (j.state = .waiting ∧ j'.state = .planning)) := by
      obtain ⟨j', hj, state⟩ := hf
      by_cases own : c = k
      · subst own
        obtain ⟨n, there⟩ := Ev.askTrace_iso (Ev.setIso_iso (Ev.modIso_iso hj fun i => { i with waitingOn := none })
          .planning .waitOver .nothing 0)
        exact ⟨_, there, .inr ⟨waiting, rfl⟩⟩
      · exact ⟨j', (f.waitOver_isosBut k c (by simpa using own)).trans hj, state⟩
    exact Ev.each_preserves (P := fun f => ∃ j', f.iso? c = some j' ∧ (j' = j ∨ (j.state = .waiting ∧ j'.state = .planning)))
      (fun k _ => step k) e ⟨j, h, .inl rfl⟩
  · exact ⟨j, Ev.wake_isosBut wf r h waiting, .inl rfl⟩

theorem Ev.endIso_states (wf : e.p.keyed) (new : IsoState) (cause : IsoCause) (other : Other) (left : Nat) {c : Nat}
    {j : Isolation} (h : e.iso? c = some j) (ne : c ≠ slot) :
    ∃ j', (e.endIso slot new cause other left).iso? c = some j' ∧ (j' = j ∨ (j.state = .waiting ∧ j'.state = .planning)) := by
  cases hi : e.iso? slot with
  | none =>
    simp only [Ev.endIso, hi]
    exact ⟨j, h, .inl rfl⟩
  | some i =>
    simp only [Ev.endIso, hi]
    have same := (Ev.unlinkIncident_within (e.setIso slot new cause other left) i.incident ⟨slot, i.serial⟩).isos (by decide)
    have out : c ∉ [slot] := by simpa using ne
    refine Ev.wake_states _ ?_ ?_
    · rw [Ev.modIso_ctl_isos, same]
      exact tableWf_tmod (Plant.keyed_isos (e.setIso_keyed slot new cause other left wf)) _ _
    · exact (Ev.modIso_isosBut _ _ _ c out).trans ((congrArg (tget · c) same).trans
        ((e.setIso_isosBut slot new cause other left c out).trans h))

theorem Ev.endOf_states (wf : e.p.keyed) (hi : e.iso? slot = some i) (cause : IsoCause) {c : Nat} {j : Isolation}
    (h : e.iso? c = some j) (ne : c ≠ slot) :
    ∃ j', (e.endOf slot cause).iso? c = some j' ∧ (j' = j ∨ (j.state = .waiting ∧ j'.state = .planning)) := by
  have out : c ∉ [slot] := by simpa using ne
  rw [Ev.endOf_eq hi]
  refine Ev.endIso_states (Ev.disowned_keyed _ _ _ (e.woundUp_keyed slot i wf)) _ _ _ _ ?_ ne
  refine ((Ev.disowned_within _ _ _).iso_same c).trans ?_
  exact (Ev.modIso_isosBut _ _ _ c out).trans (((Ev.withdrawOpens_within _ _).iso_same c).trans
    ((e.modIso_isosBut slot _ c out).trans h))

/-- The pipes an ended isolation had claimed are free, with the supply change of R3. -/
theorem Ev.endOf_unclaimed (hi : e.iso? slot = some i) (cause : IsoCause) {k : Nat} {p : PipeRt} (hp : e.pipe? k = some p) :
    ∃ o, (e.endOf slot cause).pipe? k = some (p.unclaimed (p.claim = some slot) o) := by
  have wound : (e.woundUp slot i).pipe? k = some p := (congrArg (tget · k) ((e.woundUp_within slot i).pipes (by decide))).trans hp
  have released : ((e.woundUp slot i).releaseClaims slot fun _ => true).pipe? k
      = some (p.unclaimed (p.claim = some slot) p.owner) := by
    rw [Ev.releaseClaims_pipe?, wound]
    by_cases claimed : p.claim = some slot <;> simp [PipeRt.unclaimed, claimed]
  have bumped : (((e.woundUp slot i).releaseClaims slot fun _ => true).bump.askRecompute).pipe? k
      = some (p.unclaimed (p.claim = some slot) p.owner) := (congrArg (tget · k) (Ev.bump_net_pipes _)).trans released
  obtain ⟨o, closed⟩ := Ev.closeRecordOf_pipe bumped i.outage
  rw [Ev.endOf_eq hi]
  exact ⟨o, (congrArg (tget · k) ((Ev.endIso_within _ _ _ _ _ _).pipes (by decide))).trans closed⟩

theorem Ev.endOf_checks (wf : e.p.keyed) (hi : e.iso? slot = some i) (running : i.state.returning = true) (cause : IsoCause) :
    e.Checks (e.endOf slot cause) := by
  obtain ⟨own, ho, ended, _⟩ := Ev.endOf_iso hi wf cause
  have ends (c : Nat) : e.endsIn (e.endOf slot cause) c = decide (c = slot) := by
    by_cases same : c = slot
    · subst same
      simp [Ev.endsIn, hi, ho, running, ended]
    · rw [decide_eq_false same]
      cases hj : e.iso? c with
      | none => simp [Ev.endsIn, hj]
      | some j =>
        obtain ⟨j', hj', eq | ⟨waiting, _⟩⟩ := Ev.endOf_states wf hi cause hj same
        · subst eq
          simp only [Ev.endsIn, hj, hj']
          exact IsoState.not_returning_ended j'.state
        · simp [Ev.endsIn, hj, waiting, IsoState.returning]
  refine ⟨e.endOf_within slot cause, e.endOf_keyed slot cause wf, fun c j hj => ?_, fun k p hp => ?_, fun k none => ?_,
    fun calm => ?_, fun c _ => Ev.endOf_bumped hi cause⟩
  · by_cases same : c = slot
    · subst same
      obtain rfl := Option.some.inj (hi.symm.trans hj)
      exact ⟨own, ho, .inr (.inr (.inl ⟨running, ended⟩))⟩
    · obtain ⟨j', hj', eq | waiting⟩ := Ev.endOf_states wf hi cause hj same
      · exact ⟨j', hj', .inl (by rw [eq])⟩
      · exact ⟨j', hj', .inr (.inr (.inr waiting))⟩
  · obtain ⟨o, eq⟩ := Ev.endOf_unclaimed hi cause hp
    refine ⟨o, eq.trans (congrArg (fun b => some (p.unclaimed b o)) ?_)⟩
    cases p.claim with
    | none => simp
    | some c => simp [ends]
  · have wound : (e.woundUp slot i).pipe? k = .none :=
      (congrArg (tget · k) ((e.woundUp_within slot i).pipes (by decide))).trans none
    rw [Ev.endOf_eq hi]
    exact (congrArg (tget · k) ((Ev.endIso_within _ _ _ _ _ _).pipes (by decide))).trans (Ev.disowned_pipe_none wound _ _)
  · have ended := calm slot
    rw [ends] at ended
    simp at ended

end EndOf

/-! ## The completion check and the ending check -/

/-- A completed ramp: RELIGHTING, and a recompute asked for (R168). -/
def Ev.rampDone (e : Ev) (slot : Nat) (r : Ramp) : Ev :=
  ((e.modIso slot fun i => { i with ramp := some { r with complete := true, startTimer := none } }).setIso slot .relighting
    .rampDone).askRecompute

section Check
variable {e : Ev} {slot : Nat} {i : Isolation} {r : Ramp}

theorem Ev.completionCheck_eq (hi : e.iso? slot = some i) (hr : i.ramp = some r) : e.completionCheck slot
    = if i.state = .restoring && r.t0.isSome && e.rampMet slot i r then (e.rampDone slot r).endingCheck slot else e := by
  simp only [Ev.completionCheck, hi, hr]
  rfl

theorem Ev.endingCheck_eq (hi : e.iso? slot = some i) : e.endingCheck slot
    = if i.state = .relighting && e.allRelit i then e.endOf slot .relit else e := by
  simp only [Ev.endingCheck, hi]

theorem Ev.rampDone_iso (hi : e.iso? slot = some i) : (e.rampDone slot r).iso? slot
    = some (({ i with ramp := some { r with complete := true, startTimer := none } } : Isolation).moveTo .relighting e.now) :=
  Ev.setIso_iso (Ev.modIso_iso hi _) _ _ _ _

theorem Ev.rampDone_within (e : Ev) (slot : Nat) (r : Ramp) : Ev.Within [.isos, .ask] e (e.rampDone slot r) :=
  .last (Ev.askRecompute_within _) (.last (Ev.setIso_within _ _ _ _ _ _)
    (.of (e.modIso_within slot (fun _ => rfl) fun _ => rfl)))

theorem Ev.rampDone_keyed (e : Ev) (slot : Nat) (r : Ramp) : e.KeepsKeyed (e.rampDone slot r) :=
  .last (Ev.setIso_keyed _ _ _ _ _ _) (e.modIso_keyed slot _)

theorem Ev.rampDone_isosBut (e : Ev) (slot : Nat) (r : Ramp) : Ev.IsosBut [slot] e (e.rampDone slot r) :=
  .last ((Ev.askRecompute_within _).isosBut _) (.last (Ev.setIso_isosBut _ _ _ _ _ _) (e.modIso_isosBut slot _))

theorem Ev.rampDone_checks (wf : e.p.keyed) (hi : e.iso? slot = some i) (restoring : i.state = .restoring) :
    e.Checks (e.rampDone slot r) := by
  refine (e.rampDone_within slot r).checks (e.rampDone_keyed slot r wf) fun c j hj => ?_
  by_cases same : c = slot
  · subst same
    obtain rfl := Option.some.inj (hi.symm.trans hj)
    exact ⟨_, Ev.rampDone_iso hi, .inr (.inl ⟨restoring, rfl⟩), nofun⟩
  · exact ⟨j, (e.rampDone_isosBut slot r c (by simpa using same)).trans hj, .inl rfl, id⟩

theorem Ev.endingCheck_checks (wf : e.p.keyed) (slot : Nat) : e.Checks (e.endingCheck slot) := by
  cases hi : e.iso? slot with
  | none =>
    simp only [Ev.endingCheck, hi]
    exact .refl wf
  | some i =>
    rw [Ev.endingCheck_eq hi]
    split
    · next relit =>
      simp only [Bool.and_eq_true, decide_eq_true_eq] at relit
      exact Ev.endOf_checks wf hi (by simp [IsoState.returning, relit.1]) _
    · exact .refl wf

theorem Ev.completionCheck_checks (wf : e.p.keyed) (slot : Nat) : e.Checks (e.completionCheck slot) := by
  cases hi : e.iso? slot with
  | none =>
    simp only [Ev.completionCheck, hi]
    exact .refl wf
  | some i =>
    cases hr : i.ramp with
    | none =>
      simp only [Ev.completionCheck, hi, hr]
      exact .refl wf
    | some r =>
      rw [Ev.completionCheck_eq hi hr]
      split
      · next met =>
        simp only [Bool.and_eq_true, decide_eq_true_eq] at met
        have done := Ev.rampDone_checks (r := r) wf hi met.1.1
        exact done.trans (Ev.endingCheck_checks done.keyed slot)
      · exact .refl wf

/-- The checks of one isolation after a recompute (R195). -/
def Ev.checked (e : Ev) (slot : Nat) : Ev := (e.completionCheck slot).endingCheck slot

theorem Ev.checked_checks (wf : e.p.keyed) (slot : Nat) : e.Checks (e.checked slot) :=
  have first := Ev.completionCheck_checks wf slot
  first.trans (Ev.endingCheck_checks first.keyed slot)

theorem Ev.each_checks (wf : e.p.keyed) (slots : List Nat) : e.Checks (e.each slots fun c e => e.checked c) := by
  induction slots generalizing e with
  | nil => exact .refl wf
  | cons c slots ih =>
    have first := Ev.checked_checks wf c
    exact first.trans (ih first.keyed)

theorem Ev.appliedChecks_eq (e : Ev) : e.appliedChecks = e.each (tkeys e.p.ctl.isos) fun c e => e.checked c := rfl

end Check

end Sys2Proof.Machine
end

section
/-! The ramp (R162 to R168): its stall, its resumption, the judgement of a sample, and its completion. -/

namespace Sys2Proof.Machine

-- One theorem after another: theorems checked side by side each hold a thread and its stack.
set_option Elab.async false

/-! ## The completion check (R168, R171) -/

section Completion
variable {e : Ev} {slot : Nat} {i : Isolation} {r : Ramp}

theorem Ev.completionCheck_of_unmet (hi : e.iso? slot = some i) (hr : i.ramp = some r)
    (unmet : i.state = .restoring → r.t0.isSome = true → e.rampMet slot i r = false) : e.completionCheck slot = e := by
  rw [Ev.completionCheck_eq hi hr, if_neg]
  simp only [Bool.and_eq_true, decide_eq_true_eq]
  rintro ⟨⟨restoring, clock⟩, met⟩
  exact Bool.noConfusion ((unmet restoring clock).symm.trans met)

@[simp] theorem Isolation.moveTo_ramp (i : Isolation) (new : IsoState) (now : Nat) : (i.moveTo new now).ramp = i.ramp := by
  rw [Isolation.moveTo_eq]

@[simp] theorem Isolation.moveTo_outage (i : Isolation) (new : IsoState) (now : Nat) :
    (i.moveTo new now).outage = i.outage := by
  rw [Isolation.moveTo_eq]

/-- A ramp that has reached its target is complete, and its isolation in RELIGHTING or ENDED. -/
theorem Ev.completionCheck_of_met (wf : e.p.keyed) (hi : e.iso? slot = some i) (hr : i.ramp = some r)
    (restoring : i.state = .restoring) (clock : r.t0.isSome = true) (met : e.rampMet slot i r = true) :
    ∃ j, (e.completionCheck slot).iso? slot = some j ∧ j.ramp = some { r with complete := true, startTimer := none }
      ∧ j.state = if e.allRelit i then .ended else .relighting := by
  have done := Ev.rampDone_iso (r := r) hi
  have same : (e.rampDone slot r).allRelit
      (({ i with ramp := some { r with complete := true, startTimer := none } } : Isolation).moveTo .relighting e.now)
      = e.allRelit i := by
    rw [Ev.allRelit, Ev.allRelit, (e.rampDone_within slot r).pipes (by decide), Isolation.moveTo_outage]
  rw [Ev.completionCheck_eq hi hr, if_pos (by simp [restoring, clock, met]), Ev.endingCheck_eq done, same]
  by_cases relit : e.allRelit i = true
  · obtain ⟨j, hj, ended, _, _, _, ramp⟩ := Ev.endOf_iso done (e.rampDone_keyed slot r wf) .relit
    refine ⟨j, ?_, ?_, by rw [if_pos relit]; exact ended⟩
    · rw [if_pos (by simp [relit])]
      exact hj
    · rw [ramp, Isolation.moveTo_ramp]
      rfl
  · rw [if_neg (by simp [relit]), if_neg relit]
    exact ⟨_, done, Isolation.moveTo_ramp _ _ _, rfl⟩

/-- What the completion check leaves of a ramp, whether it holds or not. -/
theorem Ev.completionCheck_iso (wf : e.p.keyed) (hi : e.iso? slot = some i) (hr : i.ramp = some r) :
    ∃ j q, (e.completionCheck slot).iso? slot = some j ∧ j.ramp = some q
      ∧ (q = r ∧ j = i ∨ q = { r with complete := true, startTimer := none }) := by
  by_cases met : i.state = .restoring ∧ r.t0.isSome = true ∧ e.rampMet slot i r = true
  · obtain ⟨j, hj, ramp, _⟩ := Ev.completionCheck_of_met wf hi hr met.1 met.2.1 met.2.2
    exact ⟨j, _, hj, ramp, .inr rfl⟩
  · refine ⟨i, r, ?_, hr, .inl ⟨rfl, rfl⟩⟩
    rw [Ev.completionCheck_of_unmet hi hr fun restoring clock => by simpa [restoring, clock] using met]
    exact hi

/-- Which ramp has reached its target (R168). -/
theorem Ev.rampMet_iff (e : Ev) (slot : Nat) (i : Isolation) (r : Ramp) : e.rampMet slot i r = true ↔
    (e.liveStations i ≠ [] ∧ ∀ x ∈ e.liveStations i, r.target - r.band ≤ x.2.rt.value)
      ∨ (e.liveStations i = [] ∧ e.awaitsOpening ⟨slot, i.serial⟩ = false ∧ r.openGen ≤ e.p.trace.applied
        ∧ ∀ k ∈ i.section?, (e.pipe? k).any (·.fed) = true) := by
  cases live : e.liveStations i with
  | nil => simp [Ev.rampMet, live, and_assoc]
  | cons x xs => simp [Ev.rampMet, live]

end Completion

/-! ## The start timer (R162) and RAMP_RESUME (R166) -/

theorem Ev.rampStartExpiry_of_reached {e : Ev} {slot d : Nat} {i : Isolation} {r : Ramp} (hi : e.iso? slot = some i)
    (restoring : i.state = .restoring) (hr : i.ramp = some r) (timer : r.startTimer = some d) (due : d ≤ e.now)
    (open_ : r.stall = none) : e.rampStartExpiry slot = (e.modIso slot fun i => { i with
      ramp := some { r with stall := some ⟨.noOpening, none, e.now⟩, startTimer := none, frozen := none } }).note .restoreStall slot
        (be 2 i.serial ++ [1] ++ be 2 65535 ++ bePu 0 ++ bePu 0) := by
  simp only [Ev.rampStartExpiry, hi, Ev.stall, hr, open_]
  rw [if_pos]
  · rfl
  · simp [restoring, timer, due]

/-- A stalled ramp resumed: its clock starts anew, or its start timer is set again (R166). -/
def Ramp.resumed (r : Ramp) (now timer : Nat) (stations : List RampStation) : Ramp :=
  if r.t0.isSome then { r with stall := none, frozen := none, t0 := some now, stations := stations }
  else { r with stall := none, frozen := none, startTimer := some timer }

theorem Ev.resumeNamed_of_stalled {e : Ev} {slot : Nat} {i : Isolation} {r : Ramp} (hr : i.ramp = some r)
    (restoring : i.state = .restoring) (stalled : r.stall.isSome = true) : ∃ x, e.resumeNamed slot i
      = ((e.modIso slot fun j => { j with ramp := some (r.resumed e.now (e.now + e.p.ctl.verifyTime) (e.rampStations i)) }).completionCheck
        slot, x) := by
  simp only [Ev.resumeNamed, hr]
  rw [if_neg (by simp [restoring, Option.isSome_iff_ne_none.1 stalled])]
  unfold Ramp.resumed
  split
  · exact ⟨_, rfl⟩
  · exact ⟨_, rfl⟩

/-- A stalled ramp after RAMP_RESUME and the completion check (R166). -/
theorem Ev.resumeNamed_ramp {e : Ev} {slot : Nat} {i : Isolation} {r : Ramp} (wf : e.p.keyed) (hi : e.iso? slot = some i)
    (hr : i.ramp = some r) (restoring : i.state = .restoring) (stalled : r.stall.isSome = true) :
    ∃ g x j q, e.resumeNamed slot i = (g, x) ∧ g.p.keyed ∧ g.iso? slot = some j ∧ j.ramp = some q
      ∧ q.stall = none ∧ q.frozen = none ∧ q.increment = r.increment ∧ q.target = r.target
      ∧ (r.t0.isSome → q.t0 = some e.now)
      ∧ (r.t0 = none → q.t0 = none ∧ q.startTimer = some (e.now + e.p.ctl.verifyTime) ∧ j.state = .restoring) := by
  obtain ⟨x, eq⟩ := Ev.resumeNamed_of_stalled (e := e) (slot := slot) hr restoring stalled
  have keyed := e.modIso_keyed slot (fun j => { j with
    ramp := some (r.resumed e.now (e.now + e.p.ctl.verifyTime) (e.rampStations i)) }) wf
  have there := Ev.modIso_iso hi fun j => { j with
    ramp := some (r.resumed e.now (e.now + e.p.ctl.verifyTime) (e.rampStations i)) }
  have keyed' := (Ev.completionCheck_checks keyed slot).keyed
  cases clock : r.t0 with
  | none =>
    have waits : r.resumed e.now (e.now + e.p.ctl.verifyTime) (e.rampStations i)
        = { r with stall := none, frozen := none, startTimer := some (e.now + e.p.ctl.verifyTime) } := by
      rw [Ramp.resumed, clock]
      rfl
    rw [waits] at eq keyed keyed' there
    have same := Ev.completionCheck_of_unmet there rfl fun _ running => by simp [clock] at running
    rw [same] at eq keyed'
    exact ⟨_, x, _, _, eq, keyed', there, rfl, rfl, rfl, rfl, rfl, nofun, fun _ => ⟨clock, rfl, restoring⟩⟩
  | some t0 =>
    have runs : r.resumed e.now (e.now + e.p.ctl.verifyTime) (e.rampStations i)
        = { r with stall := none, frozen := none, t0 := some e.now, stations := e.rampStations i } := by
      rw [Ramp.resumed, clock]
      rfl
    rw [runs] at eq keyed keyed' there
    obtain ⟨j, q, hj, hq, same⟩ := Ev.completionCheck_iso keyed there rfl
    refine ⟨_, x, j, q, eq, keyed', hj, hq, ?_⟩
    obtain ⟨rfl, _⟩ | rfl := same
    · exact ⟨rfl, rfl, rfl, rfl, fun _ => rfl, nofun⟩
    · exact ⟨rfl, rfl, rfl, rfl, fun _ => rfl, nofun⟩

/-! ## The judgement of a sample (R163, R164) -/

/-- The lags of a ramp station after a sample (R163). -/
def Ramp.lagsAfter (r : Ramp) (t0 t : Nat) (v : Int) (y : RampStation) : Nat :=
  if v < r.expected y.start (r.steps t0 t) - r.band then y.lags + 1 else 0

section Judge
variable {r : Ramp} (t0 station : Nat) (v : Int) (t : Nat)

theorem Ramp.judge_stations (nodup : (r.stations.map fun y => y.station).Nodup) : (r.judge t0 station v t).1
    = { r with stations := r.stations.map fun y => if y.station = station then { y with lags := r.lagsAfter t0 t v y } else y } := by
  unfold Ramp.judge
  cases found : r.stations.find? fun x => x.station = station with
  | none =>
    have other : ∀ y ∈ r.stations, y.station ≠ station := fun y hy => by simpa using List.find?_eq_none.1 found y hy
    have same : (r.stations.map fun y => if y.station = station then { y with lags := r.lagsAfter t0 t v y } else y) = r.stations :=
      (List.map_congr_left fun y hy => if_neg (other y hy)).trans (List.map_id _)
    rw [same]
  | some x =>
    have hx := List.mem_of_find?_eq_some found
    have at_ : x.station = station := by simpa using List.find?_some found
    have same : (r.stations.map fun y => if y.station = station then { y with lags := r.lagsAfter t0 t v x } else y)
        = r.stations.map fun y => if y.station = station then { y with lags := r.lagsAfter t0 t v y } else y := by
      refine List.map_congr_left fun y hy => ?_
      by_cases own : y.station = station
      · rw [List.inj_on_of_nodup_map nodup hy hx (own.trans at_.symm)]
      · rw [if_neg own, if_neg own]
    exact congrArg (fun l => { r with stations := l }) same

theorem Ramp.judge_stalls (nodup : (r.stations.map fun y => y.station).Nodup) {y : RampStation} (hy : y ∈ r.stations)
    (own : y.station = station) : (r.judge t0 station v t).2
      = if r.lagsAfter t0 t v y = 3 then some (r.expected y.start (r.steps t0 t)) else none := by
  unfold Ramp.judge
  cases found : r.stations.find? fun x => x.station = station with
  | none => exact absurd own (by simpa using List.find?_eq_none.1 found y hy)
  | some x =>
    have at_ : x.station = station := by simpa using List.find?_some found
    obtain rfl := List.inj_on_of_nodup_map nodup hy (List.mem_of_find?_eq_some found) (own.trans at_.symm)
    rfl

theorem Ramp.judge_absent (absent : ∀ y ∈ r.stations, y.station ≠ station) : (r.judge t0 station v t).2 = none := by
  have none : r.stations.find? (fun x => x.station = station) = none :=
    List.find?_eq_none.2 fun y hy => by simpa using absent y hy
  simp only [Ramp.judge, none]

end Judge

section Sample
variable {e : Ev} {slot station t0 t : Nat} {i : Isolation} {r : Ramp} {v : Int}

theorem Ev.rampSample_of_held (hi : e.iso? slot = some i) (hr : i.ramp = some r) (ht : r.t0 = some t0)
    (held : r.stall.isSome = true ∨ t < t0) : e.rampSample slot station v t = e.completionCheck slot := by
  simp only [Ev.rampSample, hi, Option.bind_some, hr, ht]
  exact if_pos (by simpa using held)

/-- The judged ramp, before its completion is looked at (R163, R164). -/
def Ev.judged (e : Ev) (slot station : Nat) (r : Ramp) (t0 : Nat) (v : Int) (t : Nat) : Ev :=
  let f := e.modIso slot fun i => { i with ramp := some (r.judge t0 station v t).1 }
  match (r.judge t0 station v t).2 with
  | none => f
  | some x => f.stall slot .lag (some station) (some (r.steps t0 t)) (x, v)

theorem Ev.rampSample_of_judged (hi : e.iso? slot = some i) (hr : i.ramp = some r) (ht : r.t0 = some t0)
    (free : r.stall = none) (late : t0 ≤ t) :
    e.rampSample slot station v t = (e.judged slot station r t0 v t).completionCheck slot := by
  simp only [Ev.rampSample, hi, Option.bind_some, hr, ht]
  exact if_neg (by simp [free, late])

theorem Ev.judged_of_kept (keeps : (r.judge t0 station v t).2 = none) : e.judged slot station r t0 v t
    = e.modIso slot fun i => { i with ramp := some (r.judge t0 station v t).1 } := by
  simp only [Ev.judged, keeps]

theorem Ev.judged_of_stalled {x : Int} (hi : e.iso? slot = some i) (free : (r.judge t0 station v t).1.stall = none)
    (stalls : (r.judge t0 station v t).2 = some x) : e.judged slot station r t0 v t
      = ((e.modIso slot fun i => { i with ramp := some (r.judge t0 station v t).1 }).modIso slot fun i =>
          { i with ramp := some { (r.judge t0 station v t).1 with
            stall := some ⟨.lag, some station, e.now⟩, startTimer := none, frozen := some (r.steps t0 t) } }).note .restoreStall slot
              (be 2 i.serial ++ [0] ++ be 2 station ++ bePu x ++ bePu v) := by
  have there := Ev.modIso_iso hi fun i => { i with ramp := some (r.judge t0 station v t).1 }
  simp only [Ev.judged, stalls, Ev.stall, there, free]
  rfl

end Sample

/-! ## A sample beside the isolations (R66 to R77) -/

/-- The monitor and the register apart, nothing changes. -/
structure Ev.Beside (e f : Ev) : Prop where
  ctl : f.p.ctl = e.p.ctl
  net : f.p.net = e.p.net
  trace : f.p.trace = e.p.trace
  now : f.now = e.now
  out : e.out <+: f.out
  keyed : e.KeepsKeyed f

section Beside
variable {e f g : Ev}

theorem Ev.Beside.refl (e : Ev) : e.Beside e := ⟨rfl, rfl, rfl, rfl, List.prefix_rfl, fun h => h⟩

theorem Ev.Beside.last (k : f.Beside g) (h : e.Beside f) : e.Beside g :=
  ⟨k.ctl.trans h.ctl, k.net.trans h.net, k.trace.trans h.trace, k.now.trans h.now, h.out.trans k.out, h.keyed.trans k.keyed⟩

theorem Ev.modRt_beside (e : Ev) (id : Nat) (u : StationRt → StationRt) : e.Beside (e.modRt id u) :=
  ⟨rfl, rfl, rfl, rfl, List.prefix_rfl, fun h => h⟩

theorem Ev.count_beside (e : Ev) (u : TelemetryCounters → TelemetryCounters) : e.Beside (e.count u) :=
  ⟨rfl, rfl, rfl, rfl, List.prefix_rfl, fun h => h⟩

theorem Ev.note_beside (e : Ev) (kind : NoticeKind) (object : Nat) (detail : List Byte) : e.Beside (e.note kind object detail) :=
  ⟨rfl, rfl, rfl, rfl, List.prefix_append _ _, fun h => h⟩

theorem Ev.askIncident_beside (e : Ev) (kind : IncidentKind) (station : Option Nat) (tier : Tier) :
    e.Beside (e.askIncident kind station tier) := by
  unfold Ev.askIncident
  split
  · exact .refl e
  · unfold Ev.openIncident
    cases e.p.reg.freeSlot with
    | none => exact e.note_beside _ _ _
    | some k =>
      refine .last (Ev.note_beside _ _ _ _) ⟨rfl, rfl, rfl, rfl, List.prefix_rfl, ?_⟩
      rintro ⟨pipes, controls, isos, orders, reg, records⟩
      exact ⟨pipes, controls, isos, orders, tableWf_tset reg _ _, records⟩

theorem Ev.tierCheck_beside (e : Ev) (t : Tier) : e.Beside (e.tierCheck t) := by
  unfold Ev.tierCheck
  dsimp only
  have noted (low : PerTier Bool) (n : List Byte) : e.Beside (({ e with p.mon.tierLow := low } : Ev).note .tierLow t.code n) :=
    .last (Ev.note_beside _ _ _ _) ⟨rfl, rfl, rfl, rfl, List.prefix_rfl, fun h => h⟩
  split
  · exact .refl e
  · split
    · exact .last (Ev.askIncident_beside _ _ _ _) (noted _ _)
    · exact noted _ _

theorem Ev.bandStage_beside (e : Ev) (id : Nat) (s : Station) : e.Beside (e.bandStage id s) := by
  have census : e.Beside (e.bandCensus id s) := by
    unfold Ev.bandCensus
    split
    · exact .refl e
    · exact .last (Ev.tierCheck_beside _ _) (.last (Ev.note_beside _ _ _ _) (e.modRt_beside _ _))
  rw [Ev.bandStage_eq]
  unfold Ev.bandIncident
  split_ifs
  · exact census
  · exact census
  · exact .last (Ev.askIncident_beside _ _ _ _) census
  · exact .last (Ev.askIncident_beside _ _ _ _) census
  · exact census

theorem Ev.trendStage_beside (e : Ev) (id : Nat) (s : Station) (time : Nat) : e.Beside (e.trendStage id s time) := by
  have noted : e.Beside (e.trendNoted id s time) := by
    unfold Ev.trendNoted
    dsimp only
    split
    · exact .last (Ev.note_beside _ _ _ _) (e.modRt_beside _ _)
    · exact e.modRt_beside _ _
  rw [Ev.trendStage_eq]
  split
  · exact .last (Ev.askIncident_beside _ _ _ _) noted
  · exact noted

/-- A report with an accepted sample, up to the isolations it is served to: the station is sampled, the isolations are as
they were. -/
theorem Ev.telemetered_served {e : Ev} {id : Nat} {x : Station} (hx : e.station? id = some x) (raw time : Nat) : ∃ C : Ev, e.Beside C
    ∧ C.station? id = some { x with rt := (x.counted.sampled raw false time).rt }
    ∧ e.telemetered id x raw time = (C.each (C.sectionsOf x.cfg.node) fun slot e => e.isolationTest slot id time).modRt id fun r =>
        { r with deadline := some (e.now + x.cfg.interval * x.cfg.multiple) } := by
  have station := Ev.reported_station hx
  have own := (Ev.pipeline_mon station raw false time).1
  have converted : e.Beside ((e.reported id).converted id x.counted raw) := by
    have counted : e.Beside (e.reported id) := .last (Ev.modRt_beside _ _ _) (e.count_beside _)
    unfold Ev.converted
    split
    · exact .last (Ev.modRt_beside _ _ _) counted
    · exact .last (Ev.modRt_beside _ _ _) (.last (Ev.count_beside _ _) counted)
  have before := (Ev.trendStage_beside _ id (x.counted.converted raw) time).last ((Ev.bandStage_beside _ id (x.counted.converted raw)).last
    converted)
  have eq := Ev.pipeline_eq (e.reported id) id x.counted raw false time
  rw [Ev.freshStage_eq] at eq
  have fresh (f : Ev) : f.Beside (f.freshCensus id (x.counted.converted raw) false time) :=
    .last (Ev.tierCheck_beside _ _) (.last (Ev.count_beside _ _) (f.modRt_beside _ _))
  refine ⟨_, .last (fresh _) before, ?_, congrArg (fun f : Ev => f.modRt id fun r =>
    { r with deadline := some (e.now + x.cfg.interval * x.cfg.multiple) }) eq⟩
  refine Eq.trans ?_ own
  refine Eq.trans ?_ (congrArg (fun f : Ev => f.station? id) eq).symm
  rw [Ev.station?, Ev.station?, Ev.freshTests_mon]

end Beside

/-! ## A sample at a restoring isolation -/

/-- The one key that passes a test. -/
theorem tkeysWhere_eq_singleton {α : Type} {t : Table α} (w : tableWf t) {p : Nat → α → Bool} {k : Nat}
    (only : ∀ j, (∃ v, tget t j = some v ∧ p j v = true) ↔ j = k) : tkeysWhere t p = [k] := by
  have nodup : (tkeysWhere t p).Nodup := by
    have sorted : (tkeys t).Nodup := List.Pairwise.imp (fun h => Nat.ne_of_lt h) w
    exact sorted.sublist (List.filter_sublist.map _)
  refine List.perm_singleton.1 ((List.perm_ext_iff_of_nodup nodup (List.nodup_singleton k)).2 fun j => ?_)
  rw [mem_tkeysWhere w, only, List.mem_singleton]

section Served
variable {e : Ev} {slot station t0 t : Nat} {i : Isolation} {r : Ramp} {v : Int}

theorem Ev.judged_within (e : Ev) (slot station : Nat) (r : Ramp) (t0 : Nat) (v : Int) (t : Nat) :
    Ev.Within [.isos] e (e.judged slot station r t0 v t) := by
  have ramped := e.modIso_within slot (f := fun i => { i with ramp := some (r.judge t0 station v t).1 }) (fun _ => rfl) fun _ => rfl
  unfold Ev.judged
  dsimp only
  split
  · exact ramped
  · exact .last (Ev.stall_within _ _ _ _ _ _) ramped

theorem Ev.judged_keyed (e : Ev) (slot station : Nat) (r : Ramp) (t0 : Nat) (v : Int) (t : Nat) :
    e.KeepsKeyed (e.judged slot station r t0 v t) := by
  unfold Ev.judged
  dsimp only
  split
  · exact e.modIso_keyed slot _
  · exact .last (Ev.stall_keyed _ _ _ _ _ _) (e.modIso_keyed slot _)

/-- A ramp after a sample, but for its completion (R163, R164). -/
structure Ev.Judges (e f : Ev) (slot serial station : Nat) (r : Ramp) (t0 : Nat) (v : Int) (t : Nat) (q : Ramp) : Prop where
  same : q.increment = r.increment ∧ q.interval = r.interval ∧ q.target = r.target ∧ q.band = r.band ∧ q.t0 = r.t0
    ∧ q.complete = r.complete
  held : r.stall.isSome = true ∨ t < t0 → q = r
  stations : r.stall = none → t0 ≤ t →
    q.stations = r.stations.map fun y => if y.station = station then { y with lags := r.lagsAfter t0 t v y } else y
  stalls : r.stall = none → t0 ≤ t → ∀ y ∈ r.stations, y.station = station → r.lagsAfter t0 t v y = 3 →
    q.stall = some ⟨.lag, some station, e.now⟩ ∧ q.frozen = some (r.steps t0 t)
      ∧ ⟨.restoreStall, slot, be 2 serial ++ [0] ++ be 2 station ++ bePu (r.expected y.start (r.steps t0 t)) ++ bePu v, e.now⟩ ∈ f.out
  goes : r.stall = none → t0 ≤ t → (∀ y ∈ r.stations, y.station = station → r.lagsAfter t0 t v y ≠ 3) →
    q.stall = none ∧ q.frozen = r.frozen

theorem Ev.rampSample_judges (wf : e.p.keyed) (hi : e.iso? slot = some i) (hr : i.ramp = some r) (ht : r.t0 = some t0)
    (nodup : (r.stations.map fun y => y.station).Nodup) : ∃ f q, e.rampSample slot station v t = f.completionCheck slot
      ∧ Ev.Within [.isos] e f ∧ f.p.keyed ∧ f.iso? slot = some { i with ramp := some q }
      ∧ e.Judges f slot i.serial station r t0 v t q := by
  by_cases held : r.stall.isSome = true ∨ t < t0
  · have same : { i with ramp := some r } = i := by rw [← hr]
    have contra (free : r.stall = none) (late : t0 ≤ t) : False := by
      obtain stalled | early := held
      · rw [free] at stalled
        cases stalled
      · omega
    exact ⟨e, r, Ev.rampSample_of_held hi hr ht held, .refl _ e, wf, hi.trans (congrArg some same.symm),
      ⟨⟨rfl, rfl, rfl, rfl, rfl, rfl⟩, fun _ => rfl, fun free late => (contra free late).elim,
        fun free late => (contra free late).elim, fun free late => (contra free late).elim⟩⟩
  · obtain ⟨free, late⟩ : r.stall = none ∧ t0 ≤ t := by simpa using held
    have eq := Ev.rampSample_of_judged (station := station) (v := v) hi hr ht free late
    have within_ := e.judged_within slot station r t0 v t
    have keyed := e.judged_keyed slot station r t0 v t wf
    have stations := Ramp.judge_stations t0 station v t nodup
    have stalled {x : Int} (stalls : (r.judge t0 station v t).2 = some x) : ∃ y ∈ r.stations, y.station = station
        ∧ r.lagsAfter t0 t v y = 3 := by
      by_contra none
      by_cases absent : ∀ y ∈ r.stations, y.station ≠ station
      · cases stalls.symm.trans (Ramp.judge_absent t0 station v t absent)
      · obtain ⟨y, hy, own⟩ : ∃ y ∈ r.stations, y.station = station := by simpa using absent
        have kept := Ramp.judge_stalls t0 station v t nodup hy own
        rw [if_neg fun three => none ⟨y, hy, own, three⟩] at kept
        cases stalls.symm.trans kept
    cases stalls : (r.judge t0 station v t).2 with
    | none =>
      refine ⟨_, (r.judge t0 station v t).1, eq, within_, keyed, ?_, ?_⟩
      · rw [Ev.judged_of_kept stalls]
        exact Ev.modIso_iso hi _
      · rw [stations]
        refine ⟨⟨rfl, rfl, rfl, rfl, rfl, rfl⟩, fun h => absurd h held, fun _ _ => rfl, fun _ _ y hy own three => ?_,
          fun _ _ _ => ⟨free, rfl⟩⟩
        have some_ := Ramp.judge_stalls t0 station v t nodup hy own
        rw [if_pos three, stalls] at some_
        cases some_
    | some x =>
      have eq' := Ev.judged_of_stalled (e := e) (slot := slot) hi (by rw [stations]; exact free) stalls
      refine ⟨_, { (r.judge t0 station v t).1 with
        stall := some ⟨.lag, some station, e.now⟩, startTimer := none, frozen := some (r.steps t0 t) }, eq, within_, keyed, ?_, ?_⟩
      · rw [eq']
        exact Ev.modIso_iso (Ev.modIso_iso hi _) _
      · rw [eq', stations]
        refine ⟨⟨rfl, rfl, rfl, rfl, rfl, rfl⟩, fun h => absurd h held, fun _ _ => rfl, fun _ _ y hy own three => ⟨rfl, rfl, ?_⟩,
          fun _ _ none => ?_⟩
        · have expected := Ramp.judge_stalls t0 station v t nodup hy own
          rw [if_pos three, stalls] at expected
          rw [Option.some.inj expected]
          exact List.mem_append_right _ (List.mem_singleton.2 rfl)
        · obtain ⟨y, hy, own, three⟩ := stalled stalls
          exact absurd three (none y hy own)

end Served

/-- What the completion check after a sample looks at: the stations it leaves. -/
def Ev.rampReached (e : Ev) (i : Isolation) (r : Ramp) : Prop :=
  ∀ y ∈ e.p.mon.stations, (∃ n ∈ i.nodes, y.2.cfg.node = some n) →
    (y.2.rt.freshness = .fresh ∨ y.2.rt.freshness = .suspect) → r.target - r.band ≤ roundDiv y.2.rt.s16 16

section Reached
variable {e : Ev} {slot id : Nat} {i : Isolation} {r : Ramp}

theorem Ev.mem_liveStations {y : Nat × Station} : y ∈ e.liveStations i ↔ y ∈ e.p.mon.stations
    ∧ (∃ n ∈ i.nodes, y.2.cfg.node = some n) ∧ (y.2.rt.freshness = .fresh ∨ y.2.rt.freshness = .suspect) := by
  simp only [Ev.liveStations, Ev.sectionStations, List.mem_filter, Option.any_eq_true, List.contains_iff_mem, and_assoc]
  refine and_congr_right fun _ => and_congr ⟨?_, ?_⟩ (by simp [StationRt.nonStale])
  · rintro ⟨n, node, mem⟩
    exact ⟨n, mem, node⟩
  · rintro ⟨n, mem, node⟩
    exact ⟨n, node, mem⟩

/-- With a station to read, the ramp is met exactly when every one stands at the target less the band (R168). -/
theorem Ev.rampMet_of_live (live : e.liveStations i ≠ []) : e.rampMet slot i r = true ↔ e.rampReached i r := by
  rw [Ev.rampMet_iff]
  constructor
  · rintro (⟨_, all⟩ | ⟨none, _⟩)
    · exact fun y hy node fresh => all y (Ev.mem_liveStations.2 ⟨hy, node, fresh⟩)
    · exact absurd none live
  · intro all
    refine .inl ⟨live, fun y hy => ?_⟩
    obtain ⟨hy, node, fresh⟩ := Ev.mem_liveStations.1 hy
    exact all y hy node fresh

/-- A new deadline changes nothing that the check looks at. -/
theorem Ev.modRt_rampReached (e : Ev) (id : Nat) (d : Option Nat) :
    (e.modRt id fun x => { x with deadline := d }).rampReached i r ↔ e.rampReached i r := by
  refine List.forall_mem_map.trans (forall₂_congr fun y _ => ?_)
  split
  · exact Iff.rfl
  · exact Iff.rfl

theorem Ev.allRelit_iff (e : Ev) (i : Isolation) : e.allRelit i = true ↔
    ∀ y ∈ e.p.net.pipes, y.2.owner.isSome → y.2.owner = i.outage → y.2.pending = ⟨0, 0, 0⟩ := by
  refine List.all_eq_true.trans (forall₂_congr fun y _ => ?_)
  simp only [Bool.or_eq_true, Option.isNone_iff_eq_none, decide_eq_true_eq, Counts.isZero_iff]
  constructor
  · rintro ((none | other) | zero) owned own
    · rw [none] at owned
      cases owned
    · exact absurd own other
    · exact zero
  · intro relit
    by_cases owned : y.2.owner = none
    · exact .inl (.inl owned)
    · by_cases own : y.2.owner = i.outage
      · exact .inr (relit (Option.isSome_iff_ne_none.2 owned) own)
      · exact .inl (.inr own)

/-- What a sample leaves of a restoring isolation that alone has the station (R163, R164, R168). -/
theorem Ev.telemetered_ramp {x : Station} (hx : e.station? id = some x) (raw time : Nat) {node t0 : Nat} (wf : e.p.keyed)
    (bound : x.cfg.node = some node) (hi : e.iso? slot = some i) (restoring : i.state = .restoring) (hr : i.ramp = some r)
    (ht : r.t0 = some t0) (nodup : (r.stations.map fun y => y.station).Nodup) (mem : node ∈ i.nodes)
    (only : ∀ k y, e.iso? k = some y → node ∈ y.nodes → k = slot) : ∃ f q j q',
      Ev.Judges e f slot i.serial id r t0 (x.counted.sampled raw false time).rt.value time q
      ∧ f.out <+: (e.telemetered id x raw time).out ∧ (e.telemetered id x raw time).p.keyed
      ∧ (e.telemetered id x raw time).iso? slot = some j ∧ j.ramp = some q'
      ∧ ((e.telemetered id x raw time).rampReached i r → q' = { q with complete := true, startTimer := none }
        ∧ j.state = if e.allRelit i then .ended else .relighting)
      ∧ (¬ (e.telemetered id x raw time).rampReached i r → q' = q ∧ j.state = .restoring) := by
  obtain ⟨C, beside, station, eq⟩ := Ev.telemetered_served hx raw time
  have isos : C.p.ctl.isos = e.p.ctl.isos := congrArg (·.isos) beside.ctl
  have pipes : C.p.net.pipes = e.p.net.pipes := congrArg (·.pipes) beside.net
  have there : C.iso? slot = some i := (congrArg (tget · slot) isos).trans hi
  have alone : C.sectionsOf x.cfg.node = [slot] := by
    rw [bound]
    refine tkeysWhere_eq_singleton (Plant.keyed_isos (beside.keyed wf)) (p := fun _ i => i.nodes.contains node)
      fun k => ⟨?_, ?_⟩
    · rintro ⟨y, hy, has⟩
      exact only k y ((congrArg (tget · k) isos).symm.trans hy) (by simpa using has)
    · rintro rfl
      exact ⟨i, there, by simpa using mem⟩
  obtain ⟨f, q, test, within_, keyed, iso, judges⟩ := Ev.rampSample_judges (station := id)
    (v := (x.counted.sampled raw false time).rt.value) (t := time) (beside.keyed wf) there hr ht nodup
  have served : (C.each [slot] fun slot e => e.isolationTest slot id time) = f.completionCheck slot := by
    refine Eq.trans ?_ test
    have one : C.isolationTest slot id time = C.rampSample slot id (x.counted.sampled raw false time).rt.value time := by
      simp only [Ev.isolationTest, there, station, restoring]
    exact one
  rw [alone, served] at eq
  have mon : (f.completionCheck slot).p.mon = f.p.mon := (f.completionCheck_within slot).mon (by decide)
  have sameMon : f.p.mon = C.p.mon := within_.mon (by decide)
  obtain ⟨⟨_, _, target, band, clock, _⟩, held, stations, stalls, goes⟩ := judges
  have live : f.liveStations { i with ramp := some q } ≠ [] := by
    refine List.ne_nil_of_mem (a := (id, { x with rt := (x.counted.sampled raw false time).rt })) ?_
    refine Ev.mem_liveStations.2 ⟨?_, ⟨node, mem, bound⟩, .inl rfl⟩
    rw [sameMon]
    exact mem_of_tget station
  have reached : (e.telemetered id x raw time).rampReached i r ↔ f.rampMet slot { i with ramp := some q } q = true := by
    rw [Ev.rampMet_of_live live, eq, Ev.modRt_rampReached]
    simp only [Ev.rampReached, mon, target, band]
    rfl
  have relit : f.allRelit { i with ramp := some q } = e.allRelit i := by
    rw [Ev.allRelit, Ev.allRelit, within_.pipes (by decide), pipes]
  have judges : Ev.Judges e f slot i.serial id r t0 (x.counted.sampled raw false time).rt.value time q := by
    rw [beside.now] at stalls
    exact ⟨⟨‹_›, ‹_›, target, band, clock, ‹_›⟩, held, stations, stalls, goes⟩
  have out : f.out <+: (e.telemetered id x raw time).out := by
    rw [eq]
    exact (f.completionCheck_within slot).out
  have keyed' : (e.telemetered id x raw time).p.keyed := by
    rw [eq]
    exact (Ev.completionCheck_checks keyed slot).keyed
  by_cases met : f.rampMet slot { i with ramp := some q } q = true
  · obtain ⟨j, hj, ramp, state⟩ := Ev.completionCheck_of_met keyed iso rfl restoring (by rw [clock, ht]; rfl) met
    rw [relit] at state
    refine ⟨f, q, j, _, judges, out, keyed', ?_, ramp, fun _ => ⟨rfl, state⟩, fun unmet => absurd (reached.2 met) unmet⟩
    rw [eq]
    exact hj
  · refine ⟨f, q, { i with ramp := some q }, q, judges, out, keyed', ?_, rfl, fun yes => absurd (reached.1 yes) met,
      fun _ => ⟨rfl, restoring⟩⟩
    rw [eq, Ev.completionCheck_of_unmet iso rfl fun _ _ => by simpa using met]
    exact iso

end Reached

end Sys2Proof.Machine
end

section
/-! A recompute that completes (R44 to R47, R195): what the flood leaves before the checks, and what the checks of the
others leave of an isolation. -/

namespace Sys2Proof.Machine

-- One theorem after another: theorems checked side by side each hold a thread and its stack.
set_option Elab.async false

/-! ## The flood applied and the owners found -/

/-- A completed recompute up to the notices: the engine idle, the generation applied, the flood written (R44, R45). -/
def Ev.flooded (e : Ev) (start : Nat) (v : Flooded) : Ev :=
  (({ e with
    p.trace.running := none
    p.trace.pendingRecompute := e.p.trace.pendingRecompute || e.p.net.generation ≠ start
    p.trace.applied := start } : Ev).applyFlood v [] []).sectionFed []

/-- A completed recompute up to the checks: the owners found (R182, R183). -/
def Ev.attributed (e : Ev) (start : Nat) (v : Flooded) : Ev := (e.flooded start v).attribute fun _ => true

section Recompute
variable {e : Ev} {start : Nat}

theorem Ev.recomputeCompletion_eq {v : FloodView} (running : e.p.trace.running = some (.recompute start [] [] [v])) :
    e.recomputeCompletion = (e.attributed start ⟨v.reached, v.edges⟩).appliedChecks := by
  simp only [Ev.recomputeCompletion, running]
  rfl

/-- What only notes changes no table. -/
theorem Ev.Within.keyed_of_none {e f : Ev} (w : Ev.Within [] e f) : e.KeepsKeyed f := by
  rintro ⟨pipes, controls, isos, orders, reg, records⟩
  rw [Plant.keyed, w.pipes (by decide), w.controls (by decide), w.isos (by decide), (w.orders (by decide)).1,
    w.reg (by decide), w.records (by decide)]
  exact ⟨pipes, controls, isos, orders, reg, records⟩

theorem Ev.flooded_within (e : Ev) (start : Nat) (v : Flooded) :
    Ev.Within [.nodes, .pipes, .applied, .trace, .ask] e (e.flooded start v) := by
  have taken : Ev.Within [.nodes, .pipes, .applied, .trace, .ask] e { e with
      p.trace.running := none
      p.trace.pendingRecompute := e.p.trace.pendingRecompute || e.p.net.generation ≠ start
      p.trace.applied := start } :=
    { Ev.Within.refl [.nodes, .pipes, .applied, .trace, .ask] e with
      trace := fun a => absurd (by decide) a
      ask := fun a => absurd (by decide) a
      applied := fun a => absurd (by decide) a
      tables := fun inv => { inv with }
      limits := fun inv => { inv with } }
  exact .last (Ev.sectionFed_within _ _) (.last (Ev.applyFlood_within _ _ _ _) taken)

theorem Ev.attributed_within (e : Ev) (start : Nat) (v : Flooded) :
    Ev.Within [.nodes, .pipes, .applied, .trace, .ask] e (e.attributed start v) :=
  .last (Ev.attribute_within _ _) (e.flooded_within start v)

theorem Ev.attributed_keyed (e : Ev) (start : Nat) (v : Flooded) : e.KeepsKeyed (e.attributed start v) := by
  refine .last (Ev.mapPipes_keyed _ _) (.last (Ev.sectionFed_within _ _).keyed_of_none ?_)
  exact .last (Ev.mapPipes_keyed _ _) fun h => h

theorem Ev.attributed_applied (e : Ev) (start : Nat) (v : Flooded) : (e.attributed start v).p.trace.applied = start :=
  (Ev.sectionFed_within _ _).applied (by decide)

theorem Ev.attributed_node (e : Ev) (start : Nat) (v : Flooded) (k : Nat) : tget (e.attributed start v).p.net.nodes k
    = (tget e.p.net.nodes k).map fun x => { x with fed := v.reached.contains k } := by
  refine (congrArg (tget · k) ((Ev.sectionFed_within _ []).nodes (by decide))).trans ?_
  exact tget_map e.p.net.nodes (fun n x => { x with fed := v.reached.contains n }) k

/-- A pipe as the recompute assigns it (R44, R45, R181). -/
def Ev.assigned (e : Ev) (v : Flooded) (k : Nat) (p : PipeRt) : PipeRt :=
  p.assign (v.feeds k) ((p.claim.bind e.iso?).map (·.state)) (((e.link? k).map Link.service).getD {})

theorem Ev.flooded_pipe (e : Ev) (start : Nat) (v : Flooded) (k : Nat) :
    (e.flooded start v).pipe? k = (e.pipe? k).map (e.assigned v k) :=
  (congrArg (tget · k) ((Ev.sectionFed_within _ []).pipes (by decide))).trans (Ev.mapPipes_pipe? _ k _)

theorem Ev.Within.ownerOf {A : List Part} {e f : Ev} (w : Ev.Within A e f) (k : Nat) (p : PipeRt) (isos : Part.isos ∉ A := by decide)
    (records : Part.records ∉ A := by decide) : f.ownerOf k p = e.ownerOf k p := by
  have iso? : f.iso? = e.iso? := funext fun c => congrArg (tget · c) (w.isos isos)
  have record? : f.record? = e.record? := funext fun c => congrArg (tget · c) (w.records records)
  have shuts : f.recordShuts = e.recordShuts := by
    funext c
    have named : f.named? = e.named? := by
      funext r
      simp only [Ev.named?, iso?]
    simp only [Ev.recordShuts, record?, named]
  have cutters : f.cutters k = e.cutters k := by rw [Ev.cutters, Ev.cutters, w.isos isos]
  have slot : f.recordOfSlot = e.recordOfSlot := by
    funext c
    simp only [Ev.recordOfSlot, iso?]
  simp only [Ev.ownerOf, shuts, cutters, slot]

theorem Ev.attributed_pipe (e : Ev) (start : Nat) (v : Flooded) (k : Nat) : (e.attributed start v).pipe? k
    = (e.pipe? k).map fun p => { e.assigned v k p with owner := e.ownerOf k (e.assigned v k p) } := by
  refine (Ev.mapPipes_pipe? (e.flooded start v) k _).trans ?_
  rw [Ev.flooded_pipe]
  cases e.pipe? k with
  | none => rfl
  | some p =>
    have same := (e.flooded_within start v).ownerOf k (e.assigned v k p)
    exact congrArg (fun o => some { e.assigned v k p with owner := o }) same

end Recompute

/-! ## One isolation while others are checked -/

/-- The orders of an isolation stay. -/
def Ev.ordersStay (r : IsoRef) (e f : Ev) : Prop := ∀ id o, o.iso = r → (f.order? id = some o ↔ e.order? id = some o)

/-- One isolation and its orders stay. -/
structure Ev.Apart (slot : Nat) (i : Isolation) (e f : Ev) : Prop where
  keyed : f.p.keyed
  iso : f.iso? slot = some i
  orders : Ev.ordersStay ⟨slot, i.serial⟩ e f

section Apart
variable {e f g : Ev} {slot c : Nat} {i j : Isolation}

theorem Ev.Apart.trans (h : Ev.Apart slot i e f) (k : Ev.Apart slot i f g) : Ev.Apart slot i e g :=
  ⟨k.keyed, k.iso, fun id o own => (k.orders id o own).trans (h.orders id o own)⟩

theorem Ev.Apart.refl (wf : e.p.keyed) (hi : e.iso? slot = some i) : Ev.Apart slot i e e := ⟨wf, hi, fun _ _ _ => Iff.rfl⟩

theorem Ev.ordersStay.last {r : IsoRef} (k : Ev.ordersStay r f g) (h : Ev.ordersStay r e f) : Ev.ordersStay r e g :=
  fun id o own => (k id o own).trans (h id o own)

theorem Ev.Within.ordersStay {A : List Part} (w : Ev.Within A e f) (r : IsoRef) (out : Part.orders ∉ A := by decide) :
    Ev.ordersStay r e f := fun id o _ => by rw [Ev.order?, Ev.order?, (w.orders out).1]

theorem Ev.withdrawOpens_ordersStay (wf : e.p.keyed) {r s : IsoRef} (ne : s ≠ r) : Ev.ordersStay r e (e.withdrawOpens s) := by
  obtain ⟨_, _, _, orders, _, _⟩ := wf
  have own (k : Nat) (hk : k ∈ e.ordersOf s .reopen) : ∃ o, e.order? k = some o ∧ o.iso = s := by
    obtain ⟨o, ho, test⟩ := (mem_tkeysWhere (p := fun _ o => o.outstanding && o.iso = s && o.action = .reopen) orders).1 hk
    simp only [Bool.and_eq_true, decide_eq_true_eq] at test
    exact ⟨o, ho, test.1.2⟩
  refine Ev.each_preserves (P := Ev.ordersStay r e) (fun k hk f h id o ho => ?_) e fun _ _ _ => Iff.rfl
  rw [Ev.finishOrder_order?, ← h id o ho]
  split
  · next same =>
    subst same
    have other (x : Order) (hx : f.order? id = some x) : x.iso ≠ r := by
      intro named
      obtain ⟨y, hy, at_⟩ := own id hk
      obtain rfl := Option.some.inj (hy.symm.trans ((h id x named).1 hx))
      exact ne (at_.symm.trans named)
    constructor
    · intro eq
      obtain ⟨x, hx, rfl⟩ := Option.map_eq_some_iff.1 eq
      exact absurd ho (other x hx)
    · intro eq
      exact absurd ho (other o eq)
  · exact Iff.rfl

theorem Ev.rampDone_apart (wf : e.p.keyed) (hi : e.iso? slot = some i) (ne : c ≠ slot) (r : Ramp) :
    Ev.Apart slot i e (e.rampDone c r) :=
  ⟨e.rampDone_keyed c r wf, (e.rampDone_isosBut c r slot (by simpa using Ne.symm ne)).trans hi,
    (e.rampDone_within c r).ordersStay _⟩

theorem Ev.endOf_apart (wf : e.p.keyed) (hi : e.iso? slot = some i) (awake : i.state ≠ .waiting) (ne : c ≠ slot)
    (hj : e.iso? c = some j) (cause : IsoCause) : Ev.Apart slot i e (e.endOf c cause) := by
  refine ⟨e.endOf_keyed c cause wf, ?_, ?_⟩
  · obtain ⟨i', hi', rfl | ⟨waiting, _⟩⟩ := Ev.endOf_states wf hj cause hi (Ne.symm ne)
    · exact hi'
    · exact absurd waiting awake
  · rw [Ev.endOf_eq hj]
    have stopped := e.modIso_within c (f := fun i => { i with ramp := i.ramp.map fun r => { r with startTimer := none } })
      (fun _ => rfl) fun _ => rfl
    have withdrawn := Ev.withdrawOpens_ordersStay (r := ⟨slot, i.serial⟩) (s := ⟨c, j.serial⟩)
      (e.modIso_keyed c (fun i => { i with ramp := i.ramp.map fun r => { r with startTimer := none } }) wf)
      (fun same => ne (congrArg IsoRef.slot same))
    have emptied (g : Ev) : Ev.ordersStay ⟨slot, i.serial⟩ g (g.modIso c fun i => { i with toIssue := [] }) :=
      (g.modIso_within c (fun _ => rfl) fun _ => rfl).ordersStay _
    have wound : Ev.ordersStay ⟨slot, i.serial⟩ e (e.woundUp c j) := .last (emptied _) (.last withdrawn (stopped.ordersStay _))
    exact .last ((Ev.endIso_within _ _ _ _ _ _).ordersStay _) (.last ((Ev.disowned_within _ _ _).ordersStay _) wound)

theorem Ev.endingCheck_apart (wf : e.p.keyed) (hi : e.iso? slot = some i) (awake : i.state ≠ .waiting) (ne : c ≠ slot) :
    Ev.Apart slot i e (e.endingCheck c) := by
  cases hj : e.iso? c with
  | none =>
    simp only [Ev.endingCheck, hj]
    exact .refl wf hi
  | some j =>
    rw [Ev.endingCheck_eq hj]
    split
    · exact Ev.endOf_apart wf hi awake ne hj _
    · exact .refl wf hi

theorem Ev.completionCheck_apart (wf : e.p.keyed) (hi : e.iso? slot = some i) (awake : i.state ≠ .waiting) (ne : c ≠ slot) :
    Ev.Apart slot i e (e.completionCheck c) := by
  cases hj : e.iso? c with
  | none =>
    simp only [Ev.completionCheck, hj]
    exact .refl wf hi
  | some j =>
    cases hr : j.ramp with
    | none =>
      simp only [Ev.completionCheck, hj, hr]
      exact .refl wf hi
    | some r =>
      rw [Ev.completionCheck_eq hj hr]
      split
      · have done := Ev.rampDone_apart wf hi ne r
        exact done.trans (Ev.endingCheck_apart done.keyed done.iso awake ne)
      · exact .refl wf hi

theorem Ev.each_apart {cs : List Nat} (wf : e.p.keyed) (hi : e.iso? slot = some i) (awake : i.state ≠ .waiting)
    (out : slot ∉ cs) : Ev.Apart slot i e (e.each cs fun c e => e.checked c) := by
  induction cs generalizing e with
  | nil => exact .refl wf hi
  | cons c cs ih =>
    have ne : c ≠ slot := fun same => out (same ▸ List.mem_cons_self)
    have first := Ev.completionCheck_apart wf hi awake ne
    have both := first.trans (Ev.endingCheck_apart first.keyed first.iso awake ne)
    exact both.trans (ih both.keyed both.iso fun mem => out (List.mem_cons_of_mem _ mem))

theorem any_eq_of_map_eq {α : Type} {a b : Option α} {p : α → Bool} (h : a.map p = b.map p) : a.any p = b.any p := by
  have any (o : Option α) : o.any p = (o.map p).getD false := by cases o <;> rfl
  rw [any, any, h]

/-- The checks leave the fed flags. -/
theorem Ev.Checks.fed (h : e.Checks f) (k : Nat) : (f.pipe? k).map (·.fed) = (e.pipe? k).map (·.fed) := by
  cases hp : e.pipe? k with
  | none => rw [h.absent k hp]
  | some p =>
    obtain ⟨o, hq⟩ := h.pipes k p hp
    rw [hq]
    rfl

/-- What an isolation waits for before it can be complete with no station to read (R168). -/
theorem Ev.awaitsOpening_iff (wf : e.p.keyed) (hi : e.iso? slot = some i) : e.awaitsOpening ⟨slot, i.serial⟩ = true ↔
    (∃ id o, e.order? id = some o ∧ o.iso = ⟨slot, i.serial⟩ ∧ o.action = .reopen ∧ o.outstanding = true)
      ∨ ∃ x ∈ i.toIssue, x.action = .reopen := by
  obtain ⟨_, _, _, orders, _, _⟩ := wf
  have named : e.named? ⟨slot, i.serial⟩ = some i := by simp [Ev.named?, hi]
  rw [Ev.awaitsOpening, named, Bool.or_eq_true]
  refine or_congr ?_ (by simp)
  simp only [Bool.not_eq_true', List.isEmpty_eq_false_iff_exists_mem]
  constructor
  · rintro ⟨id, mem⟩
    obtain ⟨o, ho, test⟩ := (mem_tkeysWhere
      (p := fun _ o => o.outstanding && o.iso = ⟨slot, i.serial⟩ && o.action = .reopen) orders).1 mem
    simp only [Bool.and_eq_true, decide_eq_true_eq] at test
    exact ⟨id, o, ho, test.1.2, test.2, test.1.1⟩
  · rintro ⟨id, o, ho, own, reopen, out⟩
    exact ⟨id, (mem_tkeysWhere orders).2 ⟨o, ho, by simp [own, reopen, out]⟩⟩

/-- The checks of others leave it open whether the ramp is met. -/
theorem Ev.Apart.rampMet (wf : e.p.keyed) (hi : e.iso? slot = some i) (h : Ev.Apart slot i e f) (k : e.Checks f) (r : Ramp) :
    f.rampMet slot i r = e.rampMet slot i r := by
  have live : f.liveStations i = e.liveStations i := by
    rw [Ev.liveStations, Ev.liveStations, Ev.sectionStations, Ev.sectionStations, k.within.mon (by decide)]
  have waits : f.awaitsOpening ⟨slot, i.serial⟩ = e.awaitsOpening ⟨slot, i.serial⟩ := by
    rw [Bool.eq_iff_iff, Ev.awaitsOpening_iff h.keyed h.iso, Ev.awaitsOpening_iff wf hi]
    refine or_congr (exists₂_congr fun id o => ⟨?_, ?_⟩) Iff.rfl
    · rintro ⟨ho, own, rest⟩
      exact ⟨(h.orders id o own).1 ho, own, rest⟩
    · rintro ⟨ho, own, rest⟩
      exact ⟨(h.orders id o own).2 ho, own, rest⟩
  have fed (k' : Nat) : (f.pipe? k').any (·.fed) = (e.pipe? k').any (·.fed) := any_eq_of_map_eq (k.fed k')
  rw [Bool.eq_iff_iff, Ev.rampMet_iff, Ev.rampMet_iff, live, waits, k.within.applied (by decide)]
  simp only [fed]

/-- The checks of a restoring isolation itself. -/
theorem Ev.checked_ramp {r : Ramp} (wf : e.p.keyed) (hi : e.iso? slot = some i) (restoring : i.state = .restoring)
    (hr : i.ramp = some r) (clock : r.t0.isSome = true) : ∃ j q, (e.checked slot).iso? slot = some j ∧ j.ramp = some q
      ∧ (e.rampMet slot i r = true → q.complete = true ∧ (j.state = .relighting ∨ j.state = .ended))
      ∧ (e.rampMet slot i r = false → q = r ∧ j.state = .restoring) := by
  cases met : e.rampMet slot i r with
  | true =>
    obtain ⟨j, hj, ramp, state⟩ := Ev.completionCheck_of_met wf hi hr restoring clock met
    rw [Ev.checked, Ev.endingCheck_eq hj]
    split
    · obtain ⟨l, hl, ended, _, _, _, ramp'⟩ := Ev.endOf_iso hj (Ev.completionCheck_checks wf slot).keyed .relit
      rw [ramp] at ramp'
      exact ⟨l, _, hl, ramp', fun _ => ⟨rfl, .inr ended⟩, nofun⟩
    · refine ⟨j, _, hj, ramp, fun _ => ⟨rfl, ?_⟩, nofun⟩
      rw [state]
      split
      · exact .inr rfl
      · exact .inl rfl
  | false =>
    refine ⟨i, r, ?_, hr, nofun, fun _ => ⟨rfl, restoring⟩⟩
    rw [Ev.checked, Ev.completionCheck_of_unmet hi hr fun _ _ => met, Ev.endingCheck_eq hi, if_neg (by simp [restoring])]
    exact hi

/-- A restoring isolation when every isolation has been checked (R168, R195). -/
theorem Ev.appliedChecks_ramp {r : Ramp} (wf : e.p.keyed) (hi : e.iso? slot = some i) (restoring : i.state = .restoring)
    (hr : i.ramp = some r) (clock : r.t0.isSome = true) : ∃ j q, e.appliedChecks.iso? slot = some j ∧ j.ramp = some q
      ∧ (e.rampMet slot i r = true → q.complete = true ∧ (j.state = .relighting ∨ j.state = .ended))
      ∧ (e.rampMet slot i r = false → q = r ∧ j.state = .restoring) := by
  have mem : slot ∈ tkeys e.p.ctl.isos := tget_isSome_iff.1 (congrArg Option.isSome hi)
  have nodup : (tkeys e.p.ctl.isos).Nodup := List.Pairwise.imp (fun h => Nat.ne_of_lt h) (Plant.keyed_isos wf)
  obtain ⟨before, after, keys⟩ := List.append_of_mem mem
  rw [keys] at nodup
  obtain ⟨_, rest, disjoint⟩ := List.nodup_append.1 nodup
  have out : slot ∉ before := fun h => disjoint slot h slot List.mem_cons_self rfl
  have out' : slot ∉ after := (List.nodup_cons.1 rest).1
  rw [Ev.appliedChecks_eq, keys, Ev.each, List.foldl_append, List.foldl_cons]
  have first := Ev.each_apart wf hi (by simp [restoring]) out
  have same := first.rampMet wf hi (Ev.each_checks wf before) r
  rw [Ev.each] at first same
  obtain ⟨j, q, hj, ramp, yes, no⟩ := Ev.checked_ramp first.keyed first.iso restoring hr clock
  rw [same] at yes no
  have awake : j.state ≠ .waiting := by
    cases met : e.rampMet slot i r with
    | true => obtain ⟨_, state | state⟩ := yes met <;> simp [state]
    | false => simp [(no met).2]
  exact ⟨j, q, (Ev.each_apart (Ev.checked_checks first.keyed slot).keyed hj awake out').iso, ramp, yes, no⟩

end Apart

end Sys2Proof.Machine
end

section
/-! The ramp of RESTORE, from its stall to its completion: O48. -/

namespace Sys2Proof.Machine

-- One theorem after another: theorems checked side by side each hold a thread and its stack.
set_option Elab.async false

theorem Ev.liveStations_eq (e : Ev) (i : Isolation) : e.liveStations i
    = e.p.mon.stations.filter fun x => (x.2.cfg.node.any fun n => i.nodes.contains n)
      && (x.2.rt.freshness = .fresh || x.2.rt.freshness = .suspect) := by
  simp only [Ev.liveStations, Ev.sectionStations, List.filter_filter, StationRt.nonStale, Bool.and_comm]

/-- Settles O48: the stall and its timer, the ramp resumed, a sample judged, and the completion check. -/
theorem rampStallsAndResumes : Obligations.RampStallsAndResumes := by
  unfold Obligations.RampStallsAndResumes
  refine ⟨fun s slot d i r running hi restoring hr timer due open_ => ?_, fun s f i h wf hp hr hs hi hser => ?_,
    fun s f x slot node t0 i r h wf hl path hn hx => ?_, fun s start slot t0 v i r running wf hv hi restoring hr ht => ?_⟩
  · refine congrArg Host.Outcome.next ((if_neg (by simp [running])).trans (State.event_start ?_))
    rw [Ev.rampStartExpiry_of_reached (e := s.ev) hi restoring hr timer due open_]
    rfl
  · have run := exec_rampResume h hp
    rw [State.onNamed_found (by simpa using hr) hs hi hser] at run
    refine ⟨fun r ramp restoring stalled => ?_, fun not => ?_⟩
    · obtain ⟨g, x, j, q, eq, keyed, hj, hq, stall, frozen, increment, target, clock, timer⟩ :=
        Ev.resumeNamed_ramp (e := s.ev) wf hi ramp restoring stalled
      rw [eq] at run
      obtain ⟨l, _, settled⟩ := Ev.settle_iso (Plant.keyed_isos keyed) hj
      exact ⟨_, _, q, run, settled, hq, stall, frozen, increment, target, clock, timer⟩
    · have refused : s.ev.resumeNamed (field f.payload 0 1) i = (s.ev, ⟨.wrongState, []⟩) := by
        cases ramp : i.ramp with
        | none => simp only [Ev.resumeNamed, ramp]
        | some r =>
          simp only [Ev.resumeNamed, ramp]
          refine if_pos ?_
          obtain none | other | free := not
          · cases none.symm.trans ramp
          · simp [other]
          · simp [free r ramp]
      rw [run, refused]
      rfl
  · intro id now time low high order bound hi restoring hr ht nodup mem only steps expected lags relit
    have screened : rawFaulty (field f.payload 4 2) = false := by simp [rawFaulty]; omega
    have run : exec .telemetry s = .next (s.taken f (s.ev.telemetered id x (field f.payload 4 2) time,
        ⟨.ok, be 2 1 ++ be 2 0 ++ be 1 1⟩)) := by
      rw [exec_telemetry_taken (path := .ok) h (by omega) (by rw [path]; rfl) (by omega) (by omega) hx, samplesOf_one hn]
      exact congrArg (fun r => Host.Outcome.next (s.taken f r)) (Ev.takeReport_of_accepted (e := s.ev) hx screened order)
    obtain ⟨own, _, _⟩ := Ev.telemetered_mon (e := s.ev) hx (field f.payload 4 2) time
    obtain ⟨g, q, j, q', ⟨⟨_, _, _, _, _, complete⟩, held, stations, stalls, goes⟩, out, keyed, hj, hq, met, unmet⟩ :=
      Ev.telemetered_ramp (e := s.ev) hx (field f.payload 4 2) time wf bound hi restoring hr ht nodup mem only
    generalize s.ev.telemetered id x (field f.payload 4 2) time = e at run own out keyed hj met unmet
    obtain ⟨l, _, settled⟩ := Ev.settle_iso (Plant.keyed_isos keyed) hj
    have reached : e.settle.rampReached i r ↔ e.rampReached i r := by rw [Ev.rampReached, Ev.settle_mon]; rfl
    have same : q'.stations = q.stations ∧ q'.stall = q.stall ∧ q'.frozen = q.frozen := by
      by_cases done : e.rampReached i r
      · rw [(met done).1]
        exact ⟨rfl, rfl, rfl⟩
      · rw [(unmet done).1]
        exact ⟨rfl, rfl, rfl⟩
    obtain ⟨sameStations, sameStall, sameFrozen⟩ := same
    rw [← sameStall, ← sameFrozen] at goes
    rw [← sameStations] at stations
    rw [← sameStall, ← sameFrozen] at stalls
    refine ⟨_, { j with toIssue := l }, q', (x.counted.sampled (field f.payload 4 2) false time).rt.value, e.settle.out, run,
      ?_, settled, hq, rfl, ?_, ?_, ?_⟩
    · rw [State.taken_plant, Ev.settle_mon]
      exact congrArg (Option.map fun y => roundDiv y.rt.s16 16) own
    · intro free late
      refine ⟨stations free late, fun y hy at_ three => ?_, goes free late⟩
      obtain ⟨stall, frozen, noted⟩ := stalls free late y hy at_ three
      exact ⟨stall, frozen, (out.trans (Ev.settle_within e).out).subset noted⟩
    · intro kept
      rw [sameStations, sameStall, sameFrozen, held kept]
      exact ⟨rfl, rfl, rfl⟩
    · have relights : relit ↔ s.ev.allRelit i = true := (s.ev.allRelit_iff i).symm
      refine ⟨fun all => ?_, fun not => ?_⟩
      · obtain ⟨done, state⟩ := met (reached.1 all)
        refine ⟨by rw [done], fun yes => state.trans (if_pos (relights.1 yes)),
          fun no => state.trans (if_neg fun yes => no (relights.2 yes))⟩
      · obtain ⟨going, state⟩ := unmet fun all => not (reached.2 all)
        exact ⟨by rw [going]; exact complete, state⟩
  · intro live
    have run : exec .recomputeCompletion s = .next (s.event Ev.recomputeCompletion) := by
      refine congrArg Host.Outcome.next ?_
      simp only [running]
    have eq := Ev.recomputeCompletion_eq (e := s.ev) running
    have frame := s.ev.attributed_within start ⟨v.reached, v.edges⟩
    have keyed := s.ev.attributed_keyed start ⟨v.reached, v.edges⟩ wf
    have applied := s.ev.attributed_applied start ⟨v.reached, v.edges⟩
    generalize s.ev.attributed start ⟨v.reached, v.edges⟩ = e at eq frame keyed applied
    have there : e.iso? slot = some i := (frame.iso_same slot).trans hi
    obtain ⟨j, q, hj, hq, yes, no⟩ := Ev.appliedChecks_ramp keyed there restoring hr (by rw [ht]; rfl)
    have checks := Ev.each_checks keyed (tkeys e.p.ctl.isos)
    rw [← Ev.appliedChecks_eq] at checks
    generalize e.appliedChecks = g at eq hj checks
    obtain ⟨l, _, settled⟩ := Ev.settle_iso (Plant.keyed_isos checks.keyed) hj
    have plant : (s.event Ev.recomputeCompletion).plant = g.settle.p := by rw [State.event, eq]
    generalize s.event Ev.recomputeCompletion = t at run plant
    rw [Ev.iso?, ← plant] at settled
    refine ⟨t, { j with toIssue := l }, q, run, settled, hq, ?_⟩
    intro met
    have reached : met ↔ e.rampMet slot i r = true := by
      have sameLive : e.liveStations i = live := by
        rw [Ev.liveStations_eq, frame.mon (by decide)]
      have waits : e.awaitsOpening ⟨slot, i.serial⟩ = false ↔
          (∀ x ∈ s.plant.ctl.orders, x.2.iso = ⟨slot, i.serial⟩ → x.2.action = .reopen → x.2.state ≠ .issued ∧ x.2.state ≠ .accepted)
            ∧ ∀ x ∈ i.toIssue, x.action ≠ .reopen := by
        obtain ⟨_, _, _, orders, _, _⟩ := wf
        have order? (id : Nat) : e.order? id = tget s.plant.ctl.orders id := congrArg (tget · id) (frame.orders (by decide)).1
        rw [← Bool.not_eq_true, Ev.awaitsOpening_iff keyed there, not_or]
        simp only [order?]
        constructor
        · rintro ⟨none, list⟩
          refine ⟨fun x hx own reopen => ?_, fun x hx reopen => list ⟨x, hx, reopen⟩⟩
          have finished : x.2.outstanding ≠ true := fun out => none ⟨x.1, x.2, tget_of_mem orders hx, own, reopen, out⟩
          simpa [Order.outstanding] using finished
        · rintro ⟨none, list⟩
          refine ⟨?_, fun ⟨x, hx, reopen⟩ => list x hx reopen⟩
          rintro ⟨id, o, ho, own, reopen, out⟩
          obtain ⟨issued, accepted⟩ := none (id, o) (mem_of_tget ho) own reopen
          simp [Order.outstanding, issued, accepted] at out
      have fed : (∀ k ∈ i.section?, (e.pipe? k).any (·.fed) = true) ↔ ∀ pl, i.plan = some pl → ∀ k ∈ pl.pipes,
          ∃ p, tget t.plant.net.pipes k = some p ∧ p.fed = true := by
        have same (k : Nat) : (tget t.plant.net.pipes k).map (·.fed) = (e.pipe? k).map (·.fed) := by
          rw [plant, Ev.settle_net_pipes]
          exact checks.fed k
        have pipe (k : Nat) : (e.pipe? k).any (·.fed) = true ↔ ∃ p, tget t.plant.net.pipes k = some p ∧ p.fed = true := by
          rw [← Option.any_eq_true, any_eq_of_map_eq (same k)]
        simp only [pipe]
        unfold Isolation.section?
        cases i.plan with
        | none => simp
        | some pl => simp
      rw [Ev.rampMet_iff, sameLive, waits, applied, fed]
      exact or_congr Iff.rfl (by tauto)
    refine ⟨fun all => yes (reached.1 all), fun none => no ?_⟩
    simpa using mt reached.2 none

end Sys2Proof.Machine
end

section
/-! Supply, pending and owners that a completed recompute assigns (R44, R45, R181 to R183): O36. -/

namespace Sys2Proof.Machine

-- One theorem after another: theorems checked side by side each hold a thread and its stack.
set_option Elab.async false

/-! ## The least time, the lowest key where times are shared -/

/-- Of two records with a time, the one that is taken first. -/
def noLater (a b : Nat × Nat) : Prop := a.2 < b.2 ∨ (a.2 = b.2 ∧ a.1 ≤ b.1)

theorem noLater.trans {a b c : Nat × Nat} (h : noLater a b) (k : noLater b c) : noLater a c := by
  unfold noLater at *
  omega

theorem foldl_noLater (rest : List (Nat × Nat)) (best : Nat × Nat) (rising : ((best :: rest).map (·.1)).Pairwise (· < ·)) :
    rest.foldl (fun (best : Nat × Nat) x => if x.2 < best.2 then x else best) best ∈ best :: rest
      ∧ ∀ x ∈ best :: rest, noLater (rest.foldl (fun (best : Nat × Nat) x => if x.2 < best.2 then x else best) best) x := by
  induction rest generalizing best with
  | nil =>
    refine ⟨List.mem_cons_self, fun x hx => ?_⟩
    obtain rfl := List.mem_singleton.1 hx
    exact .inr ⟨rfl, Nat.le_refl _⟩
  | cons y ys ih =>
    simp only [List.map_cons, List.pairwise_cons, List.mem_cons, forall_eq_or_imp] at rising
    obtain ⟨⟨lt, all⟩, all', rest⟩ := rising
    rw [List.foldl_cons]
    split
    · next earlier =>
      obtain ⟨mem, least⟩ := ih y (List.pairwise_cons.2 ⟨all', rest⟩)
      refine ⟨List.mem_cons_of_mem _ mem, fun x hx => ?_⟩
      obtain rfl | hx := List.mem_cons.1 hx
      · exact (least y List.mem_cons_self).trans (.inl earlier)
      · exact least x hx
    · next later =>
      obtain ⟨mem, least⟩ := ih best (List.pairwise_cons.2 ⟨all, rest⟩)
      refine ⟨?_, fun x hx => ?_⟩
      · obtain own | mem := List.mem_cons.1 mem
        · rw [own]
          exact List.mem_cons_self
        · exact List.mem_cons_of_mem _ (List.mem_cons_of_mem _ mem)
      · obtain rfl | hx := List.mem_cons.1 hx
        · exact least x List.mem_cons_self
        · obtain rfl | hx := List.mem_cons.1 hx
          · refine (least best List.mem_cons_self).trans ?_
            unfold noLater
            omega
          · exact least x (List.mem_cons_of_mem _ hx)

theorem oldestKey_eq {l : List (Nat × Nat)} (rising : (l.map (·.1)).Pairwise (· < ·)) {c t : Nat} (mem : (c, t) ∈ l)
    (least : ∀ x ∈ l, noLater (c, t) x) : oldestKey l = some c := by
  cases l with
  | nil => cases mem
  | cons best rest =>
    obtain ⟨k, time⟩ := best
    obtain ⟨found, first⟩ := foldl_noLater rest (k, time) rising
    have before := least _ found
    have after := first _ mem
    refine congrArg some ?_
    unfold noLater at before after
    omega

/-! ## What an attribution looks at (R182) -/

section Owner
variable {e : Ev} {k : Nat} {p : PipeRt}

theorem IsoState.shuts_iff (s : IsoState) : s.shuts = true ↔ s = .closing ∨ s = .verifying ∨ s = .effective := by
  cases s <;> simp [IsoState.shuts]

theorem Ev.mem_cutters (wf : tableWf e.p.ctl.isos) {c t : Nat} : (c, t) ∈ e.cutters k ↔
    ∃ i, e.iso? c = some i ∧ i.state.shuts = true ∧ k ∈ i.cutoff ∧ i.authTime.getD 0 = t := by
  simp only [Ev.cutters, List.mem_filterMap]
  constructor
  · rintro ⟨x, hx, taken⟩
    split at taken
    · next cuts =>
      simp only [Bool.and_eq_true, List.contains_iff_mem] at cuts
      simp only [Option.some.injEq, Prod.mk.injEq] at taken
      obtain ⟨rfl, rfl⟩ := taken
      exact ⟨x.2, tget_of_mem wf hx, cuts.1, cuts.2, rfl⟩
    · cases taken
  · rintro ⟨i, hi, shuts, mem, rfl⟩
    exact ⟨(c, i), mem_of_tget hi, by simp [shuts, mem]⟩

theorem Ev.cutters_rising (wf : tableWf e.p.ctl.isos) (k : Nat) : ((e.cutters k).map (·.1)).Pairwise (· < ·) := by
  rw [List.pairwise_map]
  refine List.Pairwise.filterMap _ (fun x y lt b hb c hc => ?_) (List.pairwise_map.1 wf)
  split at hb
  · split at hc
    · obtain rfl := Option.some.inj hb
      obtain rfl := Option.some.inj hc
      exact lt
    · cases hc
  · cases hb

theorem Ev.recordShuts_iff (e : Ev) (x : Nat) : e.recordShuts x = true ↔ ∃ o r i, e.record? x = some o ∧ o.iso = some r
    ∧ e.iso? r.slot = some i ∧ i.serial = r.serial ∧ i.state.shuts = true := by
  cases ho : e.record? x with
  | none => simp [Ev.recordShuts, ho]
  | some o =>
    cases hr : o.iso with
    | none => simp [Ev.recordShuts, ho, hr]
    | some r =>
      cases hi : e.iso? r.slot with
      | none => simp [Ev.recordShuts, ho, hr, hi, Ev.named?]
      | some i =>
        by_cases own : i.serial = r.serial
        · simp [Ev.recordShuts, ho, hr, hi, Ev.named?, own]
        · simp [Ev.recordShuts, ho, hr, hi, Ev.named?, own]

theorem Ev.ownerOf_of_gas (gas : p.supply = .live ∨ p.supply = .recharging) :
    e.ownerOf k p = if p.pending = ⟨0, 0, 0⟩ then none else p.owner := by
  obtain live | recharging := gas
  · simp only [Ev.ownerOf, live, Counts.isZero_iff]
  · simp only [Ev.ownerOf, recharging, Counts.isZero_iff]

/-- The owner of a pipe without gas (R182). -/
theorem Ev.ownerOf_of_shut (shut : p.supply = .dead ∨ p.supply = .isolated) (claim : p.claim = none) : e.ownerOf k p
    = if p.owner = some 0 ∨ (∃ x, p.owner = some x ∧ e.recordShuts x = true) then p.owner
      else ((oldestKey (e.cutters k)).map e.recordOfSlot).getD (some 0) := by
  have kept : (p.owner = some 0 || (p.owner.map e.recordShuts).getD false) = true
      ↔ p.owner = some 0 ∨ ∃ x, p.owner = some x ∧ e.recordShuts x = true := by
    cases p.owner <;> simp
  have eq : e.ownerOf k p = if p.owner = some 0 || (p.owner.map e.recordShuts).getD false then p.owner
      else ((oldestKey (e.cutters k)).map e.recordOfSlot).getD (some 0) := by
    obtain dead | isolated := shut
    · simp only [Ev.ownerOf, dead, claim]
      cases oldestKey (e.cutters k) <;> rfl
    · simp only [Ev.ownerOf, isolated, claim]
      cases oldestKey (e.cutters k) <;> rfl
  rw [eq]
  exact if_congr kept rfl rfl

theorem Ev.ownerOf_of_claim (shut : p.supply = .dead ∨ p.supply = .isolated) {c : Nat} (claim : p.claim = some c) :
    e.ownerOf k p = e.recordOfSlot c := by
  obtain dead | isolated := shut
  · simp only [Ev.ownerOf, dead, claim]
  · simp only [Ev.ownerOf, isolated, claim]

end Owner

/-! ## The assignment (R44, R45, R181) -/

theorem PipeRt.assign_eq (p : PipeRt) (fed : Bool) (claimer : Option IsoState) (service : Counts) :
    p.assign fed claimer service = { p with
      fed := fed, supply := assignedSupply fed claimer, isNew := false
      pending := if (assignedSupply fed claimer = .dead ∨ assignedSupply fed claimer = .isolated)
        ∧ (p.supply = .live ∨ p.supply = .recharging ∨ p.isNew = true) then service else p.pending } := by
  have loses : ((assignedSupply fed claimer = .dead || assignedSupply fed claimer = .isolated)
      && (p.supply = .live || p.supply = .recharging || p.isNew)) = true
      ↔ (assignedSupply fed claimer = .dead ∨ assignedSupply fed claimer = .isolated)
        ∧ (p.supply = .live ∨ p.supply = .recharging ∨ p.isNew = true) := by
    simp [or_assoc]
  unfold PipeRt.assign lossOfSupply
  by_cases lost : (assignedSupply fed claimer = .dead ∨ assignedSupply fed claimer = .isolated)
      ∧ (p.supply = .live ∨ p.supply = .recharging ∨ p.isNew = true)
  · rw [if_pos lost]
    exact if_pos (loses.2 lost)
  · rw [if_neg lost]
    exact if_neg (mt loses.1 lost)

/-- Settles O36: the flood applied, the owners found, and the checks. -/
theorem recomputeAssignsSupply : Obligations.RecomputeAssignsSupply := by
  unfold Obligations.RecomputeAssignsSupply
  intro s start v running wf hv reached n iso shuts recordOf
  have run : exec .recomputeCompletion s = .next (s.event Ev.recomputeCompletion) := by
    refine congrArg Host.Outcome.next ?_
    simp only [running]
  have eq := Ev.recomputeCompletion_eq (e := s.ev) running
  have frame := s.ev.attributed_within start ⟨v.reached, v.edges⟩
  have keyed := s.ev.attributed_keyed start ⟨v.reached, v.edges⟩ wf
  have applied := s.ev.attributed_applied start ⟨v.reached, v.edges⟩
  have node := s.ev.attributed_node start ⟨v.reached, v.edges⟩
  have pipe := s.ev.attributed_pipe start ⟨v.reached, v.edges⟩
  generalize s.ev.attributed start ⟨v.reached, v.edges⟩ = e at eq frame keyed applied node pipe
  have checks := Ev.each_checks keyed (tkeys e.p.ctl.isos)
  rw [← Ev.appliedChecks_eq] at checks
  generalize e.appliedChecks = g at eq checks
  have plant : (s.event Ev.recomputeCompletion).plant = g.settle.p := by rw [State.event, eq]
  generalize s.event Ev.recomputeCompletion = t at run plant
  refine ⟨t, run, ?_⟩
  intro ends
  have iso? (c : Nat) : e.iso? c = iso c := frame.iso_same c
  have ended (c : Nat) : ends c = e.endsIn g c := by
    have state : (tget t.plant.ctl.isos c).map (·.state) = (g.iso? c).map (·.state) := by
      rw [plant]
      exact Ev.settle_iso_state (Plant.keyed_isos checks.keyed) c
    have over_ : (tget t.plant.ctl.isos c).any (fun j => j.state = .ended) = (g.iso? c).any (fun j => j.state = .ended) :=
      any_eq_of_map_eq (by simpa [Function.comp_def] using congrArg (Option.map fun s => decide (s = .ended)) state)
    rw [Ev.endsIn, iso?, ← over_]
    rfl
  have all : Ev.Within Part.recomputing s.ev g := .last checks.within (.of frame)
  have calm (none : ∀ c, ends c = false) : Ev.Within [.isos, .ask] e g := checks.calm fun c => (ended c).symm.trans (none c)
  refine ⟨fun k l hl p hp => ?_, fun k => ?_, ?_, ?_, ?_, fun calm' => ⟨?_, ?_⟩, fun ⟨c, past⟩ => ?_⟩
  · intro fed supply gone
    have written : s.ev.assigned ⟨v.reached, v.edges⟩ k p = { p with
        fed := fed, supply := supply, isNew := false
        pending := if (supply = .dead ∨ supply = .isolated) ∧ (p.supply = .live ∨ p.supply = .recharging ∨ p.isNew = true)
          then l.service else p.pending } := by
      have service : ((s.ev.link? k).map Link.service).getD {} = l.service := by
        rw [show s.ev.link? k = some l from hl]
        rfl
      rw [Ev.assigned, service, PipeRt.assign_eq]
      rfl
    have before := pipe k
    rw [show s.ev.pipe? k = some p from hp, Option.map_some, written] at before
    clear_value fed supply
    obtain ⟨o, after⟩ := checks.pipes k _ before
    have same : p.claim.any (e.endsIn g) = gone := congrArg (p.claim.any ·) (funext fun c => (ended c).symm)
    rw [same] at after
    rw [Ev.pipe?, ← Ev.settle_net_pipes, ← plant] at after
    refine ⟨_, after, rfl, rfl, rfl, rfl, rfl, fun none => ?_⟩
    have kept : o = s.ev.ownerOf k { p with
        fed := fed, supply := supply, isNew := false
        pending := if (supply = .dead ∨ supply = .isolated) ∧ (p.supply = .live ∨ p.supply = .recharging ∨ p.isNew = true)
          then l.service else p.pending } := by
      have stays : tget t.plant.net.pipes k = e.pipe? k := by
        rw [plant, Ev.settle_net_pipes, (calm none).pipes (by decide)]
        rfl
      rw [before] at stays
      exact congrArg PipeRt.owner (Option.some.inj (after.symm.trans stays))
    have isos := Plant.keyed_isos wf
    have shutting (x : Nat) : s.ev.recordShuts x = true ↔ ∃ o r i, tget s.plant.led.records x = some o ∧ o.iso = some r
        ∧ iso r.slot = some i ∧ i.serial = r.serial ∧ shuts i := by
      simp only [Ev.recordShuts_iff, IsoState.shuts_iff]
      rfl
    refine ⟨fun gas => kept.trans (Ev.ownerOf_of_gas gas), fun shut => ⟨fun c claim => kept.trans (Ev.ownerOf_of_claim shut claim),
      fun claim zero => ?_, fun claim x own _ stays => ?_, fun claim loses => ?_⟩⟩
    · exact (kept.trans (Ev.ownerOf_of_shut shut claim)).trans ((if_pos (.inl zero)).trans zero)
    · refine (kept.trans (Ev.ownerOf_of_shut shut claim)).trans ((if_pos (.inr ⟨x, own, (shutting x).2 stays⟩)).trans own)
    · have passes := (kept.trans (Ev.ownerOf_of_shut shut claim)).trans (if_neg (by
        rintro (zero | ⟨x, own, shut⟩)
        · exact (loses 0 zero).1 rfl
        · exact (loses x own).2 ((shutting x).1 shut)))
      refine ⟨fun c i hi cuts mem first => passes.trans ?_, fun uncut => passes.trans ?_⟩
      · have oldest : oldestKey (s.ev.cutters k) = some c := by
          refine oldestKey_eq (s.ev.cutters_rising isos k)
            ((Ev.mem_cutters isos).2 ⟨i, hi, (IsoState.shuts_iff _).2 cuts, mem, rfl⟩) fun x hx => ?_
          obtain ⟨j, hj, cuts', mem', time⟩ := (Ev.mem_cutters (c := x.1) (t := x.2) isos).1 hx
          rw [noLater, ← time]
          exact first x.1 j hj ((IsoState.shuts_iff _).1 cuts') mem'
        rw [oldest]
        rfl
      · have empty : s.ev.cutters k = [] := List.eq_nil_iff_forall_not_mem.2 fun x hx => by
          obtain ⟨j, hj, cuts', mem', _⟩ := (Ev.mem_cutters (c := x.1) (t := x.2) isos).1 hx
          exact uncut x.1 j hj ((IsoState.shuts_iff _).1 cuts') mem'
        rw [empty]
        rfl
  · rw [plant, Ev.settle_net_nodes, checks.within.nodes (by decide)]
    exact node k
  · rw [plant]
    exact (g.settle_within.applied (by decide)).trans ((checks.within.applied (by decide)).trans applied)
  · rw [plant, Ev.settle_net_links]
    exact all.links (by decide)
  · rw [plant, Ev.settle_mon]
    exact all.mon (by decide)
  · rw [plant, Ev.settle_net_generation, ((calm calm').still (by decide) (by decide) (by decide)).1]
    exact (frame.still (by decide) (by decide) (by decide)).1
  · rw [plant, Ev.settle_reg, (calm calm').reg (by decide)]
    exact frame.reg (by decide)
  · rw [plant, Ev.settle_net_generation]
    exact all.bumped_generation rfl (checks.bumps c ((ended c).symm.trans past))

end Sys2Proof.Machine
end

section
/-! Stage A of a trace (R32 to R36): what the walk holds at each step, and what it holds when it is done. -/

namespace Sys2Proof.Machine

-- One theorem after another: theorems checked side by side each hold a thread and its stack.
set_option Elab.async false

/-! ## What a walk holds -/

/-- The ends of all links. -/
def WalkEnv.ends (v : WalkEnv) : List Nat := v.e.p.net.links.flatMap fun x => [x.2.endA, x.2.endB]

/-- A valve ends at one of some nodes, or a regulator has its outlet there (R33). -/
def WalkEnv.meets (v : WalkEnv) (k : Nat) (nodes : List Nat) : Prop :=
  ∃ l, v.e.link? k = some l ∧ l.kind ≠ .pipe ∧ (l.endB ∈ nodes ∨ (l.kind = .valve ∧ l.endA ∈ nodes))

/-- What holds of the working sets after each step of stage A (R33 to R36). -/
structure Walk.Sound (v : WalkEnv) (w : Walk) : Prop where
  nodes : ∀ n ∈ w.nodes, n ∈ v.ends ∧ (tget v.e.p.net.nodes n).any (·.source) = false
  free : ∀ k ∈ w.pipes, v.claimer? k = none
  closure : ∀ m ∈ w.closure, v.meets m.link w.nodes ∧ m.order = !v.e.isClosed m.link
    ∧ (v.e.isClosed m.link = true ∨ v.e.workable m.link = true)
  passed : ∀ k ∈ w.passed, v.meets k w.nodes ∧ v.e.isClosed k = false ∧ v.e.workable k = false
  nodup : w.pipes.Nodup ∧ w.nodes.Nodup ∧ w.passed.Nodup ∧ (w.closure.map fun m => m.link).Nodup
  size : w.pipes.length + w.passed.length ≤ v.limit
  members : w.closure.length ≤ Config.closureMembers

/-- Both ends of each pipe of the section, and of each link passed, are among the nodes. -/
structure Walk.Closed (v : WalkEnv) (w : Walk) : Prop where
  pipes : ∀ k ∈ w.pipes, ∀ l, v.e.link? k = some l → l.endA ∈ w.nodes ∧ l.endB ∈ w.nodes
  passed : ∀ k ∈ w.passed, ∀ l, v.e.link? k = some l → l.endA ∈ w.nodes ∧ l.endB ∈ w.nodes

/-- The working sets grow; the nodes in the order they were queued. -/
structure Walk.Grows (w w' : Walk) : Prop where
  pipes : w.pipes ⊆ w'.pipes
  nodes : w.nodes <+: w'.nodes
  closure : w.closure ⊆ w'.closure
  passed : w.passed ⊆ w'.passed

theorem Walk.Grows.refl (w : Walk) : w.Grows w := ⟨fun _ h => h, List.prefix_rfl, fun _ h => h, fun _ h => h⟩

theorem Walk.Grows.trans {w w' w'' : Walk} (h : w.Grows w') (k : w'.Grows w'') : w.Grows w'' :=
  ⟨fun _ m => k.pipes (h.pipes m), h.nodes.trans k.nodes, fun _ m => k.closure (h.closure m), fun _ m => k.passed (h.passed m)⟩

theorem WalkEnv.meets.mono {v : WalkEnv} {k : Nat} {ns ns' : List Nat} (h : v.meets k ns) (sub : ns ⊆ ns') : v.meets k ns' := by
  obtain ⟨l, hl, kind, outlet | ⟨valve, inlet⟩⟩ := h
  · exact ⟨l, hl, kind, .inl (sub outlet)⟩
  · exact ⟨l, hl, kind, .inr ⟨valve, sub inlet⟩⟩

/-- An early stop ends the steps after it. -/
theorem Walked.bind_ok {x : Walked} {f : Walk → Walked} {w' : Walk} (h : x >>= f = .ok w') : ∃ w, x = .ok w ∧ f w = .ok w' := by
  cases x with
  | error o => cases h
  | ok w => exact ⟨w, rfl, h⟩

theorem nodup_snoc {l : List Nat} {k : Nat} (h : l.Nodup) (hk : k ∉ l) : (l ++ [k]).Nodup :=
  List.nodup_append.2 ⟨h, List.nodup_singleton k, by
    rintro a ha b hb rfl
    obtain rfl := List.mem_singleton.1 hb
    exact hk ha⟩

section Steps
variable {v : WalkEnv} {w w' : Walk} {n k far : Nat}

theorem Walk.queueNode_ok (h : w.queueNode v n = .ok w') (sound : w.Sound v) (hn : n ∈ v.ends) :
    w'.Sound v ∧ (∃ ns, w' = { w with nodes := ns } ∧ w.nodes <+: ns) ∧ n ∈ w'.nodes := by
  unfold Walk.queueNode at h
  split at h
  · next queued =>
    obtain rfl := Except.ok.inj h
    exact ⟨sound, ⟨w.nodes, rfl, List.prefix_rfl⟩, by simpa using queued⟩
  · next new =>
    split at h
    · cases h
    · next source =>
      obtain rfl := Except.ok.inj h
      have sub : w.nodes ⊆ w.nodes ++ [n] := fun _ m => List.mem_append_left _ m
      obtain ⟨pipes, nodes, passed, closure⟩ := sound.nodup
      refine ⟨⟨fun m hm => ?_, sound.free, fun m hm => ?_, fun j hj => ?_, ⟨pipes, ?_, passed, closure⟩, sound.size,
          sound.members⟩,
        ⟨_, rfl, List.prefix_append _ _⟩, by simp⟩
      · obtain old | rfl := by simpa using hm
        · exact sound.nodes m old
        · exact ⟨hn, by simpa using source⟩
      · obtain ⟨meets, rest⟩ := sound.closure m hm
        exact ⟨meets.mono sub, rest⟩
      · obtain ⟨meets, rest⟩ := sound.passed j hj
        exact ⟨meets.mono sub, rest⟩
      · exact nodup_snoc nodes (by simpa using new)

theorem Walk.sized_ok (h : w.sized v = .ok w') : w' = w ∧ w.pipes.length + w.passed.length ≤ v.limit := by
  unfold Walk.sized at h
  split at h
  · cases h
  · next small =>
    exact ⟨(Except.ok.inj h).symm, Nat.not_lt.1 small⟩

theorem Walk.joinPipe_ok (h : w.joinPipe v k = .ok w') (sound : w.Sound v) :
    w'.Sound v ∧ ∃ ps, w' = { w with pipes := ps } ∧ ∀ j, j ∈ ps ↔ j ∈ w.pipes ∨ j = k := by
  unfold Walk.joinPipe at h
  cases free : v.claimer? k with
  | some r =>
    simp only [free] at h
    cases h
  | none =>
    simp only [free] at h
    split at h
    · next there =>
      obtain rfl := Except.ok.inj h
      refine ⟨sound, w.pipes, rfl, fun j => ⟨.inl, ?_⟩⟩
      rintro (old | rfl)
      · exact old
      · simpa using there
    · next new =>
      obtain ⟨rfl, size⟩ := Walk.sized_ok h
      obtain ⟨pipes, nodes, passed, closure⟩ := sound.nodup
      refine ⟨⟨sound.nodes, fun j hj => ?_, sound.closure, sound.passed,
        ⟨nodup_snoc pipes (by simpa using new), nodes, passed, closure⟩,
        size, sound.members⟩, _, rfl, fun j => by simp⟩
      obtain old | rfl := by simpa using hj
      · exact sound.free j old
      · exact free

theorem Walk.close_ok {order : Bool} (h : w.close k order = .ok w') (sound : w.Sound v) (meets : v.meets k w.nodes)
    (state : order = !v.e.isClosed k ∧ (v.e.isClosed k = true ∨ v.e.workable k = true))
    (new : ∀ m ∈ w.closure, m.link ≠ k) : w' = { w with closure := w.closure ++ [⟨k, order⟩] } ∧ w'.Sound v := by
  unfold Walk.close at h
  split at h
  · cases h
  · next room =>
    obtain rfl := Except.ok.inj h
    obtain ⟨pipes, nodes, passed, closure⟩ := sound.nodup
    refine ⟨rfl, sound.nodes, sound.free, fun m hm => ?_, sound.passed, ⟨pipes, nodes, passed, ?_⟩, sound.size, ?_⟩
    · obtain old | rfl := by simpa using hm
      · exact sound.closure m old
      · exact ⟨meets, state⟩
    · rw [List.map_append]
      exact nodup_snoc closure (by simpa using new)
    · simp only [List.length_append, List.length_singleton]
      omega

/-- A link classified is in the closure set or passed; what it is passed to is queued (R34, R35). -/
theorem Walk.classify_ok (h : w.classify v k far = .ok w') (sound : w.Sound v) (meets : v.meets k w.nodes) (hf : far ∈ v.ends) :
    w'.Sound v ∧ w.Grows w' ∧ w'.pipes = w.pipes ∧ (k ∈ w'.passed ∨ ∃ m ∈ w'.closure, m.link = k)
      ∧ ∀ j ∈ w'.passed, j ∈ w.passed ∨ (j = k ∧ far ∈ w'.nodes) := by
  unfold Walk.classify at h
  split at h
  · next known =>
    obtain rfl := Except.ok.inj h
    exact ⟨sound, .refl w, rfl, by simpa using known, fun j hj => .inl hj⟩
  · next new =>
    simp only [Bool.or_eq_true, List.contains_iff_mem, List.any_eq_true, decide_eq_true_eq, not_or, not_exists, not_and] at new
    obtain ⟨unpassed, unclosed⟩ := new
    have closed {order : Bool} (h : w.close k order = .ok w')
        (state : order = !v.e.isClosed k ∧ (v.e.isClosed k = true ∨ v.e.workable k = true)) :
        w'.Sound v ∧ w.Grows w' ∧ w'.pipes = w.pipes ∧ (k ∈ w'.passed ∨ ∃ m ∈ w'.closure, m.link = k)
          ∧ ∀ j ∈ w'.passed, j ∈ w.passed ∨ (j = k ∧ far ∈ w'.nodes) := by
      obtain ⟨rfl, sound'⟩ := Walk.close_ok h sound meets state unclosed
      exact ⟨sound', ⟨fun _ m => m, List.prefix_rfl, fun _ m => List.mem_append_left _ m, fun _ m => m⟩, rfl,
        .inr ⟨_, List.mem_append_right _ (List.mem_singleton.2 rfl), rfl⟩, fun j hj => .inl hj⟩
    split at h
    · next shut => exact closed h ⟨by rw [shut]; rfl, .inl shut⟩
    · next opened =>
      split at h
      · next works => exact closed h ⟨by simpa using opened, .inr works⟩
      · next broken =>
        obtain ⟨u, sized, queued⟩ := Walked.bind_ok h
        obtain ⟨rfl, size⟩ := Walk.sized_ok sized
        obtain ⟨pipes, nodes, passed, closure⟩ := sound.nodup
        have soundU : Walk.Sound v { w with passed := w.passed ++ [k] } := by
          refine ⟨sound.nodes, sound.free, sound.closure, fun j hj => ?_,
            ⟨pipes, nodes, nodup_snoc passed unpassed, closure⟩, size,
            sound.members⟩
          obtain old | rfl := by simpa using hj
          · exact sound.passed j old
          · exact ⟨meets, by simpa using opened, by simpa using broken⟩
        obtain ⟨sound', ⟨ns, rfl, grown⟩, there⟩ := Walk.queueNode_ok queued soundU hf
        refine ⟨sound', ⟨fun _ m => m, grown, fun _ m => m, fun _ m => List.mem_append_left _ m⟩, rfl,
          .inl (List.mem_append_right _ (List.mem_singleton.2 rfl)), fun j hj => ?_⟩
        obtain old | rfl := by simpa using hj
        · exact .inl old
        · exact .inr ⟨rfl, there⟩

/-- A link at a visited node has been dealt with (R33). -/
def Walk.visits (w : Walk) (n k : Nat) (l : Link) : Prop :=
  (l.kind = .pipe → k ∈ w.pipes) ∧ (l.kind = .valve ∨ (l.kind = .regulator ∧ l.endB = n) →
    k ∈ w.passed ∨ ∃ m ∈ w.closure, m.link = k)

theorem Walk.Grows.visits (h : w.Grows w') {l : Link} (done : w.visits n k l) : w'.visits n k l := by
  refine ⟨fun pipe => h.pipes (done.1 pipe), fun met => ?_⟩
  obtain passed | ⟨m, hm, own⟩ := done.2 met
  · exact .inl (h.passed passed)
  · exact .inr ⟨m, h.closure hm, own⟩

theorem WalkEnv.mem_ends {l : Link} (hl : (k, l) ∈ v.e.p.net.links) : l.endA ∈ v.ends ∧ l.endB ∈ v.ends :=
  ⟨List.mem_flatMap.2 ⟨_, hl, List.mem_cons_self⟩, List.mem_flatMap.2 ⟨_, hl, by simp⟩⟩

/-- The other end of a link. -/
def Link.farFrom (l : Link) (n : Nat) : Nat := if l.endA = n then l.endB else l.endA

theorem Link.ends_mem {l : Link} {ns : List Nat} (at_ : l.endA = n ∨ l.endB = n) (near : n ∈ ns) (far : l.farFrom n ∈ ns) :
    l.endA ∈ ns ∧ l.endB ∈ ns := by
  unfold Link.farFrom at far
  split at far
  · next own =>
    rw [own]
    exact ⟨near, far⟩
  · next other =>
    rw [at_.resolve_left other]
    exact ⟨far, near⟩

theorem Walk.take_ok {l : Link} (h : w.take v n k l = .ok w') (sound : w.Sound v) (closed : w.Closed v)
    (hl : (k, l) ∈ v.e.p.net.links) (look : v.e.link? k = some l) (near : n ∈ w.nodes) (at_ : l.endA = n ∨ l.endB = n) :
    w'.Sound v ∧ w'.Closed v ∧ w.Grows w' ∧ w'.visits n k l := by
  have far : l.farFrom n ∈ v.ends := by
    obtain ⟨endA, endB⟩ := WalkEnv.mem_ends hl
    unfold Link.farFrom
    split
    · exact endB
    · exact endA
  have both {ns : List Nat} (sub : w.nodes ⊆ ns) (there : l.farFrom n ∈ ns) (l' : Link) (hl' : v.e.link? k = some l') :
      l'.endA ∈ ns ∧ l'.endB ∈ ns := by
    obtain rfl := Option.some.inj (look.symm.trans hl')
    exact Link.ends_mem at_ (sub near) there
  have classified (h : w.classify v k (l.farFrom n) = .ok w') (kind : l.kind ≠ .pipe) (meets : v.meets k w.nodes) :
      w'.Sound v ∧ w'.Closed v ∧ w.Grows w' ∧ w'.visits n k l := by
    obtain ⟨sound', grows, pipes, done, passed⟩ := Walk.classify_ok h sound meets far
    refine ⟨sound', ⟨fun j hj l' hl' => ?_, fun j hj l' hl' => ?_⟩, grows, fun pipe => absurd pipe kind, fun _ => done⟩
    · obtain ⟨endA, endB⟩ := closed.pipes j (pipes ▸ hj) l' hl'
      exact ⟨grows.nodes.subset endA, grows.nodes.subset endB⟩
    · obtain old | ⟨rfl, there⟩ := passed j hj
      · obtain ⟨endA, endB⟩ := closed.passed j old l' hl'
        exact ⟨grows.nodes.subset endA, grows.nodes.subset endB⟩
      · exact both grows.nodes.subset there l' hl'
  have meets (outlet : l.kind = .valve ∨ l.endB = n) (kind : l.kind ≠ .pipe) : v.meets k w.nodes := by
    refine ⟨l, look, kind, ?_⟩
    obtain endA | endB := at_
    · obtain valve | outlet := outlet
      · exact .inr ⟨valve, endA ▸ near⟩
      · exact .inl (outlet ▸ near)
    · exact .inl (endB ▸ near)
  unfold Walk.take at h
  dsimp only at h
  split at h
  · next pipe =>
    split at h
    · next there =>
      obtain rfl := Except.ok.inj h
      exact ⟨sound, closed, .refl w, fun _ => by simpa using there, fun met => by simp [pipe] at met⟩
    · obtain ⟨u, joined, queued⟩ := Walked.bind_ok h
      obtain ⟨soundU, ps, rfl, pipes⟩ := Walk.joinPipe_ok joined sound
      obtain ⟨sound', ⟨ns, rfl, grown⟩, there⟩ := Walk.queueNode_ok queued soundU far
      refine ⟨sound', ⟨fun j hj l' hl' => ?_, fun j hj l' hl' => ?_⟩,
        ⟨fun j hj => (pipes j).2 (.inl hj), grown, fun _ m => m, fun _ m => m⟩,
        fun _ => (pipes k).2 (.inr rfl), fun met => by simp [pipe] at met⟩
      · obtain old | rfl := (pipes j).1 hj
        · obtain ⟨endA, endB⟩ := closed.pipes j old l' hl'
          exact ⟨grown.subset endA, grown.subset endB⟩
        · exact both grown.subset there l' hl'
      · obtain ⟨endA, endB⟩ := closed.passed j hj l' hl'
        exact ⟨grown.subset endA, grown.subset endB⟩
  · next valve => exact classified h (by simp [valve]) (meets (.inl valve) (by simp [valve]))
  · next regulator =>
    split at h
    · next outlet => exact classified h (by simp [regulator]) (meets (.inr outlet) (by simp [regulator]))
    · next inlet =>
      obtain rfl := Except.ok.inj h
      refine ⟨sound, closed, .refl w, fun pipe => ?_, fun met => ?_⟩
      · cases regulator.symm.trans pipe
      · obtain valve | ⟨_, outlet⟩ := met
        · cases regulator.symm.trans valve
        · exact absurd outlet inlet

theorem Walk.takeAll_ok {ls : List (Nat × Link)} (wf : tableWf v.e.p.net.links) (sub : ls ⊆ v.e.p.net.links)
    (h : Walk.takeAll v n ls w = .ok w') (sound : w.Sound v) (closed : w.Closed v) (near : n ∈ w.nodes) :
    w'.Sound v ∧ w'.Closed v ∧ w.Grows w' ∧ ∀ x ∈ ls, x.2.endA = n ∨ x.2.endB = n → w'.visits n x.1 x.2 := by
  induction ls generalizing w with
  | nil =>
    obtain rfl := Except.ok.inj h
    exact ⟨sound, closed, .refl w, nofun⟩
  | cons x ls ih =>
    obtain ⟨k, l⟩ := x
    have hl := sub List.mem_cons_self
    have rest := fun y hy => sub (List.mem_cons_of_mem (k, l) (a := y) hy)
    unfold Walk.takeAll at h
    split at h
    · next at_ =>
      simp only [Bool.or_eq_true, decide_eq_true_eq] at at_
      obtain ⟨u, taken, others⟩ := Walked.bind_ok h
      obtain ⟨soundU, closedU, grows, done⟩ := Walk.take_ok taken sound closed hl (tget_of_mem wf hl) near at_
      obtain ⟨sound', closed', grows', all⟩ := ih rest others soundU closedU (grows.nodes.subset near)
      refine ⟨sound', closed', grows.trans grows', fun x hx meets => ?_⟩
      obtain rfl | hx := List.mem_cons.1 hx
      · exact grows'.visits done
      · exact all x hx meets
    · next off =>
      simp only [Bool.or_eq_true, decide_eq_true_eq] at off
      obtain ⟨sound', closed', grows', all⟩ := ih rest h sound closed near
      refine ⟨sound', closed', grows', fun x hx meets => ?_⟩
      obtain rfl | hx := List.mem_cons.1 hx
      · exact absurd meets off
      · exact all x hx meets

/-- The nodes queued are ends of links, each once. -/
theorem Walk.Sound.few (sound : w.Sound v) : w.nodes.length ≤ 2 * v.e.p.net.links.length := by
  obtain ⟨_, nodes, _, _⟩ := sound.nodup
  have length : v.ends.length = 2 * v.e.p.net.links.length := by
    unfold WalkEnv.ends
    induction v.e.p.net.links with
    | nil => rfl
    | cons x xs ih =>
      simp only [List.flatMap_cons, List.length_append, List.length_cons, List.length_nil, ih]
      omega
  rw [← length]
  exact (nodes.subperm fun n hn => (sound.nodes n hn).1).length_le

/-- Every link at every node has been dealt with. -/
def Walk.Visited (v : WalkEnv) (w : Walk) (ns : List Nat) : Prop :=
  ∀ n ∈ ns, ∀ x ∈ v.e.p.net.links, x.2.endA = n ∨ x.2.endB = n → w.visits n x.1 x.2

theorem Walk.run_ok {fuel at_ : Nat} (wf : tableWf v.e.p.net.links) (h : Walk.run v fuel at_ w = .ok w') (sound : w.Sound v)
    (closed : w.Closed v) (visited : w.Visited v (w.nodes.take at_)) (enough : 2 * v.e.p.net.links.length < fuel + at_) :
    w'.Sound v ∧ w'.Closed v ∧ w.Grows w' ∧ w'.Visited v w'.nodes := by
  induction fuel generalizing w at_ with
  | zero =>
    obtain rfl := Except.ok.inj h
    have all : w.nodes.take at_ = w.nodes := List.take_of_length_le (by have := sound.few; omega)
    rw [all] at visited
    exact ⟨sound, closed, .refl w, visited⟩
  | succ fuel ih =>
    unfold Walk.run at h
    cases next_ : w.nodes[at_]? with
    | none =>
      simp only [next_] at h
      obtain rfl := Except.ok.inj h
      have all : w.nodes.take at_ = w.nodes := List.take_of_length_le (List.getElem?_eq_none_iff.1 next_)
      rw [all] at visited
      exact ⟨sound, closed, .refl w, visited⟩
    | some n =>
      simp only [next_] at h
      obtain ⟨u, taken, rest⟩ := Walked.bind_ok h
      have near : n ∈ w.nodes := List.mem_of_getElem? next_
      obtain ⟨soundU, closedU, grows, all⟩ := Walk.takeAll_ok wf (fun _ m => m) taken sound closed near
      have visitedU : u.Visited v (u.nodes.take (at_ + 1)) := by
        intro m hm x hx meets
        have first : u.nodes.take (at_ + 1) = w.nodes.take at_ ++ [n] := by
          obtain ⟨more, eq⟩ := grows.nodes
          have inside := (List.getElem?_eq_some_iff.1 next_).1
          rw [← eq, List.take_append_of_le_length inside, List.take_add_one, next_]
          rfl
        rw [first] at hm
        obtain old | rfl := by simpa using hm
        · exact grows.visits (visited m old x hx meets)
        · exact all x hx meets
      obtain ⟨sound', closed', grows', done⟩ := ih rest soundU closedU visitedU (by omega)
      exact ⟨sound', closed', grows.trans grows', done⟩

/-! ## The targets and their ends (R32) -/

theorem Walk.targets_ok {ts : List Nat} (h : Walk.targets v ts w = .ok w') (sound : w.Sound v) :
    w'.Sound v ∧ (∃ ps, w' = { w with pipes := ps }) ∧ ∀ j, j ∈ w'.pipes ↔ j ∈ w.pipes ∨ j ∈ ts := by
  induction ts generalizing w with
  | nil =>
    obtain rfl := Except.ok.inj h
    exact ⟨sound, ⟨w.pipes, rfl⟩, by simp⟩
  | cons t ts ih =>
    unfold Walk.targets at h
    split at h
    · obtain ⟨u, joined, rest⟩ := Walked.bind_ok h
      obtain ⟨soundU, ps, rfl, pipes⟩ := Walk.joinPipe_ok joined sound
      obtain ⟨sound', ⟨qs, eq⟩, all⟩ := ih rest soundU
      refine ⟨sound', ⟨qs, eq⟩, fun j => ?_⟩
      rw [all, List.mem_cons, ← or_assoc]
      exact or_congr (pipes j) Iff.rfl
    · cases h

theorem Walk.starts_ok {ts : List Nat} (h : Walk.starts v ts w = .ok w') (sound : w.Sound v) :
    w'.Sound v ∧ (∃ ns, w' = { w with nodes := ns } ∧ w.nodes <+: ns)
      ∧ ∀ t ∈ ts, ∀ l, v.e.link? t = some l → l.endA ∈ w'.nodes ∧ l.endB ∈ w'.nodes := by
  induction ts generalizing w with
  | nil =>
    obtain rfl := Except.ok.inj h
    exact ⟨sound, ⟨w.nodes, rfl, List.prefix_rfl⟩, nofun⟩
  | cons t ts ih =>
    cases hl : v.e.link? t with
    | none =>
      simp only [Walk.starts, hl] at h
      obtain ⟨sound', grown, ends⟩ := ih h sound
      refine ⟨sound', grown, fun x hx l hx' => ?_⟩
      obtain rfl | hx := List.mem_cons.1 hx
      · cases hl.symm.trans hx'
      · exact ends x hx l hx'
    | some l =>
      simp only [Walk.starts, hl] at h
      obtain ⟨u₁, first, others⟩ := Walked.bind_ok h
      obtain ⟨u₂, second, rest⟩ := Walked.bind_ok others
      obtain ⟨endA, endB⟩ := WalkEnv.mem_ends (mem_of_tget hl)
      obtain ⟨sound₁, ⟨ns₁, rfl, grown₁⟩, there₁⟩ := Walk.queueNode_ok first sound endA
      obtain ⟨sound₂, ⟨ns₂, rfl, grown₂⟩, there₂⟩ := Walk.queueNode_ok second sound₁ endB
      obtain ⟨sound', ⟨ns, rfl, grown⟩, ends⟩ := ih rest sound₂
      refine ⟨sound', ⟨ns, rfl, (grown₁.trans grown₂).trans grown⟩, fun x hx l' hx' => ?_⟩
      obtain rfl | hx := List.mem_cons.1 hx
      · obtain rfl := Option.some.inj (hl.symm.trans hx')
        exact ⟨grown.subset (grown₂.subset there₁), grown.subset there₂⟩
      · exact ends x hx l' hx'

/-- What stage A comes to when it does not stop (R32 to R36). -/
theorem WalkEnv.stageA_ok {ts : List Nat} (wf : tableWf v.e.p.net.links) (h : v.stageA ts = .ok w') :
    w'.Sound v ∧ w'.Closed v ∧ w'.Visited v w'.nodes ∧ ∀ t ∈ ts, t ∈ w'.pipes := by
  have empty : Walk.Sound v {} := ⟨nofun, nofun, nofun, nofun, ⟨.nil, .nil, .nil, .nil⟩, Nat.zero_le _, Nat.zero_le _⟩
  obtain ⟨u₁, targets, others⟩ := Walked.bind_ok h
  obtain ⟨u₂, starts, run⟩ := Walked.bind_ok others
  obtain ⟨sound₁, ⟨ps, rfl⟩, pipes⟩ := Walk.targets_ok targets empty
  obtain ⟨sound₂, ⟨ns, rfl, _⟩, ends⟩ := Walk.starts_ok starts sound₁
  have closed : Walk.Closed v { ({} : Walk) with pipes := ps, nodes := ns } :=
    ⟨fun k hk l hl => ends k (((pipes k).1 hk).resolve_left (by simp)) l hl, nofun⟩
  obtain ⟨sound, closed, grows, visited⟩ := Walk.run_ok wf run sound₂ closed nofun (by omega)
  exact ⟨sound, closed, visited, fun t ht => grows.pipes ((pipes t).2 (.inr ht))⟩

end Steps

end Sys2Proof.Machine
end

section
/-! TRACE_COMPLETION (R40, R41, R115, R116) and what a plan holds (R32 to R39): O35. -/

namespace Sys2Proof.Machine

-- One theorem after another: theorems checked side by side each hold a thread and its stack.
set_option Elab.async false

/-! ## The outcome handed on -/

section Outcome
variable {e : Ev} {r : IsoRef} {start restarts limit : Nat} {i : Isolation}

theorem Ev.settle_out {e : Ev} (h : e.p.noneToIssue) : e.settle.out = e.out := by
  have quiet := Ev.arbitrate_eq { e with bumped := false } h
  simp [Ev.settle, quiet]

/-- The engine idle, its trace done. -/
def Ev.traced (e : Ev) : Ev := { e with p.trace.running := none }

theorem Ev.traceCompletion_of_still (running : e.p.trace.running = some (.trace r start restarts limit))
    (still : e.p.net.generation = start) (hi : e.iso? r.slot = some i) (hser : i.serial = r.serial) :
    e.traceCompletion = e.traced.takeOutcome r.slot (e.traced.traceOutcome r.slot limit start i.targets) := by
  have named : e.traced.named? r = some i := by
    have there : e.traced.iso? r.slot = some i := hi
    simp only [Ev.named?, there, hser, if_true]
  have eq : e.traceCompletion = (match e.traced.named? r with
    | none => e.traced
    | some i => e.traced.takeOutcome r.slot (e.traced.traceOutcome r.slot limit start i.targets)) := by
    simp only [Ev.traceCompletion, running]
    exact if_pos still
  rw [eq, named]

theorem Ev.traceCompletion_of_moved (running : e.p.trace.running = some (.trace r start restarts limit))
    (moved : e.p.net.generation ≠ start) : e.traceCompletion = if restarts < 2 then
      let f := e.modIso r.slot fun i => { i with restarts := restarts + 1 }
      { f with p.trace.running := some (.trace r f.p.net.generation (restarts + 1) f.p.trace.limit) }
    else e.traced.takeOutcome r.slot (.failure .unstable) := by
  simp only [Ev.traceCompletion, running]
  exact if_neg moved

variable {slot : Nat}

/-- What the end of a trace leaves: the isolations in `ks` apart, nothing but the engine's lists and the incidents. -/
structure Ev.Hands (ks : List Nat) (e f : Ev) : Prop where
  within : Ev.Within [.isos, .plans, .trace, .reg] e f
  but : Ev.IsosBut ks e f
  keyed : e.KeepsKeyed f
  quiet : e.p.noneToIssue → f.p.noneToIssue

theorem Ev.Hands.last {ks : List Nat} {e f g : Ev} (k : Ev.Hands ks f g) (h : Ev.Hands ks e f) : Ev.Hands ks e g :=
  ⟨h.within.trans k.within, h.but.trans k.but, h.keyed.trans k.keyed, fun q => k.quiet (h.quiet q)⟩

theorem Ev.modIso_hands (e : Ev) (slot : Nat) {f : Isolation → Isolation} (hf : ∀ i, (f i).fixed = i.fixed)
    (hi : ∀ i, i.toIssue = [] → (f i).toIssue = []) : Ev.Hands [slot] e (e.modIso slot f) :=
  ⟨.of (e.modIso_plan_within slot hf), e.modIso_isosBut slot f, e.modIso_keyed slot f, fun q => Ev.modIso_noneToIssue q slot hi⟩

theorem Ev.setIso_hands (e : Ev) (slot : Nat) (new : IsoState) (cause : IsoCause) (other : Other) (left : Nat) :
    Ev.Hands [slot] e (e.setIso slot new cause other left) :=
  ⟨.of (e.setIso_within _ _ _ _ _), e.setIso_isosBut _ _ _ _ _, e.setIso_keyed _ _ _ _ _,
    fun q => Ev.setIso_noneToIssue q _ _ _ _ _⟩

theorem Ev.askTrace_hands (e : Ev) (slot : Nat) : Ev.Hands [slot] e (e.askTrace slot) :=
  ⟨.of (e.askTrace_within slot), e.askTrace_isosBut slot, e.askTrace_keyed slot, fun q => Ev.askTrace_noneToIssue q slot⟩

/-- The notice of a new state (R110). -/
theorem Ev.setIso_out (hi : e.iso? slot = some i) (new : IsoState) (cause : IsoCause) (other : Other) (left : Nat) :
    (e.setIso slot new cause other left).out = e.out ++ [⟨.isolationState, slot,
      be 2 i.serial ++ be 1 i.state.code ++ be 1 new.code ++ be 1 cause.code ++ other.bytes ++ be 1 left, e.now⟩] := by
  rw [Ev.setIso_of_iso hi]
  rfl

/-- A record written anew with the same list. -/
theorem Ev.writeIso_hands (hi : e.iso? slot = some i) {j : Isolation} (fixed : j.fixed = i.fixed) (list : j.toIssue = i.toIssue) :
    Ev.Hands [slot] e (e.modIso slot fun _ => j) := by
  refine ⟨.of (Ev.setIsolation_within hi fixed), e.modIso_isosBut slot _, e.modIso_keyed slot _, fun q => ?_⟩
  refine Ev.modIso_noneToIssue q slot fun _ _ => ?_
  have none := List.all_eq_true.1 q _ (mem_of_tget hi)
  exact list.trans (List.isEmpty_iff.1 none)

/-- A plan at an isolation never authorised is stored, and the isolation is PLANNED (R115). -/
theorem Ev.takePlan_of_fresh (hi : e.iso? slot = some i) (auth : i.authTime = none) (carry : i.carry = none) (p : Plan) :
    e.takePlan slot p = ((e.modIso slot fun _ => { i with plan := some p }).modIso slot fun i =>
      { i with carry := none, plan := i.plan }).setIso slot .planned .plan .nothing 0 := by
  have fresh : i.authorised = false := by simp [Isolation.authorised, auth]
  have freed : e.freedFor slot { i with plan := some p } = e.modIso slot fun _ => { i with plan := some p } := if_neg (by
    rw [show Isolation.authorised { i with plan := some p } = false from fresh]
    exact Bool.false_ne_true)
  have tight : e.loosens slot { i with plan := some p } = false := by
    rw [Ev.loosens, show Isolation.authorised { i with plan := some p } = false from fresh]
    rfl
  have eq : e.takePlan slot p = (e.freedFor slot { i with plan := some p }).toPlanned slot p
      (e.loosens slot { i with plan := some p }) .plan .nothing := by
    rw [Ev.takePlan_eq hi]
    dsimp only
    split
    · next authoriser marked => cases carry.symm.trans marked
    · rfl
  rw [eq, freed, tight]
  rfl

theorem Ev.takePlan_fresh (hi : e.iso? slot = some i) (planning : i.state = .planning) (auth : i.authTime = none)
    (carry : i.carry = none) (p : Plan) : Ev.Hands [slot] e (e.takePlan slot p)
      ∧ (e.takePlan slot p).iso? slot = some { i with state := .planned, plan := some p }
      ∧ (e.takePlan slot p).out = e.out ++ [⟨.isolationState, slot,
        be 2 i.serial ++ [1, 3, 1] ++ be 1 0 ++ be 1 255 ++ be 2 65535 ++ [0], e.now⟩] := by
  have stored := Ev.modIso_iso (Ev.modIso_iso hi fun _ => { i with plan := some p }) fun i => { i with carry := none, plan := i.plan }
  rw [Ev.takePlan_of_fresh hi auth carry]
  refine ⟨?_, ?_, ?_⟩
  · exact .last (Ev.setIso_hands _ _ _ _ _ _) (.last (Ev.modIso_hands _ slot (fun _ => rfl) fun _ h => h)
      (Ev.writeIso_hands hi rfl rfl))
  · rw [Ev.setIso_iso stored, Isolation.moveTo_of_plain _ _ _ (by simp [planning]) rfl]
    simp only [carry]
  · rw [Ev.setIso_out stored]
    simp only [planning]
    rfl

/-- A failure at an isolation never authorised: FAILED with its reason (R115). -/
theorem Ev.failIso_fresh (wf : e.p.keyed) (hi : e.iso? slot = some i) (planning : i.state = .planning) (auth : i.authTime = none)
    (reason : FailReason) (cause : IsoCause) (other : Other) : (e.failIso slot reason cause other).p.keyed
      ∧ Ev.Within [.isos, .trace, .reg] e (e.failIso slot reason cause other)
      ∧ ∃ j, (e.failIso slot reason cause other).iso? slot = some j ∧ j.state = .failed ∧ j.failure = some reason
        ∧ j.endTime = some e.now ∧ j.incident = none := by
  have noted := Ev.modIso_iso hi fun i => { i with failure := some reason }
  have wf' := e.modIso_keyed slot (fun i => { i with failure := some reason }) wf
  obtain ⟨keyed, j, hj, failed, time, incident, why, _⟩ :=
    Ev.giveUp_iso wf' noted (by simp [planning]) (new := .failed) rfl cause other
  refine ⟨keyed, ?_, j, hj, failed, why, time, incident⟩
  rw [Ev.failIso, Ev.giveUp_of_unauthorised noted auth]
  exact .last (Ev.endIso_within _ _ _ _ _ _) (.of (e.modIso_within slot (fun _ => rfl) fun _ => rfl))

/-- An isolation that waits on another (R115). -/
def Ev.waitsOn (e : Ev) (slot : Nat) (q : IsoRef) : Ev :=
  (e.modIso slot fun i => { i with waitingOn := some q, carry := none }).setIso slot .waiting .conflict (.iso q)

theorem Ev.waitsOn_hands (e : Ev) (slot : Nat) (q : IsoRef) : Ev.Hands [slot] e (e.waitsOn slot q) :=
  .last (Ev.setIso_hands _ _ _ _ _ _) (e.modIso_hands slot (fun _ => rfl) fun _ h => h)

theorem Ev.waitsOn_iso (hi : e.iso? slot = some i) (planning : i.state = .planning) (carry : i.carry = none) (q : IsoRef) :
    (e.waitsOn slot q).iso? slot = some { i with state := .waiting, waitingOn := some q } := by
  rw [Ev.waitsOn, Ev.setIso_iso (Ev.modIso_iso hi _), Isolation.moveTo_of_plain _ _ _ (by simp [planning]) rfl]
  simp only [carry]

theorem Ev.waitsOn_out (hi : e.iso? slot = some i) (planning : i.state = .planning) (q : IsoRef) :
    (e.waitsOn slot q).out = e.out ++ [⟨.isolationState, slot,
      be 2 i.serial ++ [1, 2, 2] ++ be 1 1 ++ be 1 q.slot ++ be 2 q.serial ++ [0], e.now⟩] := by
  rw [Ev.waitsOn, Ev.setIso_out (Ev.modIso_iso hi _)]
  simp only [planning]
  rfl

/-- An isolation that can be waited on: it is there and has not ended (R116). -/
def Ev.lives (e : Ev) (q : IsoRef) : Bool := (e.iso? q.slot).any fun w => w.serial = q.serial && !w.state.terminal

theorem Ev.takeConflict_eq (hi : e.iso? slot = some i) (hold : i.hold = true) {q : IsoRef} (other : q.slot ≠ slot) :
    e.takeConflict slot q = if e.lives q = true then e.waitsOn slot q else (e.waitsOn slot q).waitOver slot := by
  have same : (e.waitsOn slot q).iso? q.slot = e.iso? q.slot := (e.waitsOn_hands slot q).but q.slot (by simpa using other)
  have over_ : (((e.waitsOn slot q).named? q).map fun j => j.state.terminal).getD true = !e.lives q := by
    rw [Ev.named?, same, Ev.lives]
    cases e.iso? q.slot with
    | none => rfl
    | some w => by_cases own : w.serial = q.serial <;> simp [own]
  have eq : e.takeConflict slot q = if (((e.waitsOn slot q).named? q).map fun j => j.state.terminal).getD true then
      (e.waitsOn slot q).waitOver slot else e.waitsOn slot q := by
    simp only [Ev.takeConflict, hi, hold, if_true]
    rfl
  rw [eq, over_]
  cases e.lives q <;> rfl

/-- A wait that is over: PLANNING again, and the trace asked for (R116). -/
theorem Ev.waitOver_iso (hi : e.iso? slot = some i) : Ev.Hands [slot] e (e.waitOver slot)
    ∧ (∃ j, (e.waitOver slot).iso? slot = some j ∧ j.state = .planning ∧ j.waitingOn = none)
    ∧ (e.waitOver slot).p.trace.awaits ⟨slot, i.serial⟩ := by
  have moved := Ev.setIso_iso (Ev.modIso_iso hi fun i => { i with waitingOn := none }) .planning .waitOver .nothing 0
  obtain ⟨n, asked⟩ := Ev.askTrace_iso moved
  refine ⟨.last (Ev.askTrace_hands _ _) (.last (Ev.setIso_hands _ _ _ _ _ _) (e.modIso_hands slot (fun _ => rfl) fun _ h => h)),
    ⟨_, asked, rfl, ?_⟩, ?_⟩
  · rw [Isolation.moveTo_eq]
  · have awaits := Ev.askTrace_awaits moved
    rw [Isolation.moveTo_eq] at awaits
    exact awaits

end Outcome

/-! ## What a plan holds (R32 to R39) -/

section Plan
variable {v : WalkEnv} {w : Walk} {k : Nat} {l : Link} (sound : w.Sound v) (closed : w.Closed v)
  (visited : w.Visited v w.nodes) (hl : v.e.link? k = some l)

theorem Ev.isClosed_iff (e : Ev) (k : Nat) : e.isClosed k = true ↔ ∃ c, e.control? k = some c ∧ c.position = .closed := by
  simp [Ev.isClosed, Option.any_eq_true]

theorem Ev.workable_iff {e : Ev} (hl : e.link? k = some l) : e.workable k = true ↔ l.operability? = some .operable
    ∧ ∀ x ∈ e.p.net.tags, ¬(x.2.link = k ∧ x.2.kind = .doNotOperate) := by
  rw [Ev.workable, hl, Bool.and_eq_true, Bool.not_eq_true', ← Bool.not_eq_true, Ev.tagged_iff]
  simp

include closed visited hl

/-- The section pipes are those that end at a section node (R33). -/
theorem Walk.mem_pipes_iff (pipe : l.kind = .pipe) : (k ∈ w.pipes ↔ l.endA ∈ w.nodes ∨ l.endB ∈ w.nodes)
    ∧ (k ∈ w.pipes → l.endA ∈ w.nodes ∧ l.endB ∈ w.nodes) := by
  refine ⟨⟨fun mem => .inl (closed.pipes k mem l hl).1, ?_⟩, fun mem => closed.pipes k mem l hl⟩
  rintro (endA | endB)
  · exact (visited _ endA (k, l) (mem_of_tget hl) (.inl rfl)).1 pipe
  · exact (visited _ endB (k, l) (mem_of_tget hl) (.inr rfl)).1 pipe

include sound

/-- The valves and regulators met are in the closure set or passed, by position, operability and tags (R34, R35). -/
theorem Walk.mem_closure_iff (kind : l.kind ≠ .pipe) :
    let met : Prop := l.endB ∈ w.nodes ∨ (l.kind = .valve ∧ l.endA ∈ w.nodes)
    (⟨k, false⟩ ∈ w.closure ↔ met ∧ v.e.isClosed k = true)
      ∧ (⟨k, true⟩ ∈ w.closure ↔ met ∧ ¬ v.e.isClosed k = true ∧ v.e.workable k = true)
      ∧ (k ∈ w.passed ↔ met ∧ ¬ v.e.isClosed k = true ∧ ¬ v.e.workable k = true)
      ∧ (k ∈ w.passed → l.endA ∈ w.nodes ∧ l.endB ∈ w.nodes) := by
  intro met
  have meets (h : v.meets k w.nodes) : met := by
    obtain ⟨l', hl', _, there⟩ := h
    obtain rfl := Option.some.inj (hl.symm.trans hl')
    exact there
  have known (h : met) : k ∈ w.passed ∨ ∃ m ∈ w.closure, m.link = k := by
    obtain outlet | ⟨valve, inlet⟩ := h
    · refine (visited _ outlet (k, l) (mem_of_tget hl) (.inr rfl)).2 ?_
      cases hk : l.kind with
      | pipe => exact absurd hk kind
      | valve => exact .inl rfl
      | regulator => exact .inr ⟨rfl, rfl⟩
    · exact (visited _ inlet (k, l) (mem_of_tget hl) (.inl rfl)).2 (.inl valve)
  have member (h : met) (state : v.e.isClosed k = true ∨ v.e.workable k = true) : ⟨k, !v.e.isClosed k⟩ ∈ w.closure := by
    obtain passed | ⟨m, hm, own⟩ := known h
    · obtain ⟨_, opened, broken⟩ := sound.passed k passed
      simp [opened, broken] at state
    · obtain ⟨_, order, _⟩ := sound.closure m hm
      rw [own] at order
      rw [← order, ← own]
      exact hm
  refine ⟨⟨fun mem => ?_, fun ⟨h, shut⟩ => ?_⟩, ⟨fun mem => ?_, fun ⟨h, opened, works⟩ => ?_⟩, ⟨fun mem => ?_,
    fun ⟨h, opened, broken⟩ => ?_⟩, fun mem => closed.passed k mem l hl⟩
  · obtain ⟨h, order, _⟩ := sound.closure _ mem
    exact ⟨meets h, by simpa using order⟩
  · have mem := member h (.inl shut)
    rw [shut] at mem
    exact mem
  · obtain ⟨h, order, state⟩ := sound.closure _ mem
    have opened : v.e.isClosed k = false := by simpa using order
    exact ⟨meets h, by simp [opened], by simpa [opened] using state⟩
  · have mem := member h (.inr works)
    rw [show v.e.isClosed k = false by simpa using opened] at mem
    exact mem
  · obtain ⟨h, opened, broken⟩ := sound.passed k mem
    exact ⟨meets h, by simp [opened], by simp [broken]⟩
  · obtain passed | ⟨m, hm, own⟩ := known h
    · exact passed
    · obtain ⟨_, _, shut | works⟩ := sound.closure m hm
      · exact absurd (own ▸ shut) opened
      · exact absurd (own ▸ works) broken

end Plan

/-- A walk stops early with a failure or a conflict, never with a plan (R36). -/
def Walked.unplanned (x : Walked) : Prop := ∀ p, x ≠ .error (.plan p)

section Unplanned
variable (v : WalkEnv) (w : Walk)

theorem Walked.unplanned_ok : Walked.unplanned (.ok w) := nofun

theorem Walked.unplanned_failure (r : FailReason) : Walked.unplanned (.error (.failure r)) := nofun

theorem Walked.unplanned_bind {x : Walked} {f : Walk → Walked} (h : x.unplanned) (k : ∀ w, (f w).unplanned) :
    Walked.unplanned (x >>= f) := by
  cases x with
  | ok w => exact k w
  | error o => exact fun p eq => h p (congrArg Except.error (Except.error.inj eq))

theorem Walk.queueNode_unplanned (n : Nat) : (w.queueNode v n).unplanned := by
  unfold Walk.queueNode
  split
  · exact Walked.unplanned_ok _
  · split
    · exact Walked.unplanned_failure _
    · exact Walked.unplanned_ok _

theorem Walk.sized_unplanned : (w.sized v).unplanned := by
  unfold Walk.sized
  split
  · exact Walked.unplanned_failure _
  · exact Walked.unplanned_ok _

theorem Walk.joinPipe_unplanned (pipe : Nat) : (w.joinPipe v pipe).unplanned := by
  unfold Walk.joinPipe
  split
  · exact nofun
  · split
    · exact Walked.unplanned_ok _
    · exact Walk.sized_unplanned _ _

theorem Walk.close_unplanned (link : Nat) (order : Bool) : (w.close link order).unplanned := by
  unfold Walk.close
  split
  · exact Walked.unplanned_failure _
  · exact Walked.unplanned_ok _

theorem Walk.classify_unplanned (link far : Nat) : (w.classify v link far).unplanned := by
  unfold Walk.classify
  split
  · exact Walked.unplanned_ok _
  · split
    · exact Walk.close_unplanned _ _ _
    · split
      · exact Walk.close_unplanned _ _ _
      · exact Walked.unplanned_bind (Walk.sized_unplanned _ _) fun w => w.queueNode_unplanned v far

theorem Walk.take_unplanned (n id : Nat) (l : Link) : (w.take v n id l).unplanned := by
  unfold Walk.take
  dsimp only
  split
  · split
    · exact Walked.unplanned_ok _
    · exact Walked.unplanned_bind (Walk.joinPipe_unplanned _ _ _) fun w => w.queueNode_unplanned v _
  · exact Walk.classify_unplanned _ _ _ _
  · split
    · exact Walk.classify_unplanned _ _ _ _
    · exact Walked.unplanned_ok _

theorem Walk.takeAll_unplanned (n : Nat) (ls : List (Nat × Link)) : (Walk.takeAll v n ls w).unplanned := by
  induction ls generalizing w with
  | nil => exact Walked.unplanned_ok w
  | cons x ls ih =>
    unfold Walk.takeAll
    split
    · exact Walked.unplanned_bind (w.take_unplanned v n x.1 x.2) ih
    · exact ih w

theorem Walk.run_unplanned (fuel at_ : Nat) : (Walk.run v fuel at_ w).unplanned := by
  induction fuel generalizing at_ w with
  | zero => exact Walked.unplanned_ok w
  | succ fuel ih =>
    unfold Walk.run
    split
    · exact Walked.unplanned_ok w
    · exact Walked.unplanned_bind (Walk.takeAll_unplanned v w _ _) fun w => ih w (at_ + 1)

theorem Walk.targets_unplanned (ts : List Nat) : (Walk.targets v ts w).unplanned := by
  induction ts generalizing w with
  | nil => exact Walked.unplanned_ok w
  | cons t ts ih =>
    unfold Walk.targets
    split
    · exact Walked.unplanned_bind (w.joinPipe_unplanned v t) ih
    · exact Walked.unplanned_failure _

theorem Walk.starts_unplanned (ts : List Nat) : (Walk.starts v ts w).unplanned := by
  induction ts generalizing w with
  | nil => exact Walked.unplanned_ok w
  | cons t ts ih =>
    unfold Walk.starts
    split
    · exact ih w
    · exact Walked.unplanned_bind (w.queueNode_unplanned v _) fun u => Walked.unplanned_bind (u.queueNode_unplanned v _) ih

theorem WalkEnv.stageA_unplanned (ts : List Nat) : (v.stageA ts).unplanned :=
  Walked.unplanned_bind (Walk.targets_unplanned v {} ts) fun w =>
    Walked.unplanned_bind (w.starts_unplanned v ts) fun w => w.run_unplanned v _ _

end Unplanned

/-- A trace that ends with a plan has walked to the end (R39). -/
theorem Ev.traceOutcome_plan {e : Ev} {slot limit gen : Nat} {targets : List Nat} {p : Plan}
    (h : e.traceOutcome slot limit gen targets = .plan p) : ∃ w, (⟨e, slot, limit⟩ : WalkEnv).stageA targets = .ok w ∧ p =
      { gen := gen, pipes := w.pipes, nodes := w.nodes, closure := w.closure, passed := w.passed, cutoff := e.cutoffSet w
        pipeCounts := e.serviceSum w.pipes, cutoffCounts := e.serviceSum (e.cutoffSet w) } := by
  unfold Ev.traceOutcome at h
  split at h
  · next o stopped =>
    exact absurd (stopped.trans (congrArg Except.error h))
      ((⟨e, slot, limit⟩ : WalkEnv).stageA_unplanned targets p)
  · next w ok => exact ⟨w, ok, (Outcome.plan.inj h).symm⟩

/-- The pipes a plan cuts off have gas now, and a flood without the section and the closure set misses both their ends (R38). -/
theorem Ev.mem_cutoffSet {e : Ev} (wf : tableWf e.p.net.pipes) (w : Walk) {k : Nat} {q : PipeRt} {l : Link}
    (hq : e.pipe? k = some q) (hl : e.link? k = some l) :
    k ∈ e.cutoffSet w ↔ k ∉ w.pipes ∧ (q.supply = .live ∨ q.supply = .recharging)
      ∧ l.endA ∉ (e.p.net.floodView.without w).reached ∧ l.endB ∉ (e.p.net.floodView.without w).reached := by
  rw [Ev.cutoffSet, mem_tkeysWhere wf, hl]
  constructor
  · rintro ⟨q', hq', test⟩
    obtain rfl := Option.some.inj (hq.symm.trans hq')
    simpa [and_assoc] using test
  · exact fun test => ⟨q, hq, by simpa [and_assoc] using test⟩

/-- A pipe of the section that anyone claims is this isolation's own (R33). -/
theorem WalkEnv.claim_own {v : WalkEnv} {k c : Nat} (free : v.claimer? k = none) (claim : (v.e.pipe? k).bind (·.claim) = some c) :
    c = v.slot := by
  unfold WalkEnv.claimer? at free
  simp only [claim] at free
  split at free
  · next own => exact own
  · cases free

/-- A walk starts by looking at its first target: a link that is no pipe ends it (R32). -/
theorem Ev.traceOutcome_notPipe (e : Ev) (slot limit gen : Nat) {k : Nat} (ts : List Nat)
    (other : ∀ l, e.link? k = some l → l.kind ≠ .pipe) : e.traceOutcome slot limit gen (k :: ts) = .failure .targetNotPipe := by
  have bad : (e.link? k).any (fun l => decide (l.kind = .pipe)) = false := by
    cases hl : e.link? k with
    | none => rfl
    | some l => simpa using other l hl
  have stops : Walk.targets ⟨e, slot, limit⟩ (k :: ts) {} = .error (.failure .targetNotPipe) := by
    rw [Walk.targets, bad]
    rfl
  unfold Ev.traceOutcome WalkEnv.stageA
  rw [stops]
  rfl

/-- A first target that another isolation claims is a conflict with it (R32). -/
theorem Ev.traceOutcome_conflict {e : Ev} {slot k c : Nat} {l : Link} {i : Isolation} (limit gen : Nat) (ts : List Nat)
    (hl : e.link? k = some l) (pipe : l.kind = .pipe) (claim : (e.pipe? k).bind (·.claim) = some c) (ne : c ≠ slot)
    (hi : e.iso? c = some i) : e.traceOutcome slot limit gen (k :: ts) = .conflict ⟨c, i.serial⟩ := by
  have claimed : (⟨e, slot, limit⟩ : WalkEnv).claimer? k = some ⟨c, i.serial⟩ := by
    simp [WalkEnv.claimer?, claim, ne, hi]
  have stops : Walk.targets ⟨e, slot, limit⟩ (k :: ts) {} = .error (.conflict ⟨c, i.serial⟩) := by
    simp only [Walk.targets, hl, Option.any_some, pipe, decide_true, if_true, Walk.joinPipe, claimed]
    rfl
  unfold Ev.traceOutcome WalkEnv.stageA
  rw [stops]
  rfl

/-- Settles O35: the outcomes of a trace one by one, and what the walk leaves in a plan. -/
theorem traceCompletionOutcome : Obligations.TraceCompletionOutcome := by
  unfold Obligations.TraceCompletionOutcome
  refine ⟨fun s r start restarts limit i running hi hser planning auth carry quiet wf => ?_, ?_⟩
  · intro e out others
    have run : exec .traceCompletion s = .next (s.event Ev.traceCompletion) := by
      refine congrArg Host.Outcome.next ?_
      simp only [running]
    have there : e.iso? r.slot = some i := hi
    have handed (still : s.plant.net.generation = start) : s.ev.traceCompletion = e.takeOutcome r.slot out :=
      Ev.traceCompletion_of_still (e := s.ev) running still hi hser
    have idle : Ev.Within [.trace] s.ev e := s.ev.setRunning_within none
    have still_ : e.p.net.generation = s.plant.net.generation := rfl
    have pipes_ : e.p.net.pipes = s.plant.net.pipes := rfl
    have isos_ (k : Nat) : e.iso? k = tget s.plant.ctl.isos k := rfl
    have now : e.now = s.link.partTime := rfl
    have silent : e.out = [] := rfl
    have wf' : e.p.keyed := wf
    have quiet' : e.p.noneToIssue := quiet
    have unstable (moved : s.plant.net.generation ≠ start) (many : 2 ≤ restarts) :
        s.ev.traceCompletion = e.takeOutcome r.slot (.failure .unstable) := by
      rw [Ev.traceCompletion_of_moved (e := s.ev) running moved, if_neg (by omega)]
      rfl
    clear_value e out
    -- A trace that fails, whatever the reason.
    have fails (x : FailReason) (cause : IsoCause) (o : Other) (eq : s.ev.traceCompletion = e.failIso r.slot x cause o) :
        ∃ t j, exec .traceCompletion s = .next t ∧ tget t.plant.ctl.isos r.slot = some j
          ∧ j.state = .failed ∧ j.failure = some x ∧ j.endTime = some s.link.partTime ∧ j.incident = none
          ∧ t.plant.net.generation = s.plant.net.generation ∧ t.plant.net.pipes = s.plant.net.pipes := by
      obtain ⟨keyed, frame, j, hj, failed, why, time, incident⟩ := Ev.failIso_fresh wf' there planning auth x cause o
      rw [← eq] at keyed frame hj
      obtain ⟨l, _, settled⟩ := Ev.settle_iso (Plant.keyed_isos keyed) hj
      refine ⟨_, _, run, settled, failed, why, time.trans (congrArg some now), incident, ?_, ?_⟩
      · exact (Ev.settle_net_generation _).trans ((frame.still (by decide) (by decide) (by decide)).1.trans still_)
      · exact (Ev.settle_net_pipes _).trans ((frame.pipes (by decide)).trans pipes_)
    -- A trace that hands the isolation on.
    have goes {g : Ev} (eq : s.ev.traceCompletion = g) (h : Ev.Hands [r.slot] e g) : ∃ t, exec .traceCompletion s = .next t
        ∧ t.plant.ctl = g.p.ctl ∧ others t ∧ t.plant.net.generation = s.plant.net.generation
        ∧ t.plant.net.pipes = s.plant.net.pipes ∧ t.plant.trace = g.settle.p.trace
        ∧ t.link = g.out.foldl ControlLink.queue s.link := by
      subst eq
      have ctl : (s.event Ev.traceCompletion).plant.ctl = s.ev.traceCompletion.p.ctl := Ev.settle_ctl (h.quiet quiet')
      refine ⟨_, run, ctl, fun k ne => ?_, ?_, ?_, rfl, ?_⟩
      · rw [ctl]
        exact (h.but k (by simpa using ne)).trans (isos_ k)
      · exact (Ev.settle_net_generation _).trans ((h.within.still (by decide) (by decide) (by decide)).1.trans still_)
      · exact (Ev.settle_net_pipes _).trans ((h.within.pipes (by decide)).trans pipes_)
      · exact congrArg (List.foldl ControlLink.queue s.link) (Ev.settle_out (h.quiet quiet'))
    refine ⟨fun p still plan => ?_, fun x still failure => ?_, fun q still conflict other hold => ?_,
      fun q still conflict hold => ?_, fun moved few => ?_, fun moved many => ?_⟩
    · obtain ⟨hands, iso, notice⟩ := Ev.takePlan_fresh there planning auth carry p
      obtain ⟨t, ran, ctl, rest, generation, pipes, _, link⟩ := goes ((handed still).trans (by rw [plan]; rfl)) hands
      rw [notice, silent, now] at link
      exact ⟨t, ran, by rw [ctl]; exact iso, rest, generation, pipes, link⟩
    · exact fails x x.cause .nothing ((handed still).trans (by rw [failure]; rfl))
    · intro live
      have same : live = e.lives q := by rw [Ev.lives, isos_]
      have outcome : s.ev.traceCompletion = e.takeConflict r.slot q := (handed still).trans (by rw [conflict]; rfl)
      rw [Ev.takeConflict_eq there hold other, ← same] at outcome
      have waits := e.waitsOn_hands r.slot q
      have waiting := Ev.waitsOn_iso there planning carry q
      have notice := Ev.waitsOn_out there planning q
      rw [silent, now] at notice
      cases alive : live with
      | true =>
        rw [alive, if_pos rfl] at outcome
        obtain ⟨t, ran, ctl, rest, generation, pipes, _, link⟩ := goes outcome waits
        rw [notice] at link
        exact ⟨t, [], ran, rest, fun _ => ⟨rfl, by rw [ctl]; exact waiting⟩, nofun, generation, pipes, link⟩
      | false =>
        rw [alive, if_neg Bool.false_ne_true] at outcome
        obtain ⟨hands, again, awaits⟩ := Ev.waitOver_iso waiting
        obtain ⟨more, out⟩ := hands.within.out
        obtain ⟨t, ran, ctl, rest, generation, pipes, trace, link⟩ := goes outcome (hands.last waits)
        rw [← out, notice] at link
        refine ⟨t, more, ran, rest, nofun, fun _ => ⟨by rw [ctl]; exact again, ?_⟩, generation, pipes, link⟩
        have asked := Ev.settle_awaits awaits
        rw [← trace, show (⟨r.slot, i.serial⟩ : IsoRef) = r from by rw [hser]] at asked
        exact asked
    · obtain ⟨t, j, ran, hj, failed, why, time, _, same⟩ := fails .claimed .conflict (.iso q) ((handed still).trans (by
        rw [conflict]
        simp only [Ev.takeOutcome, Ev.takeConflict, there, hold]
        rfl))
      exact ⟨t, j, ran, hj, failed, why, time, same⟩
    · rw [run, State.event_start (p := { s.plant with
          ctl := { s.plant.ctl with isos := tmod s.plant.ctl.isos r.slot fun y => { y with restarts := restarts + 1 } }
          trace := { s.plant.trace with
            running := some (.trace r s.plant.net.generation (restarts + 1) s.plant.trace.limit) } }) (ns := [])]
      rw [Ev.traceCompletion_of_moved (e := s.ev) running moved, if_pos few]
      rfl
    · obtain ⟨t, j, ran, hj, failed, why, time, _⟩ := fails .unstable FailReason.unstable.cause .nothing (unstable moved many)
      exact ⟨t, j, ran, hj, failed, why, time⟩
  · intro e slot limit gen targets wfL wfP n claimer
    refine ⟨fun p h => ?_, fun k ts eq other => ?_, fun k ts l c i eq hl pipe hc ne hi => ?_⟩
    · obtain ⟨w, ok, rfl⟩ := Ev.traceOutcome_plan h
      obtain ⟨sound, closed, visited, inside⟩ := WalkEnv.stageA_ok (v := ⟨e, slot, limit⟩) wfL ok
      intro shut works met rest
      refine ⟨rfl, inside, fun k l hl pipe => Walk.mem_pipes_iff closed visited hl pipe, fun k l hl kind => ?_, fun k hk x hx => ?_,
        fun k hk c claim => WalkEnv.claim_own (sound.free k hk) claim, sound.nodup, sound.size, sound.members,
        fun k q l hq hl => ?_, rfl, rfl⟩
      · obtain ⟨shutM, worksM, passed, ends⟩ := Walk.mem_closure_iff sound closed visited hl kind
        rw [Ev.isClosed_iff] at shutM worksM passed
        rw [Ev.workable_iff hl] at worksM passed
        exact ⟨shutM, worksM, passed, ends⟩
      · obtain ⟨_, open_⟩ := sound.nodes k hk
        simpa [show tget e.p.net.nodes k = some x from hx] using open_
      · exact Ev.mem_cutoffSet wfP w hq hl
    · rw [eq]
      exact Ev.traceOutcome_notPipe e slot limit gen ts other
    · rw [eq]
      exact Ev.traceOutcome_conflict limit gen ts hl pipe hc ne hi

end Sys2Proof.Machine
end
